-- ==== Sys2Proof/Word.lean ====
section
/-! DEFINITION. The word types of the OLV1204 and the numbers of its engines, stations, cards and shelf records. -/

namespace Sys2Proof

/-- A byte of exchange memory or of the SPI port (01 R1, R3). -/
abbrev Byte := BitVec 8
/-- A 16-bit register or field. -/
abbrev Half := BitVec 16
/-- A 32-bit field: cycle count, stamp, serial. -/
abbrev Long := BitVec 32
/-- A 14-bit exchange memory address (01 R5). -/
abbrev Address := BitVec 14
/-- Twelve pin levels, bit n for station n; 1 is high. -/
abbrev Levels := BitVec 12
/-- Stations 0..11 (00_scope.md, CONVENTIONS). -/
abbrev StationId := Fin 12
/-- Engines 0..3. -/
abbrev EngineId := Fin 4
/-- Cards 0..31. -/
abbrev CardId := Fin 32
/-- Shelf indices 0..63. -/
abbrev ShelfId := Fin 64
/-- Cache entry places 0..7. -/
abbrev PlaceId := Fin 8
/-- Roster positions and slots 0..3. -/
abbrev SlotId := Fin 4

end Sys2Proof
end

