-- ==== Sys2Proof/Syntax.lean ====
section
/-! DEFINITION. The commands of the OLV1204, one constructor per row of spec/opcode_table.json. -/

namespace Sys2Proof

/-- A stop event on its way to an engine: a cancel carries the card, the others the station (05 R99). -/
inductive Stop where
  | cancel (card : CardId)
  | removal (station : StationId)
  | disable (station : StationId)
  | lineFault (station : StationId)
deriving DecidableEq, Repr

/-- A transition of ECHOn or REFECHOe: the tick of the window in which the line reads the new level, and whether it rises
(06 R108). -/
structure Transition where
  tick : Half
  rising : Bool
deriving DecidableEq, Repr

/-- The steps of the part. A port command is one complete byte of a transaction of the row's kind (01 R1). A command
whose step may read ECHOn carries the ECHO levels of that moment (06 R109). -/
inductive Instr where
  /-- CS falls (01 R1). -/
  | transactionStart
  /-- A byte of a memory read transaction completes (01 R3). -/
  | memoryRead (mosi : Byte)
  /-- A byte of a memory write transaction completes (01 R4). -/
  | memoryWrite (mosi : Byte)
  /-- A byte of a register read transaction completes (01 R6). -/
  | registerRead (mosi : Byte)
  /-- A byte of a void transaction completes (01 R2). -/
  | voidTransaction (mosi : Byte)
  /-- A byte of a RUN_CONTROL write with ENABLE at 1 and RESET at 0 completes (01 R15, R16). -/
  | enable (mosi : Byte) (echo : Levels)
  /-- A byte of a RUN_CONTROL write with ENABLE and RESET at 0 completes (01 R15, R17). -/
  | disable (mosi : Byte)
  /-- A byte of a RUN_CONTROL write with SWEEP at 1 and RESET at 0 completes, ENABLE written 1 and reading 1 (01 R15). -/
  | sweep (mosi : Byte)
  /-- A byte of a RUN_CONTROL write with RESET at 1 completes (01 R15, R20). -/
  | softReset (mosi : Byte)
  /-- A byte of a write of ATTENTION completes (01 R18). -/
  | attentionClear (mosi : Byte)
  /-- A byte of a write of ATTENTION_MASK completes (01 R19). -/
  | attentionMaskWrite (mosi : Byte)
  /-- A byte of a write of PART_ID, REFUSED_AT or an index above 4 completes (01 R6, 11 R194). -/
  | registerWriteIgnored (mosi : Byte)
  /-- CS rises (01 R14). -/
  | transactionEnd (echo : Levels)
  /-- RESET goes low and stays low for this many nanoseconds at least, as its filter has seen it; where no
  length is given, 1 µs, which is always taken (01 R20, 11 R196). -/
  | pinResetAssert (low : Nat := 1000)
  /-- RESET is released (01 R20). -/
  | pinResetEnd
  /-- POR ends (01 R21). -/
  | powerOnReset
  /-- The sweep timer's remaining time reaches 0 (02 R30). -/
  | sweepTimerExpiry
  /-- The header read of the card the sweep stands at, or the second burst of a stray card's visit (02 R32). -/
  | cardVisit
  /-- The intake burst of the card whose header has been read (02 R33). -/
  | cardIntake (echo : Levels)
  /-- A millisecond sample of PRES0..11 (03 R51). -/
  | presenceSample (pres : Levels)
  /-- The filter of the station is taken to present (03 R52). -/
  | fit (station : StationId)
  /-- The filter of the station is taken to absent (03 R53). -/
  | removal (station : StationId)
  /-- The Pending List takes the oldest station notice (02 R41). -/
  | pendingListNotice
  /-- The Supervisor takes the engine's fault report (03 R62). -/
  | faultReport (engine : EngineId)
  /-- The recheck timer of the station expires (03 R63). -/
  | recheckExpiry (station : StationId) (echo : Levels)
  /-- MCLK goes to the level and stands there for this many nanoseconds at least, as its synchroniser has seen it; where
  no length is given, 20 ns, which is always taken (04 R68, R70, 11 R196). -/
  | mclkEdge (rising : Bool) (echo : Levels) (stood : Nat := 20)
  /-- MIDX goes to the level and stands there, as MCLK does (04 R68, R71, 11 R196). -/
  | midxEdge (rising : Bool) (echo : Levels) (stood : Nat := 20)
  /-- The stop timer reaches the stop timeout (04 R74). -/
  | stopTimeout (echo : Levels)
  /-- The gate timer of the engine's open question reaches the gate limit (04 R78). -/
  | gateLimitExpiry (engine : EngineId)
  /-- The stimulus pulse falls at tick Weff (06 R111). -/
  | pulseFall (engine : EngineId)
  /-- A transition of ECHOn; the stage acts on a rising one only (06 R108, R115). -/
  | echoEdge (engine : EngineId) (transition : Transition)
  /-- A transition of REFECHOe; the stage acts on a rising one only (06 R108, R116). -/
  | referenceEdge (engine : EngineId) (transition : Transition)
  /-- The listening window closes (06 R117). -/
  | windowClose (engine : EngineId)
  /-- The settle gap runs out (06 R120). -/
  | settleEnd (engine : EngineId) (echo : Levels)
  /-- The listen counter reaches 16C with no rising edge (07 R129). -/
  | noAnswer (engine : EngineId)
  /-- The width counter reaches 4C with ECHOn high (07 R130). -/
  | codingError (engine : EngineId)
  /-- The gap counter reaches 4C with no rising edge (07 R131). -/
  | truncated (engine : EngineId)
  /-- Answer bit 112 falls after width high ticks (07 R131, R134). -/
  | answerComplete (engine : EngineId) (width : Nat)
  /-- The tail ends (07 R135). -/
  | tailEnd (engine : EngineId) (echo : Levels)
  /-- The lookup's burst reads the next shelf record (08 R147). -/
  | shelfRead (engine : EngineId) (echo : Levels)
  /-- The single re-read of a damaged candidate (08 R149). -/
  | profileReread (engine : EngineId) (echo : Levels)
  /-- The scoring pass ends (09 R159). -/
  | scoringPassEnd (engine : EngineId)
  /-- The result burst (10 R185). -/
  | resultBurst (engine : EngineId)
  /-- The delivery reaches the Supervisor (03 R59). -/
  | delivery (engine : EngineId)
  /-- The terminal burst and the release (10 R187, R188). -/
  | terminalBurst (engine : EngineId) (echo : Levels)
  /-- A stop sent to the engine reaches it (05 R100). -/
  | stopEvent (engine : EngineId) (stop : Stop)
  /-- A stopped engine ends its card and releases (05 R103). -/
  | stopTerminalBurst (engine : EngineId) (echo : Levels)
  /-- The STIMn driver senses overload while driving high (06 R121). -/
  | stimOverload (station : StationId)
  /-- A driven level of the tag frame ends (07 R126). -/
  | frameLevelEnd (engine : EngineId)
  /-- ECHOn rises while a frame is in flight; as the beginning of an answer bit, counter is the listen counter in
  ANSWER_WAIT, the low ticks of the gap in ANSWER_GAP (07 R129, R131). -/
  | answerBitRise (engine : EngineId) (counter : Nat)
  /-- ECHOn falls while a frame is in flight; as the end of an answer bit's high level, after width high ticks (07 R130). -/
  | answerBitFall (engine : EngineId) (width : Nat)
deriving DecidableEq, Repr

end Sys2Proof
end

