-- ==== Sys2Proof/Decode.lean ====
section
/-! DEFINITION. The command a word spells by the table's bits. No row of spec/opcode_table.json gives bits: the part
has commands and events, no instruction encodings. -/

namespace Sys2Proof

/-- No word spells a command: the table gives no row a bit pattern (spec/98_reader.md: no row with fixed bits). -/
def decodeTableWord (_nbits _w : Nat) : Option Instr := none

end Sys2Proof
end

