-- ==== Sys2Proof/Config.lean ====
section
/-! DEFINITION. The values the manual leaves open, as constants without a body, and the numbers it fixes for the part. -/

namespace Sys2Proof.Config

/-- What MISO shifts out for a byte clocked while CS has stayed low since a reset that ended with CS low: 01 R1 says
that the port takes no bytes then, 11 R197 that MISO drives, and no rule gives the value. A FREE VALUE: no body, so
nothing can be proved of it (log entry 4). The argument is a counter of State. -/
opaque misoWithoutTransaction : Nat → Byte

/-- Whether a low level of RESET of 100 ns or more and shorter than 1 µs is taken as a pin reset: 11 R196 says that it may
or may not be. A FREE VALUE: no body (log entry 4). The argument is a counter of State. -/
opaque shortResetTaken : Nat → Bool

/-- Whether the synchroniser takes a level of MCLK or MIDX of 15 ns or more and shorter than 20 ns: 11 R196 says that it
may or may not, by its phase against the measurement clock. A FREE VALUE: no body (log entry 4). The argument is a
counter of State. -/
opaque shortEncoderLevelTaken : Nat → Bool

/-- Ticks of 5 ns in a millisecond (00_scope.md, Time: 200 MHz). -/
def ticksPerMillisecond : Nat := 200000

/-- The recheck period in milliseconds (03 R63). -/
def recheckPeriod : Nat := 100

/-- The longest sweep period in milliseconds (02 R29). -/
def longestSweepPeriod : Nat := 60000

end Sys2Proof.Config
end

