-- ==== Sys2Proof/Machine/State.lean ====
section
/-! DEFINITION. The state of the OLV1204: every register, record, latch, counter, list and pin the manual names. -/

namespace Sys2Proof.Machine

/-- Reasons to stop with a fault. The manual names no event that stops the part, so there is none. -/
inductive Fault where
deriving DecidableEq, Repr

/-- Reasons to give a command no meaning. -/
inductive Refusal where
  /-- Raised by exec's arm of a command that has no meaning yet; no arm does. Safe: nothing can be proved of it. -/
  | notModelled (mnemonic : String)
deriving DecidableEq, Repr

/-! ## Port and registers (01, 11) -/

/-- The kind of a transaction, latched from its command byte (01 R2). -/
inductive Transaction where
  | memoryRead | memoryWrite | registerRead | registerWrite | void
deriving DecidableEq, Repr

/-- The SPI port (01 R1 to R6) with the XMU's sets for the transaction in progress (01 R13, R14). -/
structure Port where
  /-- A transaction is in progress and its bytes are taken. -/
  taking : Bool
  /-- The rest of the transaction is discarded after a soft reset (01 R20). -/
  discarding : Bool
  command : Option Transaction
  /-- Complete bytes of the transaction. -/
  count : Nat
  pointer : Address
  regIndex : Byte
  lowByte : Byte
  pairValue : Half
  /-- The byte the port shifts out while the next byte is clocked in. -/
  shiftOut : Byte
  /-- The byte shifted out during the last complete byte. -/
  shifted : Byte
  /-- Cards a controller byte of this transaction fell in (01 R13). -/
  touched : Vector Bool 32
  /-- Cards whose cancel byte was accepted nonzero (01 R14). -/
  cancelNotes : Vector Bool 32
  /-- Stations with an accepted byte in a controller-owned field (01 R14). -/
  setupNotes : Vector Bool 12
  shelfNote : Bool
  periodNote : Bool
deriving DecidableEq, Repr

/-- The pins of the port, the reset, the encoder and the lines, as levels last seen; 1 and true are high, but csLow and
resetLow say that the active-low pin is low. por is the supply monitor's level inside the part. -/
structure Pins where
  csLow : Bool
  resetLow : Bool
  /-- Power-on reset lasts (01 R21). -/
  por : Bool
  /-- The level of MCLK, and of MIDX, that the synchroniser has taken last (11 R196). -/
  mclk : Bool
  midx : Bool
  echo : Levels
  /-- REFECHO0..3, bit e for engine e. -/
  refEcho : BitVec 4
  pres : Levels
deriving DecidableEq, Repr

/-- The bit-cell select of an accepted configuration (01 Table 1-6). -/
inductive BitCell where
  | us10 | us20 | us40
deriving DecidableEq, Repr

/-- The configuration snapshot, clamped as 01 Table 1-6 says. -/
structure Snapshot where
  ppc : Half
  mclkFalling : Bool
  midxFalling : Bool
  stopTimeout : Byte
  quietWhenStopped : Bool
  presenceFilter : Byte
  bitCell : BitCell
  gateLimit : Half
  nref : Vector Half 4
deriving DecidableEq, Repr

/-- The register window's state and the shelf-fixed attribute in effect. CONFIGURED is "there is a snapshot" (01 R17). -/
structure Registers where
  enable : Bool
  snapshot : Option Snapshot
  /-- The five causes, in the places of 11 Table 11-4. -/
  causes : BitVec 5
  mask : BitVec 5
  refusedAt : Address
  shelfFixed : Bool
deriving DecidableEq, Repr

/-! ## Card Sweeper and Pending List (02) -/

/-- The sweep timer (02 R29). -/
inductive SweepTimer where
  | off
  | counting (period : Half) (remaining : Half)
deriving DecidableEq, Repr

/-- Where a sweep stands: the header read of a card is due, or its header has been read and intake is due, or the second
burst, which ends a stray card (02 R32, R33). -/
inductive Visit where
  | header (card : CardId)
  | intake (card : CardId) (bytes : List Byte)
  | stray (card : CardId)
deriving DecidableEq, Repr

/-- The Card Sweeper. -/
structure Sweeper where
  timer : SweepTimer
  latch : Bool
  visit : Option Visit
  ending : Bool
  counter : Half
deriving DecidableEq, Repr

/-- An entry of the Pending List (02 R39). -/
structure Entry where
  card : CardId
  priority : Fin 4
  station : StationId
deriving DecidableEq, Repr

/-- The station events the Supervisor tells the Pending List (02 R41). -/
inductive StationEvent where
  | presenceLost | disabled | faulted | rosterChanged
deriving DecidableEq, Repr

/-- A station notice on its way to the Pending List. -/
structure Notice where
  station : StationId
  event : StationEvent
deriving DecidableEq, Repr

/-! ## Station Supervisor (03) -/

/-- The setup copy of a station, values as taken by 03 Table 3-1. -/
structure Setup where
  enabled : Bool
  advise : Bool
  auto : Bool
  rosterCount : Fin 5
  roster : Vector (BitVec 6) 4
  arcStart : Half
  arcEnd : Half
deriving DecidableEq, Repr

/-- Why a hold lost its station: the loss mark (03 R56), the cause of a refused delivery (03 R59). -/
inductive Loss where
  | partRemoved | stationOff | lineFault
deriving DecidableEq, Repr

/-- What the Supervisor keeps for a station beside its record in memory. -/
structure Station where
  setup : Setup
  /-- Filtered presence (03 R51). -/
  present : Bool
  /-- Consecutive samples that differ from the filtered level. -/
  count : Nat
  /-- The last sample brought the count to the filter value or past it: a fit or removal is to be taken. -/
  due : Bool
  /-- Fault latch (03 R62). -/
  fault : Bool
  /-- Recheck timer: stopped, or milliseconds left (03 R63). -/
  recheck : Option Nat
  lossMark : Option Loss
  deferred : Bool
  heldPermit : Bool
  /-- The level of PERMITn (03 R57). -/
  permit : Bool
deriving DecidableEq, Repr

/-- The derived station states (03 R54). -/
inductive StationState where
  | off | empty | fault | checking | fitted | genuine | suspect | counterfeit | unreadable
deriving DecidableEq, Repr

/-- The causes of a station fault (03 R61). -/
inductive FaultCause where
  | echoStuck | stimOverload
deriving DecidableEq, Repr

/-! ## Machine Cycle Tracker (04) -/

/-- An open gating question with its gate timer (04 R77 to R79). -/
structure Question where
  timer : Nat
  suspended : Bool
deriving DecidableEq, Repr

/-- Grounds of an allowed answer (04 Table 4-3). -/
inductive Ground where
  | wholeCycle | arc | stopped
deriving DecidableEq, Repr

/-- A watch on work in flight (04 R80). -/
structure Watch where
  station : StationId
  ground : Ground
  arcStart : Half
  arcEnd : Half
  disturbed : Bool
deriving DecidableEq, Repr

/-- The Machine Cycle Tracker. -/
structure Tracker where
  angle : Half
  valid : Bool
  stopped : Bool
  indexMissed : Bool
  cycles : Long
  stopTimer : Nat
  questions : Vector (Option Question) 4
  watches : Vector (Option Watch) 4
deriving DecidableEq, Repr

/-! ## Probe engines (05 to 10) -/

/-- What an engine in GATING waits for (05 R90). -/
inductive Work where
  | frame | round
deriving DecidableEq, Repr

/-- The two passes of COMPUTING (05 Table 5-1). -/
inductive Pass where
  | lookup | scoring
deriving DecidableEq, Repr

/-- The step an engine in HELD is to enter next (05 Table 5-2). -/
inductive NextStep where
  | gating (work : Work) | settling | computing (pass : Pass) | writing
deriving DecidableEq, Repr

/-- The acts of WRITING (10 R184); stopped is the end of a stopped card (05 R103). -/
inductive Act where
  | result | delivery | terminal | stopped
deriving DecidableEq, Repr

/-- Engine states (05 Table 5-1). -/
inductive Phase where
  | idle
  | gating (work : Work)
  | reading | pulsing | listening | settling
  | computing (pass : Pass)
  | writing (act : Act)
  | held (next : NextStep)
deriving DecidableEq, Repr

/-- The card and station of a busy engine place (05 R85). -/
structure Job where
  card : CardId
  station : StationId
deriving DecidableEq, Repr

/-- The header copy taken at grant (05 R87, 10 Table 10-1). -/
structure Header where
  kind : Byte
  priority : Byte
  station : Byte
  tagAddress : Byte
  rounds : Byte
  flags : Byte
  temperature : Half
  serial : Long
deriving DecidableEq, Repr

/-- A profile record as its fields read (08 Table 8-1). -/
structure Profile where
  type : Half
  variant : Byte
  valid : Byte
  n : Byte
  minValid : Byte
  defaultRounds : Byte
  tolMin : Byte
  width : Half
  window : Half
  settle : Half
  t0 : Half
  alpha : Half
  accept : Half
  tolPpm : Long
  reject : Half
  dateFrom : Half
  dateTo : Half
  /-- e1..e8. -/
  delays : List Half
deriving DecidableEq, Repr

/-- Accumulators of one echo position (06 R118). -/
structure Position where
  sum : Nat
  largest : Nat
  smallest : Nat
deriving DecidableEq, Repr

/-- Round accumulators: V, attempts, the positions and the sum of reference intervals (06 R118). -/
structure Rounds where
  valid : Nat
  attempts : Nat
  positions : List Position
  refSum : Nat
deriving DecidableEq, Repr

/-- How collection ended (06 R119). -/
inductive Ending where
  | roundsMet | attemptsSpent | gateLimit
deriving DecidableEq, Repr

/-- The capture stage of the round in flight (06 Table 6-1). -/
structure Capture where
  running : Bool
  counter : Nat
  weff : Nat
  window : Nat
  /-- The merge latch: the edge that is being compared (06 R114). -/
  latch : Option Nat
  list : List Nat
  last : Option Nat
  overrun : Bool
  reference : Option Nat
  disturbed : Bool
deriving DecidableEq, Repr

/-- Phases of a frame attempt (07 Table 7-2); a command bit has its high and its low level, bit 0 the first sent. -/
inductive FramePhase where
  | wakeHigh | wakeLow
  | command (bit : Fin 8) (high : Bool)
  | answerWait | answerHigh | answerGap | tail
deriving DecidableEq, Repr

/-- Causes of a failed frame attempt (07 Table 7-5). -/
inductive FrameCause where
  | noAnswer | codingError | truncated | crcError | addressError | disturbed
deriving DecidableEq, Repr

/-- The decoder's decision (07 Table 7-1). -/
inductive Decision where
  | good
  | failed (cause : FrameCause)
deriving DecidableEq, Repr

/-- The frame decoder (07 Table 7-1), with the counters of 07 Fig. 9. A cell of 0 is "none fixed". -/
structure Frame where
  cell : Nat
  phase : Option FramePhase
  commandByte : Byte
  level : Nat
  listen : Nat
  width : Nat
  gap : Nat
  /-- Low ticks in a row that the tail has counted; none in the tick of the decision, after which the tail begins
  (07 R135). -/
  low : Option Nat
  answer : List Bool
  crc : Half
  decision : Option Decision
  disturbed : Bool
deriving DecidableEq, Repr

/-- The re-read of a lookup: none, due as the next burst, or waiting for the transaction end and for what that passes on
to the engine (08 R148). -/
inductive Reread where
  | none | due | waiting
deriving DecidableEq, Repr

/-- The lookup unit of an engine (08 R147 to R154). -/
structure Lookup where
  index : ShelfId
  buffer : List Byte
  crc : Half
  /-- The re-read mark. -/
  mark : Bool
  reread : Reread
  /-- The attribute was in effect when the lookup began and has been without a break since. -/
  fixedThroughout : Bool
deriving DecidableEq, Repr

/-- Card verdicts (02 Table 2-2, 11 Table 11-15). -/
inductive Verdict where
  | none | genuine | suspect | counterfeit | unreadable | unlisted | inconclusive
deriving DecidableEq, Repr

/-- Error codes (02 Table 2-3). -/
inductive ErrorCode where
  | none | badKind | badStation | stationOff | stationFault | notFitted | notInRoster | stationBusy | faultPersists
  | partRemoved | lineFault | profileDamaged | profileInvalid | serialMismatch | badStatus | resetLost
deriving DecidableEq, Repr

/-- The figures an engine holds for WRITING (09 R177) and the error its work gave (10 R186). -/
structure Figures where
  verdict : Verdict
  c : List Nat
  s : Nat
  w : Nat
  error : ErrorCode
deriving DecidableEq, Repr

/-- The outcome fixed by the first stop event (05 Table 5-3). -/
inductive StopOutcome where
  | cancelled
  | lost (loss : Loss)
deriving DecidableEq, Repr

/-- A probe engine with its places, copies, stages and the messages between it and the Supervisor. -/
structure Engine where
  phase : Phase
  /-- The pre-check has passed in this tick, and the stimulus output rises in the next (06 R109). -/
  rising : Bool
  /-- The sampler: ECHOn, and REFECHOe, read high in the tick before the present one (06 R108). -/
  echoBefore : Bool
  refBefore : Bool
  job : Option Job
  header : Header
  profile : Option Profile
  profileIndex : Option ShelfId
  /-- R, once fixed (05 R92). -/
  target : Option Nat
  rounds : Rounds
  ending : Option Ending
  capture : Capture
  /-- Ticks of the settle gap run. -/
  settle : Nat
  frame : Frame
  frameAttempts : Nat
  lastFailure : Option FrameCause
  tagRecord : Option (List Byte)
  /-- Reason flags gathered, in the places of 11 Table 11-14. -/
  flags : Half
  figures : Figures
  nref : Half
  stopOutcome : Option StopOutcome
  /-- The cause of a refused delivery. -/
  answer : Option Loss
  lookup : Lookup
  /-- The fault report sent and not yet taken (03 R61). -/
  report : Option FaultCause
  /-- Stop events sent and not yet taken (05 R99). -/
  stops : List Stop
  stopAtHoldBegin : Bool
deriving DecidableEq, Repr

/-! ## Profile Cache (08) -/

/-- A filled entry place (08 R153). -/
structure CacheEntry where
  index : ShelfId
  type : Half
  variant : Byte
  copy : List Byte
deriving DecidableEq, Repr

/-- The Profile Cache: eight places and the recency list, most recent first. -/
structure Cache where
  places : Vector (Option CacheEntry) 8
  recency : List PlaceId
deriving DecidableEq, Repr

/-! ## The whole -/

/-- Exchange memory: cells by rising address; an address not listed reads 0x00, as every byte does after POR (01 R21). -/
abbrev Memory := List Host.Cell

/-- The state of the part. -/
structure State where
  port : Port
  pins : Pins
  regs : Registers
  mem : Memory
  sweeper : Sweeper
  waiting : List Entry
  notices : List Notice
  stations : Vector Station 12
  holds : Vector (Option EngineId) 12
  crosspoint : Vector (Option StationId) 4
  /-- The STIMn drivers that hold their line low after an overload (06 R121, Table 6-4). -/
  overloadHold : Levels
  tracker : Tracker
  engines : Vector Engine 4
  cache : Cache
  /-- Ticks run of the present millisecond (the model's own, log entry 2). -/
  msTicks : Nat
  /-- Argument of the free value of log entry 4 (the model's own). -/
  freeReads : Nat
  /-- The commands that wait, first in first out (the model's own). -/
  pending : List Instr
deriving DecidableEq, Repr

/-! ## Reset values -/

/-- No transaction (01 Table 1-7). -/
def Port.reset : Port :=
  { taking := false, discarding := false, command := none, count := 0, pointer := 0, regIndex := 0, lowByte := 0,
    pairValue := 0, shiftOut := 0, shifted := 0, touched := Vector.replicate 32 false,
    cancelNotes := Vector.replicate 32 false, setupNotes := Vector.replicate 12 false, shelfNote := false,
    periodNote := false }

/-- Levels of the input pins as the model starts: DESIGN CHOICE (log entry 5); PRES high is the pull-up (11 R196). The
power-on reset has ended (01 R21). -/
def Pins.reset : Pins :=
  { csLow := false, resetLow := false, por := false, mclk := false, midx := false, echo := 0, refEcho := 0,
    pres := BitVec.allOnes 12 }

/-- Registers after POR (01 R21). -/
def Registers.reset : Registers :=
  { enable := false, snapshot := none, causes := 0, mask := 0, refusedAt := 0, shelfFixed := false }

/-- Card Sweeper after any reset (02 Table 2-7). -/
def Sweeper.reset : Sweeper :=
  { timer := .off, latch := false, visit := none, ending := false, counter := 0 }

/-- A station's setup copy before the first activation (DESIGN CHOICE, log entry 7). -/
def Setup.reset : Setup :=
  { enabled := false, advise := false, auto := false, rosterCount := 0, roster := Vector.replicate 4 0, arcStart := 0,
    arcEnd := 0 }

/-- Supervisor state of a station after any reset (03 R65). -/
def Station.reset : Station :=
  { setup := Setup.reset, present := false, count := 0, due := false, fault := false, recheck := none,
    lossMark := none, deferred := false, heldPermit := false, permit := false }

/-- Tracker after any reset (04 R84). -/
def Tracker.reset : Tracker :=
  { angle := 0, valid := false, stopped := false, indexMissed := false, cycles := 0, stopTimer := 0,
    questions := Vector.replicate 4 none, watches := Vector.replicate 4 none }

/-- Cleared accumulators (05 R90). -/
def Rounds.reset : Rounds := { valid := 0, attempts := 0, positions := [], refSum := 0 }

/-- A cleared capture stage (06 Table 6-4). -/
def Capture.reset : Capture :=
  { running := false, counter := 0, weff := 0, window := 0, latch := none, list := [], last := none, overrun := false,
    reference := none, disturbed := false }

/-- An idle frame decoder (07 R143). The command byte is DEDUCED (log entry 7): as at the start of an attempt it is 0x40
plus the tag address of the header copy, which reads 0 then. The counters and the CRC register hold 0 (DESIGN CHOICE,
log entry 7). -/
def Frame.reset : Frame :=
  { cell := 0, phase := none, commandByte := 0x40, level := 0, listen := 0, width := 0, gap := 0, low := none,
    answer := [], crc := 0, decision := none, disturbed := false }

/-- An idle lookup unit (08 R158). The scan's index and the CRC register hold 0 (DESIGN CHOICE, log entry 7). -/
def Lookup.reset : Lookup :=
  { index := 0, buffer := [], crc := 0, mark := false, reread := .none, fixedThroughout := false }

/-- No figures held (09 R178). -/
def Figures.reset : Figures := { verdict := .none, c := [], s := 0, w := 0, error := .none }

/-- An empty header copy (05 R106). -/
def Header.reset : Header :=
  { kind := 0, priority := 0, station := 0, tagAddress := 0, rounds := 0, flags := 0, temperature := 0, serial := 0 }

/-- An engine after any reset (05 R106). -/
def Engine.reset : Engine :=
  { phase := .idle, rising := false, echoBefore := false, refBefore := false, job := none, header := Header.reset,
    profile := none, profileIndex := none, target := none, rounds := Rounds.reset, ending := none,
    capture := Capture.reset, settle := 0, frame := Frame.reset, frameAttempts := 0, lastFailure := none,
    tagRecord := none, flags := 0, figures := Figures.reset, nref := 0, stopOutcome := none, answer := none,
    lookup := Lookup.reset, report := none, stops := [], stopAtHoldBegin := false }

/-- An empty cache (08 R158). -/
def Cache.reset : Cache := { places := Vector.replicate 8 none, recency := [] }

/-- Memory after POR: all zero but config fault 0xFF and the twelve holder bytes 0xFF, which their owners rewrite
(01 R21, 03 R66, 04 R84). -/
def resetMemory : Memory :=
  [(0x85, 0xFF), (0x112, 0xFF), (0x192, 0xFF), (0x212, 0xFF), (0x292, 0xFF), (0x312, 0xFF), (0x392, 0xFF),
   (0x412, 0xFF), (0x492, 0xFF), (0x512, 0xFF), (0x592, 0xFF), (0x612, 0xFF), (0x692, 0xFF)]

/-- The part right after power-on reset (01 R21, 03 R66, 04 R84, 05 R106), no command waiting. -/
def State.reset : State :=
  { port := Port.reset, pins := Pins.reset, regs := Registers.reset, mem := resetMemory, sweeper := Sweeper.reset,
    waiting := [], notices := [], stations := Vector.replicate 12 Station.reset,
    holds := Vector.replicate 12 none, crosspoint := Vector.replicate 4 none, overloadHold := 0,
    tracker := Tracker.reset, engines := Vector.replicate 4 Engine.reset, cache := Cache.reset, msTicks := 0,
    freeReads := 0, pending := [] }

end Sys2Proof.Machine
end

