-- ==== Sys2Proof/Machine/Layout.lean ====
section
/-! DEFINITION. Where every shared field lies and the code of every enumerated value (11 Tables 11-1 to 11-16). -/

namespace Sys2Proof.Machine

/-! ## Areas (01 Table 1-3) -/

/-- First byte of station n's record. -/
def stationBase (n : StationId) : Nat := 0x100 + 128 * n.val
/-- First byte of slot p of station n (11 Table 11-9). -/
def slotBase (n : StationId) (p : SlotId) : Nat := stationBase n + 0x20 + 20 * p.val
/-- First byte of card k. -/
def cardBase (k : CardId) : Nat := 0x800 + 64 * k.val
/-- First byte of shelf record i. -/
def shelfBase (i : ShelfId) : Nat := 0x1000 + 64 * i.val

/-! ## Configuration block (11 Table 11-6) -/

def cfgPpc : Nat := 0x00
def cfgMclkEdge : Nat := 0x02
def cfgMidxEdge : Nat := 0x03
def cfgStopTimeout : Nat := 0x04
def cfgQuietWhenStopped : Nat := 0x05
def cfgSweepPeriod : Nat := 0x06
def cfgShelfFixed : Nat := 0x08
def cfgPresenceFilter : Nat := 0x09
def cfgBitCell : Nat := 0x0A
def cfgGateLimit : Nat := 0x0C
/-- Nref(e). -/
def cfgNref (e : EngineId) : Nat := 0x0E + 2 * e.val

/-! ## Machine status record (11 Table 11-7) -/

def msAngle : Nat := 0x80
def msConfigFault : Nat := 0x85
def msCycles : Nat := 0x88

/-! ## Station record (11 Table 11-8), offsets -/

def stState : Nat := 0x10
def stPresent : Nat := 0x11
def stHolder : Nat := 0x12
def stFaultCause : Nat := 0x13
def stStamp : Nat := 0x14
def stChangeFlag : Nat := 0x18

/-! ## Card (11 Table 11-10), offsets -/

def cdCancel : Nat := 0x01
def cdKind : Nat := 0x02
def cdPriority : Nat := 0x03
def cdStation : Nat := 0x04
def cdTagAddress : Nat := 0x05
def cdRounds : Nat := 0x06
def cdFlags : Nat := 0x07
def cdTemperature : Nat := 0x08
def cdSerial : Nat := 0x0A
/-- Header bytes the intake comparison reads: 0x00..0x0D (11 R195). -/
def cdHeaderLength : Nat := 14
def cdError : Nat := 0x10
def cdVerdict : Nat := 0x11
def cdReasonFlags : Nat := 0x12
def cdIntakeNumber : Nat := 0x14
def cdEngine : Nat := 0x16
def cdProfileIndex : Nat := 0x17
def cdStamp : Nat := 0x1E
def cdTagRecord : Nat := 0x22
def cdIntervals : Nat := 0x30

/-! ## Codes -/

/-- Command byte codes; every other value is void (11 Table 11-1, R194). -/
def transactionOf (b : Byte) : Transaction :=
  if b = 0xA1 then .memoryRead
  else if b = 0xA2 then .memoryWrite
  else if b = 0xB1 then .registerRead
  else if b = 0xB2 then .registerWrite
  else .void

def statusEmpty : Byte := 0x00
def statusPosted : Byte := 0x01
def statusTaken : Byte := 0x02
def statusRunning : Byte := 0x03
def statusDone : Byte := 0x04
def statusFailed : Byte := 0x05
def statusCancelled : Byte := 0x06

def kindIdentify : Byte := 0x01
def kindVerify : Byte := 0x02
def kindSurvey : Byte := 0x03
def kindClearFault : Byte := 0x10
def kindForget : Byte := 0x11

/-- An engine kind (02 R22). -/
def isEngineKind (k : Byte) : Bool := k = kindIdentify || k = kindVerify || k = kindSurvey
/-- A fast kind (02 R22). -/
def isFastKind (k : Byte) : Bool := k = kindClearFault || k = kindForget

/-- 0xFF: no engine, no profile index, no holder (11 Tables 11-8, 11-10). -/
def codeNone : Byte := 0xFF

/-- Error codes (11 Table 11-13). -/
def ErrorCode.code : ErrorCode → Byte
  | .none => 0x00
  | .badKind => 0x01
  | .badStation => 0x02
  | .stationOff => 0x03
  | .stationFault => 0x04
  | .notFitted => 0x05
  | .notInRoster => 0x06
  | .stationBusy => 0x07
  | .faultPersists => 0x08
  | .partRemoved => 0x09
  | .lineFault => 0x0A
  | .profileDamaged => 0x0B
  | .profileInvalid => 0x0C
  | .serialMismatch => 0x0D
  | .badStatus => 0x0E
  | .resetLost => 0x0F

/-- Card verdict codes (11 Table 11-15). -/
def Verdict.code : Verdict → Byte
  | .none => 0x00
  | .genuine => 0x01
  | .suspect => 0x02
  | .counterfeit => 0x03
  | .unreadable => 0x04
  | .unlisted => 0x05
  | .inconclusive => 0x06

def slotUnverified : Byte := 0x00
def slotGenuine : Byte := 0x01
def slotSuspect : Byte := 0x02
def slotCounterfeit : Byte := 0x03
def slotUnreadable : Byte := 0x04

/-- Station state codes (11 Table 11-15). -/
def StationState.code : StationState → Byte
  | .off => 0x00
  | .empty => 0x01
  | .fault => 0x02
  | .checking => 0x03
  | .fitted => 0x04
  | .genuine => 0x05
  | .suspect => 0x06
  | .counterfeit => 0x07
  | .unreadable => 0x08

/-- Fault cause codes (11 Table 11-16). -/
def FaultCause.code : FaultCause → Byte
  | .echoStuck => 0x01
  | .stimOverload => 0x02

/-- The error code of a lost hold (03 R59, 05 Table 5-3). -/
def Loss.error : Loss → ErrorCode
  | .partRemoved => .partRemoved
  | .stationOff => .stationOff
  | .lineFault => .lineFault

/-- The error code of a pending card taken out at a station notice (02 R41). -/
def StationEvent.error : StationEvent → ErrorCode
  | .presenceLost => .partRemoved
  | .disabled => .stationOff
  | .faulted => .stationFault
  | .rosterChanged => .notInRoster

/-- Ticks of the bit cell (06 Table 6-2). -/
def BitCell.ticks : BitCell → Nat
  | .us10 => 2000
  | .us20 => 4000
  | .us40 => 8000

/-- Bit-cell select codes; other values reject (11 Table 11-6). -/
def bitCellOf (b : Byte) : Option BitCell :=
  if b = 0 then some .us10
  else if b = 1 then some .us20
  else if b = 2 then some .us40
  else none

end Sys2Proof.Machine
end

