-- ==== Sys2Proof/Machine/Ops.lean ====
section
/-! DEFINITION. The named operations over exchange memory, the per-engine and per-station places, and the bytes of
multi-byte fields. -/

namespace Sys2Proof.Machine

/-! ## Exchange memory -/

/-- The byte at an address; an address not listed reads 0x00 (01 R21). -/
def Memory.read : Memory → Nat → Byte
  | [], _ => 0
  | (k, v) :: rest, a => if k = a then v else Memory.read rest a

/-- Write one byte, keeping addresses rising and listing no 0x00. -/
def Memory.write : Memory → Nat → Byte → Memory
  | [], a, v => if v = 0 then [] else [(a, v)]
  | (k, w) :: rest, a, v =>
    if a < k then (if v = 0 then (k, w) :: rest else (a, v) :: (k, w) :: rest)
    else if a = k then (if v = 0 then rest else (a, v) :: rest)
    else (k, w) :: Memory.write rest a v

/-- Write a run of bytes at rising addresses. -/
def Memory.writeBytes : Memory → Nat → List Byte → Memory
  | m, _, [] => m
  | m, a, b :: bs => Memory.writeBytes (Memory.write m a b) (a + 1) bs

/-- Every cell lies at or above the bound, addresses rise strictly, no cell holds 0x00. -/
def Memory.wfFrom : Nat → Memory → Bool
  | _, [] => true
  | low, (k, v) :: rest => decide (low ≤ k) && decide (v ≠ 0) && Memory.wfFrom (k + 1) rest

/-- The canonical form of memory. -/
def Memory.wf (m : Memory) : Bool := Memory.wfFrom 0 m

/-! ## Multi-byte fields, little-endian (00_scope.md) -/

/-- A 16-bit value from its low and high byte. -/
def halfOf (low high : Byte) : Half := high ++ low

/-- Bytes of a 16-bit field, lower address first. -/
def halfBytes (h : Half) : List Byte := [h.extractLsb' 0 8, h.extractLsb' 8 8]

/-- Bytes of a 32-bit field, lower address first. -/
def longBytes (l : Long) : List Byte :=
  [l.extractLsb' 0 8, l.extractLsb' 8 8, l.extractLsb' 16 8, l.extractLsb' 24 8]

/-- A flag byte. -/
def flagByte (b : Bool) : Byte := if b then 1 else 0

/-- The byte a controller or a block reads. -/
def State.byte (s : State) (a : Nat) : Byte := Memory.read s.mem a

/-- A 16-bit field. -/
def State.half (s : State) (a : Nat) : Half := halfOf (s.byte a) (s.byte (a + 1))

/-- A 32-bit field. -/
def State.long (s : State) (a : Nat) : Long := s.half (a + 2) ++ s.half a

/-- A run of bytes. -/
def State.bytes (s : State) (a len : Nat) : List Byte := (List.range len).map fun i => s.byte (a + i)

/-- A part-side write or an accepted controller byte: the bytes from an address on. -/
def State.put (s : State) (a : Nat) (bs : List Byte) : State := { s with mem := Memory.writeBytes s.mem a bs }

/-! ## Places -/

def allEngines : List EngineId := [0, 1, 2, 3]
def allStations : List StationId := [0, 1, 2, 3, 4, 5, 6, 7, 8, 9, 10, 11]
def allSlots : List SlotId := [0, 1, 2, 3]
def allCards : List CardId :=
  [0, 1, 2, 3, 4, 5, 6, 7, 8, 9, 10, 11, 12, 13, 14, 15] ++ [16, 17, 18, 19, 20, 21, 22, 23, 24, 25, 26, 27, 28, 29, 30, 31]

/-- Engine e. -/
def State.engine (s : State) (e : EngineId) : Engine := s.engines[e.val]

/-- Change engine e. -/
def State.modEngine (s : State) (e : EngineId) (f : Engine → Engine) : State :=
  { s with engines := s.engines.set e.val (f (s.engine e)) }

/-- What the Supervisor keeps for station n. -/
def State.station (s : State) (n : StationId) : Station := s.stations[n.val]

/-- Change what the Supervisor keeps for station n. -/
def State.modStation (s : State) (n : StationId) (f : Station → Station) : State :=
  { s with stations := s.stations.set n.val (f (s.station n)) }

/-- The engine that holds station n (05 R85). -/
def State.holder (s : State) (n : StationId) : Option EngineId := s.holds[n.val]

/-- Station n is held. -/
def State.held (s : State) (n : StationId) : Bool := (s.holder n).isSome

/-- Mark station n held by an engine or not held. -/
def State.setHold (s : State) (n : StationId) (h : Option EngineId) : State :=
  { s with holds := s.holds.set n.val h }

/-- The station engine e's Crosspoint column is closed to (05 R89). -/
def State.point (s : State) (e : EngineId) : Option StationId := s.crosspoint[e.val]

/-- Close or open the point of engine e. -/
def State.setPoint (s : State) (e : EngineId) (n : Option StationId) : State :=
  { s with crosspoint := s.crosspoint.set e.val n }

/-- The question in engine e's place (04 R77). -/
def State.question (s : State) (e : EngineId) : Option Question := s.tracker.questions[e.val]

/-- Set or remove the question in engine e's place. -/
def State.setQuestion (s : State) (e : EngineId) (q : Option Question) : State :=
  { s with tracker := { s.tracker with questions := s.tracker.questions.set e.val q } }

/-- The watch in engine e's place (04 R80). -/
def State.watch (s : State) (e : EngineId) : Option Watch := s.tracker.watches[e.val]

/-- Open, change or close the watch in engine e's place. -/
def State.setWatch (s : State) (e : EngineId) (w : Option Watch) : State :=
  { s with tracker := { s.tracker with watches := s.tracker.watches.set e.val w } }

def State.setPort (s : State) (p : Port) : State := { s with port := p }
def State.setPins (s : State) (p : Pins) : State := { s with pins := p }
def State.setRegs (s : State) (r : Registers) : State := { s with regs := r }
def State.setSweeper (s : State) (w : Sweeper) : State := { s with sweeper := w }
def State.setWaiting (s : State) (l : List Entry) : State := { s with waiting := l }
def State.setNotices (s : State) (l : List Notice) : State := { s with notices := l }
def State.setTracker (s : State) (t : Tracker) : State := { s with tracker := t }
def State.setCache (s : State) (c : Cache) : State := { s with cache := c }
def State.setOverloadHold (s : State) (h : Levels) : State := { s with overloadHold := h }

/-- The ECHO levels of the moment a command is taken (06 R109). -/
def State.sampleEcho (s : State) (echo : Levels) : State := s.setPins { s.pins with echo := echo }

/-- ECHOn reads high. -/
def State.echoHigh (s : State) (n : StationId) : Bool := s.pins.echo.getLsbD n.val

/-- ECHOn of the station that engine e holds reads high (05 R89). -/
def State.echoOf (s : State) (e : EngineId) : Bool :=
  match (s.engine e).job with
  | some j => s.echoHigh j.station
  | none => false

/-- REFECHOe reads high. -/
def State.refHigh (s : State) (e : EngineId) : Bool := s.pins.refEcho.getLsbD e.val

/-- A reset lasts: a pin reset, or the power-on reset, during which the port and every output behave alike (01 R20, R21). -/
def State.inReset (s : State) : Bool := s.pins.resetLow || s.pins.por

/-- The Supervisor and the Tracker are active from the first accepted configuration to the next reset, which is when
CONFIGURED reads 1 (01 R17, 03 R46, 04 R68). -/
def State.configured (s : State) : Bool := s.regs.snapshot.isSome

/-- A step of the part's blocks: nothing happens while a reset lasts (01 R20), nor where the event cannot come
(log entry 8). -/
def State.whenever (s : State) (possible : Bool) (act : State → State) : State :=
  if s.inReset then s else if possible then act s else s

/-- A choice the manual leaves open uses up one free value (log entry 4). -/
def State.countFree (s : State) (used : Bool) : State := if used then { s with freeReads := s.freeReads + 1 } else s

/-- Run an act for each element, first to last. -/
def forAll {α : Type} (xs : List α) (act : α → State → State) (s : State) : State :=
  xs.foldl (fun t x => act x t) s

end Sys2Proof.Machine
end

