-- ==== Sys2Proof/Machine/Flags.lean ====
section
/-! DEFINITION. The attention causes, the reason flags and the registers and outputs computed from the state. -/

namespace Sys2Proof.Machine

/-! ## Attention causes, in the places of 11 Table 11-4 -/

def causeCardEnd : BitVec 5 := 0b00001
def causeStationChange : BitVec 5 := 0b00010
def causeWriteRefused : BitVec 5 := 0b00100
def causeConfigRejected : BitVec 5 := 0b01000
def causeMachineEvent : BitVec 5 := 0b10000

/-- A source sets its cause; a set cause stays set (01 R18). -/
def State.raise (s : State) (c : BitVec 5) : State := s.setRegs { s.regs with causes := s.regs.causes ||| c }

/-- Set a cause if a condition holds. -/
def State.raiseIf (s : State) (b : Bool) (c : BitVec 5) : State := if b then s.raise c else s

/-- A cause reads 1. -/
def State.causeSet (s : State) (c : BitVec 5) : Bool := s.regs.causes &&& c ≠ 0

/-- The lowest station whose change flag reads 1, or 0xF (01 R18). -/
def State.lowestChanged (s : State) : BitVec 4 :=
  match allStations.find? fun n => s.byte (stationBase n + stChangeFlag) = 1 with
  | some n => BitVec.ofNat 4 n.val
  | none => 0xF

/-- ATTENTION as it reads (11 Table 11-4). -/
def State.attention (s : State) : Half := s.lowestChanged ++ (0 : BitVec 7) ++ s.regs.causes

/-- ATTN is pulled while an unmasked cause is set and no reset lasts (01 R19, 11 R197). -/
def State.attn (s : State) : Bool := !s.inReset && s.regs.causes &&& s.regs.mask ≠ 0

/-! ## Registers (11 Tables 11-2 to 11-5) -/

/-- ACTIVE: an engine is in a state other than IDLE and HELD (05 R98). -/
def Engine.working (g : Engine) : Bool :=
  match g.phase with
  | .idle => false
  | .held _ => false
  | _ => true

/-- RUN_CONTROL.ACTIVE. -/
def State.active (s : State) : Bool := allEngines.any fun e => (s.engine e).working

def partId : Half := 0x7C41

/-- The value a register read takes (01 R6, 11 R194). -/
def State.registerValue (s : State) (index : Byte) : Half :=
  if index = 0 then partId
  else if index = 1 then
    (0 : BitVec 6) ++ BitVec.ofBool s.configured ++ BitVec.ofBool s.active ++ (0 : BitVec 7) ++ BitVec.ofBool s.regs.enable
  else if index = 2 then s.attention
  else if index = 3 then (0 : BitVec 11) ++ s.regs.mask
  else if index = 4 then (0 : BitVec 2) ++ s.regs.refusedAt
  else 0

/-! ## Reason flags, in the places of 11 Table 11-14 -/

def flagWidthClamped : Half := 0x0001
def flagCountMismatch : Half := 0x0002
def flagRefMissing : Half := 0x0004
def flagOverrun : Half := 0x0008
def flagDisturbed : Half := 0x0010
def flagNoAnswer : Half := 0x0020
def flagCodingError : Half := 0x0040
def flagTruncated : Half := 0x0080
def flagCrcError : Half := 0x0100
def flagAddressError : Half := 0x0200
def flagCacheHit : Half := 0x0400
def flagClamped : Half := 0x0800
def flagNoisy : Half := 0x1000
def flagDateRange : Half := 0x2000
def flagAttempts : Half := 0x4000
def flagGateTimeout : Half := 0x8000

/-- The flag of a failed frame attempt (07 R137). -/
def FrameCause.flag : FrameCause → Half
  | .noAnswer => flagNoAnswer
  | .codingError => flagCodingError
  | .truncated => flagTruncated
  | .crcError => flagCrcError
  | .addressError => flagAddressError
  | .disturbed => flagDisturbed

/-- Gather a reason flag; a flag is never cleared during the card's life (02 R25). -/
def Engine.addFlag (g : Engine) (f : Half) : Engine := { g with flags := g.flags ||| f }

/-- Gather a reason flag for engine e's card. -/
def State.addFlag (s : State) (e : EngineId) (f : Half) : State := s.modEngine e (·.addFlag f)

/-! ## Outputs computed from the state -/

/-- The engine's stimulus output is high: in PULSING and in the high levels of a frame, from the tick after the pre-check
on (05 R89, 06 R109, 07 Table 7-2). -/
def Engine.outputHigh (g : Engine) : Bool :=
  !g.rising &&
    match g.phase with
    | .pulsing => true
    | .reading =>
      match g.frame.phase with
      | some .wakeHigh => true
      | some (.command _ high) => high
      | _ => false
    | _ => false

/-- REFSTIMe is high with the pulse of PULSING only (05 R105), and low while a reset lasts (11 R197). -/
def State.refStim (s : State) (e : EngineId) : Bool :=
  !s.inReset && (s.engine e).phase = .pulsing && (s.engine e).outputHigh

/-- The engine whose closed Crosspoint point takes the input of the STIMn driver high, if one does (05 R89). -/
def State.driver (s : State) (n : StationId) : Option EngineId :=
  allEngines.find? fun e => s.point e = some n && (s.engine e).outputHigh

/-- STIMn is high: its driver's input is high, its overload hold does not stand (06 R121), and no reset lasts
(05 R89, 11 R197). -/
def State.stim (s : State) (n : StationId) : Bool :=
  !s.inReset && (s.driver n).isSome && !s.overloadHold.getLsbD n.val

/-- PERMITn as driven: the Supervisor's level, low while a reset lasts (03 R57, 11 R197). -/
def State.permitHigh (s : State) (n : StationId) : Bool := !s.inReset && (s.station n).permit

/-- The overload sense of STIMn trips: its driver takes the line low and holds it (06 R121). -/
def State.tripDriver (s : State) (n : StationId) : State :=
  let bit : Levels := 1 <<< n.val
  s.setOverloadHold (s.overloadHold ||| bit)

/-- A driver whose input has gone low holds its line no more (06 R121). -/
def State.releaseDriver (s : State) (n : StationId) : State :=
  let bit : Levels := 1 <<< n.val
  if (s.driver n).isNone then s.setOverloadHold (s.overloadHold &&& ~~~bit) else s

/-- MISO is driven (11 R197). -/
def State.misoDriven (s : State) : Bool := s.pins.csLow && !s.inReset

end Sys2Proof.Machine
end

