-- ==== Sys2Proof/Machine/Operands.lean ====
section
/-! DEFINITION. The operands the blocks read: configuration block, station setup, slots, card headers, profile and tag
records, and the CRC over them. -/

namespace Sys2Proof.Machine

/-! ## Configuration block (01 Table 1-6) -/

/-- 0 taken as 1. -/
def atLeastOne {w : Nat} (x : BitVec w) : BitVec w := if x = 0 then 1 else x

/-- The snapshot the configuration block gives, or the offset of the field that rejects it (01 R16). -/
def State.readConfiguration (s : State) : Except Byte Snapshot :=
  if (s.half cfgPpc).toNat < 16 then .error (BitVec.ofNat 8 cfgPpc)
  else
    match bitCellOf (s.byte cfgBitCell) with
    | none => .error (BitVec.ofNat 8 cfgBitCell)
    | some cell =>
      .ok { ppc := s.half cfgPpc
            mclkFalling := s.byte cfgMclkEdge ≠ 0
            midxFalling := s.byte cfgMidxEdge ≠ 0
            stopTimeout := atLeastOne (s.byte cfgStopTimeout)
            quietWhenStopped := s.byte cfgQuietWhenStopped ≠ 0
            presenceFilter := atLeastOne (s.byte cfgPresenceFilter)
            bitCell := cell
            gateLimit := atLeastOne (s.half cfgGateLimit)
            nref := Vector.ofFn fun e => s.half (cfgNref e) }

/-- The sweep timer the period field gives: OFF for 0, else COUNTING the whole period, at most 60000 ms (02 R29). -/
def State.readSweepPeriod (s : State) : SweepTimer :=
  let field := s.half cfgSweepPeriod
  if field = 0 then .off
  else
    let period := if field.toNat > Config.longestSweepPeriod then BitVec.ofNat 16 Config.longestSweepPeriod else field
    .counting period period

/-- The shelf-fixed field as an attribute (01 Table 1-6). -/
def State.shelfFixedField (s : State) : Bool := s.byte cfgShelfFixed ≠ 0

/-! ## Station setup (03 Table 3-1) -/

/-- Roster count, above 4 taken as 4. -/
def rosterCountOf (b : Byte) : Fin 5 := if h : b.toNat < 5 then ⟨b.toNat, h⟩ else 4

/-- The controller-owned fields of station n as taken. -/
def State.readSetup (s : State) (n : StationId) : Setup :=
  let base := stationBase n
  { enabled := s.byte base ≠ 0
    advise := s.byte (base + 1) = 1
    auto := s.byte (base + 2) = 1
    rosterCount := rosterCountOf (s.byte (base + 3))
    roster := Vector.ofFn fun p => (s.byte (base + 4 + p.val)).setWidth 6
    arcStart := s.half (base + 8)
    arcEnd := s.half (base + 10) }

/-- Position p is below the roster count and repeats no lower position's address (03 R49). -/
def Setup.activeAt (c : Setup) (p : SlotId) : Bool :=
  decide (p.val < c.rosterCount.val) && allSlots.all fun q => !(decide (q < p) && c.roster[q.val] == c.roster[p.val])

/-- The active positions, ascending. -/
def Setup.activeSlots (c : Setup) : List SlotId := allSlots.filter c.activeAt

/-- The active position whose address equals the tag address, taken as a whole byte (02 R34, 03 R60). -/
def Setup.positionOf (c : Setup) (tag : Byte) : Option SlotId :=
  c.activeSlots.find? fun p => (c.roster[p.val]).setWidth 8 = tag

/-- The tag address equals the address of an active roster entry. -/
def Setup.matchesTag (c : Setup) (tag : Byte) : Bool := (c.positionOf tag).isSome

/-! ## Slots (03 R45, 11 Table 11-9) -/

/-- The fields of a slot but its stamp. -/
structure SlotFields where
  verdict : Byte
  score : Half
  type : Half
  variant : Byte
  serial : Long
  lot : Half
  date : Half
deriving DecidableEq, Repr

/-- A reset slot. -/
def SlotFields.cleared : SlotFields :=
  { verdict := slotUnverified, score := 0, type := 0, variant := 0, serial := 0, lot := 0, date := 0 }

/-- The fields of slot p of station n as they stand. -/
def State.readSlot (s : State) (n : StationId) (p : SlotId) : SlotFields :=
  let base := slotBase n p
  { verdict := s.byte base, score := s.half (base + 2), type := s.half (base + 4), variant := s.byte (base + 6),
    serial := s.long (base + 8), lot := s.half (base + 0x0C), date := s.half (base + 0x0E) }

/-- The verdict byte of a slot. -/
def State.slotVerdict (s : State) (n : StationId) (p : SlotId) : Byte := s.byte (slotBase n p)

/-! ## Card header (02 Table 2-1) -/

/-- The header copy an engine takes at grant (05 R87). -/
def State.readHeader (s : State) (k : CardId) : Header :=
  let base := cardBase k
  { kind := s.byte (base + cdKind), priority := s.byte (base + cdPriority), station := s.byte (base + cdStation),
    tagAddress := s.byte (base + cdTagAddress), rounds := s.byte (base + cdRounds), flags := s.byte (base + cdFlags),
    temperature := s.half (base + cdTemperature), serial := s.long (base + cdSerial) }

/-- The header bytes of the intake comparison (02 R33, 11 R195). -/
def State.headerBytes (s : State) (k : CardId) : List Byte := s.bytes (cardBase k) cdHeaderLength

/-- The status byte of card k. -/
def State.cardStatus (s : State) (k : CardId) : Byte := s.byte (cardBase k)

/-- NOTIFY in the header in memory. -/
def State.cardNotify (s : State) (k : CardId) : Bool := (s.byte (cardBase k + cdFlags)).getLsbD 1

def Header.tempPresent (h : Header) : Bool := h.flags.getLsbD 0
def Header.notify (h : Header) : Bool := h.flags.getLsbD 1
def Header.expectSerial (h : Header) : Bool := h.flags.getLsbD 2

/-- Priority as entered on the pending list: above 3 taken as 3 (02 R22). -/
def priorityOf (b : Byte) : Fin 4 := if h : b.toNat < 4 then ⟨b.toNat, h⟩ else 3

/-- The station a header names, if it is 0..11. -/
def stationOf (b : Byte) : Option StationId := if h : b.toNat < 12 then some ⟨b.toNat, h⟩ else none

/-! ## CRC (07 R133, 08 R145) -/

/-- One bit into the CRC register: polynomial 0x1021. -/
def crcBit (reg : Half) (b : Bool) : Half :=
  let shifted := reg <<< 1
  if (reg.msb ^^ b) then shifted ^^^ 0x1021 else shifted

/-- The bits of a byte, most significant first. -/
def byteBits (b : Byte) : List Bool :=
  [b.getLsbD 7, b.getLsbD 6, b.getLsbD 5, b.getLsbD 4, b.getLsbD 3, b.getLsbD 2, b.getLsbD 1, b.getLsbD 0]

/-- The CRC over a run of bytes: register loaded with 0xFFFF, no final inversion. -/
def crcOf (bs : List Byte) : Half := bs.foldl (fun reg b => (byteBits b).foldl crcBit reg) 0xFFFF

/-! ## Byte lists as records -/

/-- Byte i of a list, 0x00 beyond its end. -/
def byteIn (bs : List Byte) (i : Nat) : Byte := bs.getD i 0
/-- A 16-bit field of a byte list. -/
def halfIn (bs : List Byte) (i : Nat) : Half := halfOf (byteIn bs i) (byteIn bs (i + 1))
/-- A 32-bit field of a byte list. -/
def longIn (bs : List Byte) (i : Nat) : Long := halfIn bs (i + 2) ++ halfIn bs i

/-- A byte from its bits, most significant first. -/
def byteFromBits (bits : List Bool) : Byte := bits.foldl (fun b x => (b <<< 1) ||| (BitVec.ofBool x).setWidth 8) 0

/-- Cut a list of bits into bytes: fuel is the number of bytes (07 R132). -/
def bytesFromBits : Nat → List Bool → List Byte
  | 0, _ => []
  | k + 1, bits => byteFromBits (bits.take 8) :: bytesFromBits k (bits.drop 8)

/-! ## Tag record (07 Table 7-4) -/

def tagType (r : List Byte) : Half := halfIn r 0
def tagVariant (r : List Byte) : Byte := byteIn r 2
def tagAddressEcho (r : List Byte) : Byte := byteIn r 3
def tagSerial (r : List Byte) : Long := longIn r 4
def tagLot (r : List Byte) : Half := halfIn r 8
def tagDate (r : List Byte) : Half := halfIn r 10
def tagCrc (r : List Byte) : Half := halfIn r 12

/-- A complete answer judged: CRC first, address echo second (07 R134). -/
def judgeRecord (tagAddress : Byte) (r : List Byte) : Decision :=
  if crcOf (r.take 12) ≠ tagCrc r then .failed .crcError
  else if tagAddressEcho r ≠ tagAddress then .failed .addressError
  else .good

/-! ## Profile record (08 Table 8-1, 11 Table 11-11a) -/

/-- The fields of a 64-byte profile record. -/
def profileOf (r : List Byte) : Profile :=
  { type := halfIn r 0x00, variant := byteIn r 0x02, valid := byteIn r 0x03, n := byteIn r 0x04,
    minValid := byteIn r 0x05, defaultRounds := byteIn r 0x06, tolMin := byteIn r 0x07, width := halfIn r 0x08,
    window := halfIn r 0x0A, settle := halfIn r 0x0C, t0 := halfIn r 0x0E, alpha := halfIn r 0x10,
    accept := halfIn r 0x12, tolPpm := longIn r 0x14, reject := halfIn r 0x18, dateFrom := halfIn r 0x1A,
    dateTo := halfIn r 0x1C,
    delays := [halfIn r 0x1E, halfIn r 0x20, halfIn r 0x22, halfIn r 0x24, halfIn r 0x26, halfIn r 0x28,
               halfIn r 0x2A, halfIn r 0x2C] }

/-- The CRC field of a profile record. -/
def profileCrc (r : List Byte) : Half := halfIn r 0x3E

/-- The record is in use and its key matches the tag record (08 R144). -/
def Profile.isCandidate (p : Profile) (tag : List Byte) : Bool :=
  p.valid ≠ 0 && p.type = tagType tag && p.variant = tagVariant tag

/-- Strictly ascending. -/
def ascending : List Half → Bool
  | a :: b :: rest => decide (a.toNat < b.toNat) && ascending (b :: rest)
  | _ => true

/-- The enrolled delays e1..en. -/
def Profile.enrolled (p : Profile) : List Half := p.delays.take p.n.toNat

/-- Every judged field lies in its range (08 R146, Table 8-1). -/
def Profile.inRange (p : Profile) : Bool :=
  decide (1 ≤ p.n.toNat ∧ p.n.toNat ≤ 8)
  && decide (1 ≤ p.minValid.toNat ∧ p.minValid.toNat ≤ 16)
  && decide (1 ≤ p.defaultRounds.toNat ∧ p.defaultRounds.toNat ≤ 16 ∧ p.minValid.toNat ≤ p.defaultRounds.toNat)
  && decide (1 ≤ p.width.toNat)
  && decide (16 ≤ p.window.toNat)
  && decide (-40 ≤ p.t0.toInt ∧ p.t0.toInt ≤ 300)
  && decide (-2000 ≤ p.alpha.toInt ∧ p.alpha.toInt ≤ 2000)
  && decide (100 ≤ p.tolPpm.toNat ∧ p.tolPpm.toNat ≤ 200000)
  && decide (1 ≤ p.tolMin.toNat)
  && decide (p.accept.toNat ≤ 256)
  && decide (257 ≤ p.reject.toNat ∧ p.reject.toNat ≤ 4095)
  && decide (p.dateFrom.toNat ≤ p.dateTo.toNat)
  && (p.enrolled.all fun d => decide (1 ≤ d.toNat))
  && ascending p.enrolled

/-- The date code lies in the profile's date range, both ends in it (09 R172). -/
def Profile.dateInside (p : Profile) (date : Half) : Bool :=
  decide (p.dateFrom.toNat ≤ date.toNat ∧ date.toNat ≤ p.dateTo.toNat)

/-- R: the card's rounds field clamped to 16, or the profile's default rounds when it reads 0 (05 R92). -/
def Profile.roundsFor (p : Profile) (h : Header) : Nat :=
  if h.rounds = 0 then p.defaultRounds.toNat else min h.rounds.toNat 16

/-- The effective width: the least of width, window − 1 and 2C − 1 (06 R110). -/
def Profile.effectiveWidth (p : Profile) (cell : Nat) : Nat :=
  min p.width.toNat (min (p.window.toNat - 1) (2 * cell - 1))

end Sys2Proof.Machine
end

