-- ==== Sys2Proof/Machine/Station.lean ====
section
/-! DEFINITION. The Station Supervisor's shared operations: slots, derived state, change flag, PERMIT, loss mark, and the
notices and stops it sends (03). -/

namespace Sys2Proof.Machine

/-! ## Slots -/

/-- Write a slot's fields; its stamp takes the cycle count if any of them changes value (03 R45). The unused bytes of
the slot are left (11 R195). -/
def State.writeSlot (s : State) (n : StationId) (p : SlotId) (f : SlotFields) : State :=
  let base := slotBase n p
  if s.readSlot n p = f then s
  else
    ((((s.put base [f.verdict]).put (base + 2) (halfBytes f.score ++ halfBytes f.type ++ [f.variant])).put (base + 8)
      (longBytes f.serial ++ halfBytes f.lot ++ halfBytes f.date))).put (base + 0x10) (longBytes s.tracker.cycles)

/-- A slot reset (03 R45). -/
def State.resetSlot (s : State) (n : StationId) (p : SlotId) : State := s.writeSlot n p SlotFields.cleared

/-- Reset some slots of a station. -/
def State.resetSlots (s : State) (n : StationId) (ps : List SlotId) : State :=
  forAll ps (fun p t => t.resetSlot n p) s

/-! ## Derived state and PERMIT -/

/-- 03 Table 3-3: the first line that applies. The last two lines are taken in the other order, which gives the same:
every active slot GENUINE, else, with no slot of the lines above, one is UNVERIFIED. -/
def stationStateOf (running fault present held : Bool) (count : Fin 5) (verdicts : List Byte) : StationState :=
  if !running then .off
  else if fault then .fault
  else if !present then .empty
  else if held then .checking
  else if count = 0 then .fitted
  else if verdicts.contains slotCounterfeit then .counterfeit
  else if verdicts.contains slotUnreadable then .unreadable
  else if verdicts.contains slotSuspect then .suspect
  else if verdicts.all fun v => v = slotGenuine then .genuine
  else .fitted

/-- The derived state of station n, taken with or without its hold (03 R54). -/
def State.derived (s : State) (n : StationId) (held : Bool) : StationState :=
  let t := s.station n
  stationStateOf (s.configured && t.setup.enabled) t.fault t.present held t.setup.rosterCount
    (t.setup.activeSlots.map (s.slotVerdict n))

/-- 03 Table 3-4. -/
def permitOf (st : StationState) (advise heldPermit : Bool) : Bool :=
  match st with
  | .off | .empty | .fault => false
  | .genuine => true
  | .fitted | .suspect | .counterfeit | .unreadable => advise
  | .checking => heldPermit

/-- The permit Table 3-4 gives for the state the slots of station n give, taken without the hold (03 R58): lines 5 to 10
of Table 3-3, so that under ADVISE the slots do not count. DEDUCED (log entry 13). -/
def State.freePermit (s : State) (n : StationId) : Bool :=
  let c := (s.station n).setup
  permitOf (stationStateOf true false true false c.rosterCount (c.activeSlots.map (s.slotVerdict n))) c.advise false

/-- While the station is held, the held permit becomes the permit of the slots as they stand (03 R58). -/
def State.refreshHeldPermit (s : State) (n : StationId) : State :=
  if s.held n then s.modStation n fun t => { t with heldPermit := s.freePermit n } else s

/-- PERMITn is evaluated afresh (03 R57). -/
def State.evaluatePermit (s : State) (n : StationId) : State :=
  s.modStation n fun t => { t with permit := permitOf (s.derived n (s.held n)) t.setup.advise t.heldPermit }

/-- State, present and fault cause of the record: what 03 R55 watches. -/
def State.recordKey (s : State) (n : StationId) : Byte × Byte × Byte :=
  (s.byte (stationBase n + stState), s.byte (stationBase n + stPresent), s.byte (stationBase n + stFaultCause))

/-- Stamp the record and set its change flag; STATION_CHANGE follows if the flag did not read 1 (03 R55). -/
def State.stampAndFlag (s : State) (n : StationId) : State :=
  let base := stationBase n
  let flagged := s.byte (base + stChangeFlag) = 1
  ((s.put (base + stStamp) (longBytes s.tracker.cycles)).put (base + stChangeFlag) [1]).raiseIf (!flagged)
    causeStationChange

/-- Write the derived state; stamp and flag if state, present or fault cause differ from before; evaluate PERMITn
(03 R54, R55, R57). -/
def State.settleRecord (s : State) (n : StationId) (before : Byte × Byte × Byte) : State :=
  let s1 := s.put (stationBase n + stState) [(s.derived n (s.held n)).code]
  let s2 := if s1.recordKey n = before then s1 else s1.stampAndFlag n
  s2.evaluatePermit n

/-- An event of the Supervisor at station n, served whole (03 R54). -/
def State.stationEvent (s : State) (n : StationId) (act : State → State) : State :=
  (act s).settleRecord n (s.recordKey n)

/-! ## Loss mark, stops and notices -/

/-- The first removal, disable or fault of a hold sets the loss mark (03 R56). -/
def State.markLoss (s : State) (n : StationId) (l : Loss) : State :=
  if s.held n then s.modStation n fun t => { t with lossMark := t.lossMark.orElse fun _ => some l } else s

/-- Send a stop to the engine that holds the station, if one does (03 R48, R53). -/
def State.sendStop (s : State) (n : StationId) (stop : Stop) : State :=
  match s.holder n with
  | some e => s.modEngine e fun g => { g with stops := g.stops ++ [stop] }
  | none => s

/-- Tell the Pending List of a station event (02 R41). -/
def State.tellList (s : State) (n : StationId) (ev : StationEvent) : State :=
  s.setNotices (s.notices ++ [{ station := n, event := ev }])

/-! ## Faults -/

/-- The recheck timer starts with a full 100 ms if the restart mode is AUTO (03 R62, R63). -/
def Station.startRecheck (t : Station) : Station :=
  { t with recheck := if t.setup.auto then some Config.recheckPeriod else none }

/-- Clear the fault of station n (03 R64). -/
def State.clearFault (s : State) (n : StationId) : State :=
  s.stationEvent n fun s =>
    (s.modStation n fun t => { t with fault := false, recheck := none }).put (stationBase n + stFaultCause) [0]

/-- The Supervisor takes a fault report for station n (03 R62). A station already in FAULT keeps its first cause. -/
def State.takeFault (s : State) (n : StationId) (cause : FaultCause) : State :=
  if (s.station n).fault then s
  else
    let s1 := s.stationEvent n fun s =>
      (((s.modStation n fun t => { t with fault := true }.startRecheck).put (stationBase n + stFaultCause)
        [cause.code]).resetSlots n allSlots).refreshHeldPermit n
    (s1.markLoss n .lineFault).tellList n .faulted

/-! ## Presence -/

/-- One sample at a running filter (03 R51). -/
def Station.sample (t : Station) (filter : Nat) (level : Bool) : Station :=
  if level = t.present then { t with count := 0, due := false }
  else { t with count := t.count + 1, due := decide (filter ≤ t.count + 1) }

/-- A fit: the filter goes to present (03 R52). -/
def State.takeFit (s : State) (n : StationId) : State :=
  s.stationEvent n fun s =>
    (s.modStation n fun t => { t with present := true, count := 0, due := false }).put (stationBase n + stPresent) [1]

/-- A removal: the filter goes to absent, the slots are reset, the holder and the list are told (03 R53). -/
def State.takeRemoval (s : State) (n : StationId) : State :=
  let s1 := s.stationEvent n fun s =>
    (((s.modStation n fun t => { t with present := false, count := 0, due := false }).put (stationBase n + stPresent)
      [0]).resetSlots n allSlots).refreshHeldPermit n
  ((s1.sendStop n (.removal n)).markLoss n .partRemoved).tellList n .presenceLost

end Sys2Proof.Machine
end

