-- ==== Sys2Proof/Machine/Engine.lean ====
section
/-! DEFINITION. Shared operations of a probe engine: states, stops, faults, the start of a round and of a frame (05, 06, 07). -/

namespace Sys2Proof.Machine

/-- Put the engine in a state. -/
def State.setPhase (s : State) (e : EngineId) (p : Phase) : State := s.modEngine e fun g => { g with phase := p }

/-- Close the watch of engine e (04 R80). -/
def State.closeWatch (s : State) (e : EngineId) : State := s.setWatch e none

/-- Withdraw the question of engine e, its timer with it (04 R79). -/
def State.withdrawQuestion (s : State) (e : EngineId) : State := s.setQuestion e none

/-! ## Stops and faults (05 R99 to R103) -/

/-- The engine stops: window, frame and lookup are abandoned, watch and question closed, and WRITING begins the end of
the stopped card (05 R100, R103). That the abandoned lookup unit, frame decoder, capture stage and settle counter are
emptied is a DESIGN CHOICE (log entries 22 and 25). -/
def State.stopNow (s : State) (e : EngineId) : State :=
  ((s.modEngine e fun g =>
      { g with phase := .writing .stopped, rising := false, capture := Capture.reset, frame := Frame.reset,
               lookup := Lookup.reset, settle := 0, stopAtHoldBegin := false }).closeWatch e).withdrawQuestion e

/-- The first stop event fixes the outcome; a later one leaves it (05 R102). -/
def Engine.fixOutcome (g : Engine) (o : StopOutcome) : Engine :=
  { g with stopOutcome := g.stopOutcome.orElse fun _ => some o }

/-- The engine's own fault: it reports the cause, takes LINE_FAULT as outcome unless one is fixed, and stops at once
(05 R101, R102). -/
def State.faultStop (s : State) (e : EngineId) (cause : FaultCause) : State :=
  (s.modEngine e fun g => { g.fixOutcome (.lost .lineFault) with report := some cause }).stopNow e

/-- The outcome of a stop event (05 Table 5-3). -/
def outcomeOf : Stop → StopOutcome
  | .cancel _ => .cancelled
  | .removal _ => .lost .partRemoved
  | .disable _ => .lost .stationOff
  | .lineFault _ => .lost .lineFault

/-- The engine holds the card or the station the stop carries (05 R99). -/
def Engine.holdsTarget (g : Engine) (stop : Stop) : Bool :=
  match g.job, stop with
  | some j, .cancel k => j.card = k
  | some j, .removal n => j.station = n
  | some j, .disable n => j.station = n
  | some j, .lineFault n => j.station = n
  | none, _ => false

/-- A stop with cause LINE_FAULT stops in every state at once (05 R101). -/
def isFaultStop : Stop → Bool
  | .lineFault _ => true
  | _ => false

/-- The engine takes a stop event for its card (05 Table 5-4): it is dropped in IDLE and WRITING and where an outcome is
fixed; a high output is driven to its scheduled end; in every other case the engine stops at once. In the tick of the
pre-check the output is still low, so the engine stops at once there too: DEDUCED (log entry 23). -/
def State.takeStop (s : State) (e : EngineId) (stop : Stop) : State :=
  let g := s.engine e
  match g.phase with
  | .idle => s
  | .writing _ => s
  | _ =>
    if g.stopOutcome.isSome && !isFaultStop stop then s
    else
      let s1 := s.modEngine e fun g => { g.fixOutcome (outcomeOf stop) with stopAtHoldBegin := false }
      if g.outputHigh && !isFaultStop stop then s1 else s1.stopNow e

/-! ## Starting work -/

/-- The cleared capture stage of a round that starts (06 R107, R110). -/
def Capture.start (p : Profile) (cell : Nat) : Capture :=
  { Capture.reset with running := true, weff := p.effectiveWidth cell, window := p.window.toNat }

/-- A round's pre-check has passed: capture cleared, Weff fixed, WIDTH_CLAMPED set if Weff is less than the width; the
pulse rises in the next tick (06 R107, R109, R110). -/
def State.startRound (s : State) (e : EngineId) : State :=
  match (s.engine e).profile, s.regs.snapshot with
  | some p, some snap =>
    s.modEngine e fun g =>
      let g1 := if p.effectiveWidth snap.bitCell.ticks < p.width.toNat then g.addFlag flagWidthClamped else g
      { g1 with phase := .pulsing, rising := true, capture := Capture.start p snap.bitCell.ticks }
  | _, _ => s

/-- The decoder as an attempt starts (07 R125, R127). -/
def Frame.start (cell : Nat) (tagAddress : Byte) : Frame :=
  { Frame.reset with cell := cell, phase := some .wakeHigh, commandByte := 0x40 + tagAddress, crc := 0xFFFF }

/-- A frame's pre-check has passed: decoder cleared, cell fixed; the wake rises in the next tick (07 R125, R126). -/
def State.startFrame (s : State) (e : EngineId) : State :=
  match s.regs.snapshot with
  | some snap =>
    s.modEngine e fun g =>
      { g with phase := .reading, rising := true, frame := Frame.start snap.bitCell.ticks g.header.tagAddress }
  | none => s

/-- The pre-check, then the work: ECHOn high is a fault, the output is not raised (06 R109). -/
def State.startWork (s : State) (e : EngineId) (w : Work) : State :=
  match (s.engine e).job with
  | some j =>
    if s.echoHigh j.station then s.faultStop e .echoStuck
    else
      match w with
      | .frame => s.startFrame e
      | .round => s.startRound e
  | none => s

end Sys2Proof.Machine
end

