-- ==== Sys2Proof/Machine/Tracker.lean ====
section
/-! DEFINITION. The Machine Cycle Tracker: angle and index, gating questions, watches, its record (04). -/

namespace Sys2Proof.Machine

/-! ## Record (04 R75) -/

/-- The tracker's fields in the machine status record, in one burst. -/
def State.writeTracker (s : State) : State :=
  let t := s.tracker
  (s.put msAngle (halfBytes t.angle ++ [flagByte t.valid, flagByte t.stopped, flagByte t.indexMissed])).put msCycles
    (longBytes t.cycles)

/-- A change of the tracker's fields with its record and MACHINE_EVENT. -/
def State.updateTracker (s : State) (t : Tracker) (event : Bool) : State :=
  ((s.setTracker t).writeTracker).raiseIf event causeMachineEvent

/-! ## Gating questions (04 R76, R77) -/

/-- A value of PPC or more is taken as PPC − 1. -/
def clampArc (ppc v : Half) : Half := if ppc.toNat ≤ v.toNat then ppc - 1 else v

/-- The angle is in the arc from s to t, both clamped. -/
def inArc (a s t : Half) : Bool :=
  if s.toNat < t.toNat then decide (s.toNat ≤ a.toNat ∧ a.toNat < t.toNat)
  else if t.toNat < s.toNat then decide (s.toNat ≤ a.toNat ∨ a.toNat < t.toNat)
  else false

/-- The first ground that holds (04 Table 4-3). -/
def Tracker.ground (t : Tracker) (snap : Snapshot) (arcStart arcEnd : Half) : Option Ground :=
  if arcStart = arcEnd then some .wholeCycle
  else if t.valid && inArc t.angle arcStart arcEnd then some .arc
  else if t.stopped && snap.quietWhenStopped then some .stopped
  else none

/-- The watch an allowed answer opens; none on WHOLE_CYCLE (04 R80). -/
def watchFor (n : StationId) (g : Ground) (arcStart arcEnd : Half) : Option Watch :=
  match g with
  | .wholeCycle => none
  | _ => some { station := n, ground := g, arcStart := arcStart, arcEnd := arcEnd, disturbed := false }

/-- Judge the open question of engine e: an allowed one is answered at once, it ends, the watch opens and the work
starts (04 R77, R80). A suspended question is not answered (04 R79), nor one whose engine has a stop of its hold begin
to take first (05 R87). -/
def State.judgeQuestion (s : State) (e : EngineId) : State :=
  match s.question e, s.regs.snapshot, (s.engine e).phase, (s.engine e).job with
  | some q, some snap, .gating w, some j =>
    if q.suspended || (s.engine e).stopAtHoldBegin then s
    else
      let c := (s.station j.station).setup
      let a := clampArc snap.ppc c.arcStart
      let b := clampArc snap.ppc c.arcEnd
      match s.tracker.ground snap a b with
      | none => s
      | some g => ((s.setQuestion e none).setWatch e (watchFor j.station g a b)).startWork e w
  | _, _, _, _ => s

/-- Every open question is judged afresh (04 R77). -/
def State.judgeQuestions (s : State) : State := forAll allEngines (fun e t => t.judgeQuestion e) s

/-- The engine enters GATING and asks a new question (05 R90, 04 R78). -/
def State.askQuestion (s : State) (e : EngineId) (w : Work) : State :=
  ((s.setPhase e (.gating w)).setQuestion e (some { timer := 0, suspended := false })).judgeQuestion e

/-! ## Watches (04 R80 to R83) -/

/-- A disturbance notice: the watch is marked and so is the frame or the round in flight (04 R83, 06 R117, 07 R136). -/
def State.disturb (s : State) (e : EngineId) (w : Watch) : State :=
  (s.setWatch e (some { w with disturbed := true })).modEngine e fun g =>
    match g.phase with
    | .reading => { g with frame := { g.frame with disturbed := true } }
    | _ => { g with capture := { g.capture with disturbed := true } }

/-- The watch is disturbed by what has just happened: on ARC by the angle after the event, on STOPPED by any edge or a
restart (04 R81, R82). -/
def Watch.isDisturbed (w : Watch) (t : Tracker) : Bool :=
  match w.ground with
  | .arc => !(t.valid && inArc t.angle w.arcStart w.arcEnd)
  | .stopped => true
  | .wholeCycle => false

/-- Judge engine e's watch after an edge or a restart; a disturbed watch sends nothing more. -/
def State.judgeWatch (s : State) (e : EngineId) : State :=
  match s.watch e with
  | some w => if !w.disturbed && w.isDisturbed s.tracker then s.disturb e w else s
  | none => s

/-- Judge every open watch. -/
def State.judgeWatches (s : State) : State := forAll allEngines (fun e t => t.judgeWatch e) s

/-! ## Angle, index, stop (04 R70, R71, R74) -/

/-- An MCLK edge on the angle and the count; true when INDEX_MISSED goes from clear to set (04 R70). -/
def Tracker.advance (t : Tracker) (ppc : Half) : Tracker × Bool :=
  if !t.valid then (t, false)
  else if t.angle.toNat < ppc.toNat - 1 then ({ t with angle := t.angle + 1 }, false)
  else ({ t with angle := 0, valid := false, cycles := t.cycles + 1, indexMissed := true }, !t.indexMissed)

/-- A selected MCLK edge (04 R70, R74). -/
def State.takeMclk (s : State) (ppc : Half) : State :=
  let r := s.tracker.advance ppc
  ((s.updateTracker { r.1 with stopTimer := 0, stopped := false } (r.2 || s.tracker.stopped)).judgeWatches).judgeQuestions

/-- An index on the angle, the count and INDEX_MISSED (04 R71); true when INDEX_MISSED goes from clear to set. -/
def Tracker.index (t : Tracker) (ppc : Half) : Tracker × Bool :=
  if !t.valid then ({ t with angle := 0, valid := true, cycles := t.cycles + 1 }, false)
  else if t.angle.toNat = ppc.toNat - 1 then
    ({ t with angle := 0, cycles := t.cycles + 1, indexMissed := false }, false)
  else ({ t with angle := 0, cycles := t.cycles + 1, indexMissed := true }, !t.indexMissed)

/-- A selected MIDX edge (04 R71). -/
def State.takeMidx (s : State) (ppc : Half) : State :=
  let r := s.tracker.index ppc
  ((s.updateTracker r.1 r.2).judgeWatches).judgeQuestions

/-- STOPPED is set (04 R74). -/
def State.takeStopTimeout (s : State) (timeout : Byte) : State :=
  (s.updateTracker { s.tracker with stopped := true, stopTimer := max s.tracker.stopTimer timeout.toNat } true).judgeQuestions

/-- The tracker restarts: angle 0 and invalid, open watches disturbed, open questions judged (04 R69). -/
def State.restartTracker (s : State) : State :=
  ((s.updateTracker { s.tracker with angle := 0, valid := false } false).judgeWatches).judgeQuestions

end Sys2Proof.Machine
end

