-- ==== Sys2Proof/Machine/Lookup.lean ====
section
/-! DEFINITION. The steps an engine enters and leaves, the profile lookup and the Profile Cache (05 R91 to R97, 08). -/

namespace Sys2Proof.Machine

/-! ## Ending a step: the next state, or HELD while ENABLE reads 0 (05 R96, R97) -/

/-- Go to GATING with a new question, or be held with it as next step. -/
def State.toGating (s : State) (e : EngineId) (w : Work) : State :=
  if s.regs.enable then s.askQuestion e w else s.setPhase e (.held (.gating w))

/-- Go to WRITING, or be held with it as next step. -/
def State.toWriting (s : State) (e : EngineId) : State :=
  s.setPhase e (if s.regs.enable then .writing .result else .held .writing)

/-- Enter SETTLING: the gap starts (06 R120). -/
def State.beginSettling (s : State) (e : EngineId) : State :=
  s.modEngine e fun g => { g with phase := .settling, settle := 0 }

/-- Go to SETTLING, or be held with it as next step. -/
def State.toSettling (s : State) (e : EngineId) : State :=
  if s.regs.enable then s.beginSettling e else s.setPhase e (.held .settling)

/-- Enter the scoring pass: Nref(e) is read once, now (09 R159). -/
def State.beginScoring (s : State) (e : EngineId) : State :=
  s.modEngine e fun g =>
    { g with phase := .computing .scoring,
             nref := match s.regs.snapshot with | some snap => snap.nref[e.val] | none => 0 }

/-- Go to the scoring pass, or be held with it as next step. -/
def State.toScoring (s : State) (e : EngineId) : State :=
  if s.regs.enable then s.beginScoring e else s.setPhase e (.held (.computing .scoring))

/-- Hold a verdict reached before any round or pass (09 Table 9-4). -/
def State.setVerdict (s : State) (e : EngineId) (v : Verdict) : State :=
  s.modEngine e fun g => { g with figures := { g.figures with verdict := v } }

/-! ## Profile Cache (08 R152 to R156) -/

def allPlaces : List PlaceId := [0, 1, 2, 3, 4, 5, 6, 7]

/-- The filled entry whose key is the type and variant (08 R153). -/
def Cache.find (c : Cache) (type : Half) (variant : Byte) : Option (PlaceId × CacheEntry) :=
  allPlaces.findSome? fun p =>
    match c.places[p.val] with
    | some x => if x.type = type ∧ x.variant = variant then some (p, x) else none
    | none => none

/-- Move a place to the front of the recency list. -/
def Cache.touch (c : Cache) (p : PlaceId) : Cache := { c with recency := p :: c.recency.filter (· ≠ p) }

/-- The place that holds a shelf index, if one does. -/
def Cache.placeOf (c : Cache) (i : ShelfId) : Option PlaceId :=
  allPlaces.find? fun p => match c.places[p.val] with | some x => x.index = i | none => false

/-- The place an offer fills: the lowest empty one, else the one at the back of the recency list (08 R155). -/
def Cache.victim (c : Cache) : Option PlaceId :=
  match allPlaces.find? fun p => (c.places[p.val]).isNone with
  | some p => some p
  | none => c.recency.getLast?

/-- Take an offer: an index already present moves to the front, else a place is filled (08 R155, R156). -/
def Cache.offer (c : Cache) (x : CacheEntry) : Cache :=
  match c.placeOf x.index with
  | some p => c.touch p
  | none =>
    match c.victim with
    | some p => { c with places := c.places.set p.val (some x) }.touch p
    | none => c

/-! ## Lookup (05 R92, 08 R147 to R151)

Each end of a lookup leaves the lookup unit empty: buffer, CRC register, index and mark. The manual gives an empty buffer
after a reset only and reads none of them after an end: DESIGN CHOICE (log entry 22). -/

/-- The engine's tag record, empty before a GOOD outcome. -/
def Engine.tag (g : Engine) : List Byte := g.tagRecord.getD []

/-- The lookup ends UNLISTED (08 Table 8-2); the unit is emptied (log entry 22). -/
def State.lookupUnlisted (s : State) (e : EngineId) : State :=
  ((s.setVerdict e .unlisted).modEngine e fun g => { g with lookup := Lookup.reset }).toWriting e

/-- The lookup ends PROFILE_DAMAGED or PROFILE_INVALID: the index is kept, no copy (08 Table 8-2); the unit is emptied
(log entry 22). -/
def State.lookupFailed (s : State) (e : EngineId) (i : ShelfId) (err : ErrorCode) : State :=
  (s.modEngine e fun g =>
    { g with profileIndex := some i, figures := { g.figures with error := err }, lookup := Lookup.reset }).toWriting e

/-- The lookup ends FOUND: copy and index are kept; the date test gives COUNTERFEIT with DATE_RANGE, or R is fixed and
the first round asks its question (05 R92, 09 R172). The unit is emptied (DESIGN CHOICE, log entry 22). -/
def State.lookupFound (s : State) (e : EngineId) (i : ShelfId) (p : Profile) : State :=
  let s1 := s.modEngine e fun g => { g with profile := some p, profileIndex := some i, lookup := Lookup.reset }
  if p.dateInside (tagDate (s.engine e).tag) then
    (s1.modEngine e fun g => { g with target := some (p.roundsFor g.header) }).toGating e .round
  else ((s1.setVerdict e .counterfeit).addFlag e flagDateRange).toWriting e

/-- The lookup begins: with the attribute in effect the cache is asked first, and a hit ends it FOUND (08 R153). -/
def State.beginLookup (s : State) (e : EngineId) : State :=
  let s1 := s.modEngine e fun g =>
    { g with phase := .computing .lookup, lookup := { Lookup.reset with fixedThroughout := s.regs.shelfFixed } }
  let tag := (s.engine e).tag
  if s.regs.shelfFixed then
    match s.cache.find (tagType tag) (tagVariant tag) with
    | some (p, x) => ((s1.setCache (s.cache.touch p)).addFlag e flagCacheHit).lookupFound e x.index (profileOf x.copy)
    | none => s1
  else s1

/-- Go to the lookup pass, or be held with it as next step. -/
def State.toLookup (s : State) (e : EngineId) : State :=
  if s.regs.enable then s.beginLookup e else s.setPhase e (.held (.computing .lookup))

/-- A miss that ends FOUND offers its record; the offer is taken only if the attribute has stood set since the lookup
began (08 R154). -/
def State.offerRecord (s : State) (e : EngineId) (i : ShelfId) (record : List Byte) : State :=
  if s.regs.shelfFixed && (s.engine e).lookup.fixedThroughout then
    let p := profileOf record
    s.setCache (s.cache.offer { index := i, type := p.type, variant := p.variant, copy := record })
  else s

/-- The record is no candidate: the scan goes on, or ends UNLISTED past index 63 (08 R147, R149). -/
def State.passOver (s : State) (e : EngineId) : State :=
  let i := (s.engine e).lookup.index
  if i = 63 then s.lookupUnlisted e
  else s.modEngine e fun g => { g with lookup := { g.lookup with index := i + 1, reread := .none } }

/-- The candidate disagrees with its CRC: final damage, or the single re-read (08 R148). -/
def State.damagedCandidate (s : State) (e : EngineId) : State :=
  let l := (s.engine e).lookup
  if (s.regs.shelfFixed && l.fixedThroughout) || l.mark then s.lookupFailed e l.index .profileDamaged
  else
    s.modEngine e fun g =>
      { g with lookup := { g.lookup with mark := true, reread := if s.port.taking then .waiting else .due } }

/-- One burst of the lookup: the record at the scan's index into the buffer, judged (08 R146 to R149). -/
def State.readShelf (s : State) (e : EngineId) : State :=
  let i := (s.engine e).lookup.index
  let record := s.bytes (shelfBase i) 64
  let p := profileOf record
  let crc := crcOf (record.take 62)
  let s1 := s.modEngine e fun g => { g with lookup := { g.lookup with buffer := record, crc := crc } }
  if !p.isCandidate (s.engine e).tag then s1.passOver e
  else if crc ≠ profileCrc record then s1.damagedCandidate e
  else if !p.inRange then s1.lookupFailed e i .profileInvalid
  else (s1.offerRecord e i record).lookupFound e i p

end Sys2Proof.Machine
end

