-- ==== Sys2Proof/Machine/Supervisor.lean ====
section
/-! DEFINITION. Setup notices, activation and deferred setup of the Station Supervisor (03 R46 to R50). -/

namespace Sys2Proof.Machine

/-- Enable goes to disabled: handling stops, present 0, slots reset, state OFF; a fault in force is kept (03 R48). -/
def State.disableStation (s : State) (n : StationId) : State :=
  let s1 := s.stationEvent n fun s =>
    (((s.modStation n fun t =>
        { t with setup := { t.setup with enabled := false }, present := false, count := 0, due := false }).put
      (stationBase n + stPresent) [0]).resetSlots n allSlots).refreshHeldPermit n
  ((s1.sendStop n (.disable n)).markLoss n .stationOff).tellList n .disabled

/-- Enable goes to enabled: handling starts with the filter at absent (03 R48). -/
def State.enableStation (s : State) (n : StationId) : State :=
  s.stationEvent n fun s =>
    s.modStation n fun t =>
      { t with setup := { t.setup with enabled := true }, present := false, count := 0, due := false }

/-- Position p is changed between two setups (03 R49). -/
def rosterPositionChanged (old new : Setup) (p : SlotId) : Bool :=
  old.activeAt p != new.activeAt p || (old.activeAt p && old.roster[p.val] != new.roster[p.val])

/-- The roster values differ. -/
def rosterDiffers (old new : Setup) : Bool := old.rosterCount ≠ new.rosterCount || old.roster ≠ new.roster

/-- A roster change: slots of changed positions reset, state derived afresh, the list told (03 R49). -/
def State.changeRoster (s : State) (n : StationId) (new : Setup) : State :=
  let old := (s.station n).setup
  let s1 := s.stationEvent n fun s =>
    (s.modStation n fun t =>
      { t with setup := { t.setup with rosterCount := new.rosterCount, roster := new.roster } }).resetSlots n
      (allSlots.filter (rosterPositionChanged old new))
  s1.tellList n .rosterChanged

/-- A new policy: PERMITn is evaluated afresh (03 R47). -/
def State.changePolicy (s : State) (n : StationId) (advise : Bool) : State :=
  (s.modStation n fun t => { t with setup := { t.setup with advise := advise } }).evaluatePermit n

/-- A new restart mode: to AUTO the recheck timer starts if a fault is in force, to MANUAL it stops (03 R63). -/
def State.changeRestart (s : State) (n : StationId) (auto : Bool) : State :=
  s.modStation n fun t =>
    { t with setup := { t.setup with auto := auto },
             recheck := if auto && t.fault then some Config.recheckPeriod else none }

/-- New arcs: the open question of the holder is judged afresh (03 R47, 04 R77). -/
def State.changeArcs (s : State) (n : StationId) (arcStart arcEnd : Half) : State :=
  let s1 := s.modStation n fun t => { t with setup := { t.setup with arcStart := arcStart, arcEnd := arcEnd } }
  match s1.holder n with
  | some e => s1.judgeQuestion e
  | none => s1

/-- Act on each difference between the record and the copy, in the order of 03 Table 3-2; while the station is held the
roster and the policy are deferred (03 R47, R50). -/
def State.actOnSetup (s : State) (n : StationId) (new : Setup) (held : Bool) : State :=
  let old := (s.station n).setup
  let s1 := if old.enabled && !new.enabled then s.disableStation n
            else if !old.enabled && new.enabled then s.enableStation n
            else s
  let s2 := if held then s1 else if rosterDiffers old new then s1.changeRoster n new else s1
  let s3 := if held then s2 else if old.advise ≠ new.advise then s2.changePolicy n new.advise else s2
  let s4 := if old.auto ≠ new.auto then s3.changeRestart n new.auto else s3
  if old.arcStart ≠ new.arcStart ∨ old.arcEnd ≠ new.arcEnd then s4.changeArcs n new.arcStart new.arcEnd else s4

/-- A setup notice reaches the Supervisor; while it is inactive the notice is dropped (03 R46, R47, R50). -/
def State.setupNotice (s : State) (n : StationId) : State :=
  if !s.configured then s
  else
    let held := s.held n
    let s1 := s.actOnSetup n (s.readSetup n) held
    if held then s1.modStation n fun t => { t with deferred := true } else s1

/-- The Supervisor becomes active: station n's setup is read; an enabled station goes from OFF to EMPTY (03 R46). -/
def State.activateStation (s : State) (n : StationId) : State :=
  s.stationEvent n fun s => s.modStation n fun t => { Station.reset with setup := s.readSetup n, permit := t.permit }

/-- Activation, station 0 first (03 R46). -/
def State.activateSupervisor (s : State) : State := forAll allStations (fun n t => t.activateStation n) s

end Sys2Proof.Machine
end

