-- ==== Sys2Proof/Machine/Allocator.lean ====
section
/-! DEFINITION. The Engine Allocator: grant, hold begin, release, hold end (05 R85 to R90, 03 R56). -/

namespace Sys2Proof.Machine

/-! ## Grant -/

/-- An entry is eligible when its station's place reads not held (05 R86). -/
def State.eligible (s : State) (x : Entry) : Bool := !s.held x.station

/-- Of two entries, the later replaces the earlier only with a higher priority (05 R86). -/
def betterEntry (best : Option Entry) (x : Entry) : Option Entry :=
  match best with
  | none => some x
  | some b => if b.priority < x.priority then some x else some b

/-- The eligible entry with the highest priority, nearest the front among equals (05 R86). -/
def State.chooseEntry (s : State) : Option Entry := (s.waiting.filter s.eligible).foldl betterEntry none

/-- The lowest-numbered free engine (05 R86). -/
def State.freeEngine (s : State) : Option EngineId := allEngines.find? fun e => (s.engine e).job.isNone

/-- Why a station is lost at hold begin, in the order of test of 03 R56. -/
def State.lossAtHoldBegin (s : State) (n : StationId) : Option Loss :=
  let t := s.station n
  if !t.present then some .partRemoved
  else if !t.setup.enabled then some .stationOff
  else if t.fault then some .lineFault
  else none

/-- The stop the Supervisor sends for a loss (03 R56). -/
def stopFor (n : StationId) : Loss → Stop
  | .partRemoved => .removal n
  | .stationOff => .disable n
  | .lineFault => .lineFault n

/-- Hold begin at the Supervisor: holder, held permit, loss mark cleared, state; a lost station marks the loss and sends
engine e the stop (03 R56). -/
def State.holdBegin (s : State) (n : StationId) (e : EngineId) : State :=
  let s1 := s.stationEvent n fun s =>
    (s.modStation n fun t => { t with heldPermit := t.permit, lossMark := s.lossAtHoldBegin n }).put
      (stationBase n + stHolder) [BitVec.ofNat 8 e.val]
  match s1.lossAtHoldBegin n with
  | some l => s1.modEngine e fun g => { g with stops := g.stops ++ [stopFor n l], stopAtHoldBegin := true }
  | none => s1

/-- The engine starts: everything of an earlier card cleared, the stops on their way kept (05 R90). -/
def Engine.start (g : Engine) (j : Job) (h : Header) : Engine :=
  { Engine.reset with job := some j, header := h, stops := g.stops }

/-- The grant of an entry to engine e, one act (05 R87). The engine's start comes before hold begin in the text of the
model only so that the stop of hold begin is kept; the question is asked last, as 05 R87 orders it. -/
def State.grant (s : State) (x : Entry) (e : EngineId) : State :=
  let n := x.station
  let k := x.card
  let s1 := s.setWaiting (s.waiting.erase x)
  let s2 := (s1.modEngine e fun g => g.start { card := k, station := n } (s.readHeader k)).setHold n (some e)
  let s3 := s2.setPoint e (some n)
  let s4 := (s3.put (cardBase k + cdEngine) [BitVec.ofNat 8 e.val]).put (cardBase k) [statusRunning]
  (s4.holdBegin n e).askQuestion e .frame

/-- Grant while there is a free engine and an eligible card; fuel bounds the grants by the engines (05 R86). -/
def State.grantAll : Nat → State → State
  | 0, s => s
  | k + 1, s =>
    match s.freeEngine, s.chooseEntry with
    | some e, some x => State.grantAll k (s.grant x e)
    | _, _ => s

/-- An action of the allocator: nothing while ENABLE reads 0 (05 R85). -/
def State.allocate (s : State) : State := if s.regs.enable then State.grantAll 4 s else s

/-! ## Release -/

/-- Hold end at the Supervisor: holder 0xFF, state and PERMITn without the hold, deferred setup (03 R56, R50). -/
def State.holdEnd (s : State) (n : StationId) : State :=
  let deferred := (s.station n).deferred
  let s1 := (s.stationEvent n fun s => s.put (stationBase n + stHolder) [codeNone]).modStation n
    fun t => { t with deferred := false }
  if deferred then s1.setupNotice n else s1

/-- The engine returns to IDLE: its working state is emptied, the stops on their way are kept to be dropped (05 R99). That
it is emptied here is a DESIGN CHOICE: R90 clears it at the next start and R106 at a reset (log entry 27). -/
def Engine.retire (g : Engine) : Engine := { Engine.reset with stops := g.stops }

/-- The release: places free, point open, hold end, then the allocator acts (05 R88). -/
def State.release (s : State) (e : EngineId) (n : StationId) : State :=
  (((((s.modEngine e Engine.retire).setHold n none).setPoint e none).holdEnd n)).allocate

end Sys2Proof.Machine
end

