-- ==== Sys2Proof/Machine/Cards.lean ====
section
/-! DEFINITION. Card ends, the Pending List, the sweep and intake (02). -/

namespace Sys2Proof.Machine

/-! ## Ending a card (02 R27) -/

/-- Cycle stamp, then status, then CARD_END for NOTIFY (02 R27). -/
def State.finishCard (s : State) (k : CardId) (status : Byte) (notify : Bool) : State :=
  ((s.put (cardBase k + cdStamp) (longBytes s.tracker.cycles)).put (cardBase k) [status]).raiseIf notify causeCardEnd

/-- Error code, then the end of the card. -/
def State.endCard (s : State) (k : CardId) (status : Byte) (err : ErrorCode) (notify : Bool) : State :=
  (s.put (cardBase k + cdError) [err.code]).finishCard k status notify

/-- The result area as intake writes it: zeros, with engine number and profile index 0xFF (02 R23). -/
def blankResult : List Byte := List.replicate 6 0 ++ [codeNone, codeNone] ++ List.replicate 40 0

/-- Zero the result area. -/
def State.blankCard (s : State) (k : CardId) : State := s.put (cardBase k + cdError) blankResult

/-- End a card within intake or a sweep visit: result zeroed, error, stamp, status (02 R32 to R34, R37, R38). -/
def State.endBlank (s : State) (k : CardId) (status : Byte) (err : ErrorCode) : State :=
  (s.blankCard k).endCard k status err (s.cardNotify k)

/-! ## Pending List (02 R39 to R41) -/

/-- Card k is on the pending list. -/
def State.onList (s : State) (k : CardId) : Bool := s.waiting.any fun x => x.card = k

/-- The engine whose place holds card k, if one does. -/
def State.engineOfCard (s : State) (k : CardId) : Option EngineId :=
  allEngines.find? fun e => match (s.engine e).job with | some j => j.card = k | none => false

/-- A cancel reaches the list: the entry is removed and its card ends CANCELLED, the rest of its result kept (02 R40). -/
def State.cancelPending (s : State) (k : CardId) : State :=
  if s.onList k then
    (s.setWaiting (s.waiting.filter fun x => x.card ≠ k)).finishCard k statusCancelled (s.cardNotify k)
  else s

/-- An entry is taken out by a station notice (02 R41). -/
def State.affected (s : State) (m : Notice) (x : Entry) : Bool :=
  x.station = m.station &&
    (match m.event with
     | .rosterChanged => !(s.station m.station).setup.matchesTag (s.byte (cardBase x.card + cdTagAddress))
     | _ => true)

/-- Take one entry out and end its card FAILED (02 R39, R41). -/
def State.failEntry (s : State) (err : ErrorCode) (x : Entry) : State :=
  (s.setWaiting (s.waiting.erase x)).endCard x.card statusFailed err (s.cardNotify x.card)

/-- The list takes a notice: the affected entries, front to back (02 R41). -/
def State.takeNotice (s : State) (m : Notice) : State :=
  forAll (s.waiting.filter (s.affected m)) (fun x t => t.failEntry m.event.error x) s

/-! ## Sweep requests and the sweep (02 R31, R32, R36) -/

/-- A sweep request: a sweep starts, or the latch is set (02 R31). -/
def State.requestSweep (s : State) : State :=
  match s.sweeper.visit with
  | none => if s.regs.enable then s.setSweeper { s.sweeper with visit := some (.header 0), ending := false } else s
  | some _ => s.setSweeper { s.sweeper with latch := true }

/-- A sweep ends: a set latch is cleared and starts a new sweep if ENABLE reads 1 (02 R31, R36). -/
def State.endSweep (s : State) : State :=
  let again := s.sweeper.latch && s.regs.enable
  s.setSweeper { s.sweeper with visit := if again then some (.header 0) else none, latch := false, ending := false }

/-- The visit to card k has finished: the next card, or the end of the sweep (02 R36). -/
def State.nextVisit (s : State) (k : CardId) : State :=
  if s.sweeper.ending || k = 31 then s.endSweep
  else s.setSweeper { s.sweeper with visit := some (.header (k + 1)) }

/-- The header read of card k; a stray card is left for the second burst of its visit (02 R32). -/
def State.visitCard (s : State) (k : CardId) : State :=
  let status := s.cardStatus k
  if s.port.touched[k.val] then s.nextVisit k
  else if status = statusPosted then s.setSweeper { s.sweeper with visit := some (.intake k (s.headerBytes k)) }
  else if (status = statusTaken && !s.onList k) || (status = statusRunning && (s.engineOfCard k).isNone) then
    s.setSweeper { s.sweeper with visit := some (.stray k) }
  else s.nextVisit k

/-- The second burst of a stray card's visit: FAILED with BAD_STATUS and a zero result (02 R32). -/
def State.endStray (s : State) (k : CardId) : State := (s.endBlank k statusFailed .badStatus).nextVisit k

/-! ## Intake (02 R33 to R38) -/

/-- The first check that fails, in the order of 02 R34, or the station a valid card works on. -/
def State.validate (s : State) (h : Header) : Except ErrorCode StationId :=
  if !(isEngineKind h.kind || isFastKind h.kind) then .error .badKind
  else
    match stationOf h.station with
    | none => .error .badStation
    | some n =>
      let t := s.station n
      if !t.setup.enabled then .error .stationOff
      else if isFastKind h.kind then .ok n
      else if t.fault then .error .stationFault
      else if !t.present then .error .notFitted
      else if !t.setup.matchesTag h.tagAddress then .error .notInRoster
      else .ok n

/-- CLEAR_FAULT asks the Supervisor (02 R37). -/
def State.intakeClearFault (s : State) (k : CardId) (n : StationId) : State :=
  if s.held n then s.endBlank k statusFailed .stationBusy
  else if !(s.station n).fault then s.endBlank k statusDone .none
  else if s.echoHigh n then s.endBlank k statusFailed .faultPersists
  else (s.clearFault n).endBlank k statusDone .none

/-- FORGET: verdicts UNVERIFIED and scores 0, identities kept, state and PERMIT derived anew (02 R38). -/
def State.forgetSlots (s : State) (n : StationId) : State :=
  s.stationEvent n fun s =>
    forAll allSlots (fun p t => t.writeSlot n p { t.readSlot n p with verdict := slotUnverified, score := 0 }) s

/-- FORGET asks the Supervisor (02 R38). -/
def State.intakeForget (s : State) (k : CardId) (n : StationId) : State :=
  if s.held n then s.endBlank k statusFailed .stationBusy
  else (s.forgetSlots n).endBlank k statusDone .none

/-- An engine kind becomes TAKEN: result zeroed, intake number, status, counter; it joins the list's tail and the
allocator is asked (02 R35). -/
def State.takeCard (s : State) (k : CardId) (h : Header) (n : StationId) : State :=
  let s1 := ((s.blankCard k).put (cardBase k + cdIntakeNumber) (halfBytes s.sweeper.counter)).put (cardBase k) [statusTaken]
  let s2 := s1.setSweeper { s1.sweeper with counter := s1.sweeper.counter + 1 }
  (s2.setWaiting (s2.waiting ++ [{ card := k, priority := priorityOf h.priority, station := n }])).allocate

/-- The intake burst of a posted card whose header has not changed since its visit (02 R33 to R35). -/
def State.intakeCard (s : State) (k : CardId) : State :=
  let h := s.readHeader k
  if s.byte (cardBase k + cdCancel) ≠ 0 then s.endBlank k statusCancelled .none
  else
    match s.validate h with
    | .error err => s.endBlank k statusFailed err
    | .ok n =>
      if h.kind = kindClearFault then s.intakeClearFault k n
      else if h.kind = kindForget then s.intakeForget k n
      else s.takeCard k h n

/-- The intake of card k with the header bytes its visit read: a touched or changed card is left (02 R33). -/
def State.intakeVisit (s : State) (k : CardId) (bytes : List Byte) : State :=
  if s.port.touched[k.val] || s.headerBytes k ≠ bytes then s.nextVisit k
  else (s.intakeCard k).nextVisit k

/-! ## Sweep timer (02 R29, R30) -/

/-- The timer expires: a sweep request, then the next period; a period half-written by the transaction in progress is
not read (02 R30). -/
def State.expireSweepTimer (s : State) (period : Half) : State :=
  let s1 := s.requestSweep
  let timer := if s.port.taking && s.port.periodNote then .counting period period else s.readSweepPeriod
  s1.setSweeper { s1.sweeper with timer := timer }

/-- The transaction-end notice that the period was written (02 R30). -/
def State.noticePeriod (s : State) : State :=
  match s.sweeper.timer with
  | .off => if s.regs.enable then s.setSweeper { s.sweeper with timer := s.readSweepPeriod } else s
  | .counting _ _ => s

end Sys2Proof.Machine
end

