-- ==== Sys2Proof/Machine/Control.lean ====
section
/-! DEFINITION. Enabling, disabling and the resets (01 R15 to R21, 02 R43, 03 R65, 04 R84, 05 R96, R97, R106). -/

namespace Sys2Proof.Machine

/-! ## Enable (01 R16) -/

/-- A held engine leaves HELD for its next step: a suspended question is resumed, every other step entered new (05 R97,
04 R79). -/
def State.resumeEngine (s : State) (e : EngineId) : State :=
  match (s.engine e).phase with
  | .held (.gating w) =>
    match s.question e with
    | some q => ((s.setPhase e (.gating w)).setQuestion e (some { q with suspended := false })).judgeQuestion e
    | none => s.askQuestion e w
  | .held .settling => s.beginSettling e
  | .held (.computing .lookup) => s.beginLookup e
  | .held (.computing .scoring) => s.beginScoring e
  | .held .writing => s.setPhase e (.writing .result)
  | _ => s

/-- The configuration is rejected: config fault and CONFIG_REJECTED, nothing else (01 R16). -/
def State.rejectConfiguration (s : State) (offset : Byte) : State :=
  (s.put msConfigFault [offset]).raise causeConfigRejected

/-- The configuration is accepted: snapshot, ENABLE and CONFIGURED, then tracker, engines, Supervisor, sweep timer and
allocator are told (01 R16, 04 R69, 05 R97, 03 R46, 02 R29, 05 R85). -/
def State.acceptConfiguration (s : State) (snap : Snapshot) : State :=
  let first := !s.configured
  let restart := match s.regs.snapshot with | some old => decide (old.ppc ≠ snap.ppc) | none => true
  let s1 := (s.setRegs { s.regs with enable := true, snapshot := some snap }).put msConfigFault [codeNone]
  let s2 := if first then s1.setTracker { s1.tracker with stopTimer := 0 } else s1
  let s3 := if restart then s2.restartTracker else s2
  let s4 := forAll allEngines (fun e t => t.resumeEngine e) s3
  let s5 := if first then s4.activateSupervisor else s4
  let s6 := s5.setSweeper { s5.sweeper with timer := s5.readSweepPeriod }
  s6.allocate

/-- ENABLE written 1 while it reads 0 (01 R16). -/
def State.enablePart (s : State) : State :=
  match s.readConfiguration with
  | .error offset => s.rejectConfiguration offset
  | .ok snap => s.acceptConfiguration snap

/-! ## Disable (01 R17) -/

/-- An engine in GATING enters HELD at once and its question is suspended; every other engine goes on (05 Table 5-2). -/
def State.holdEngine (s : State) (e : EngineId) : State :=
  match (s.engine e).phase with
  | .gating w =>
    (s.setPhase e (.held (.gating w))).setQuestion e ((s.question e).map fun q => { q with suspended := true })
  | _ => s

/-- The sweeper at a disable: the timer OFF, the latch clear, a visit begun is finished and no other follows (02 R29,
R31, R36). -/
def Sweeper.disable (w : Sweeper) : Sweeper :=
  { w with timer := .off, latch := false,
           visit := match w.visit with | some (.header _) => none | v => v,
           ending := match w.visit with | some (.intake _ _) | some (.stray _) => true | _ => false }

/-- ENABLE written 0 while it reads 1 (01 R17). -/
def State.disablePart (s : State) : State :=
  let s1 := s.setRegs { s.regs with enable := false }
  let s2 := forAll allEngines (fun e t => t.holdEngine e) s1
  s2.setSweeper s2.sweeper.disable

/-! ## Resets (01 R20, R21) -/

/-- The verifier-owned fields of station n's record after a reset; unused bytes are left (03 R65, 11 R195). -/
def State.resetRecord (s : State) (n : StationId) : State :=
  let base := stationBase n
  let s1 := (s.put (base + stState) [0, 0, codeNone, 0, 0, 0, 0, 0, 0])
  forAll allSlots (fun p t =>
    (((t.put (slotBase n p) [0]).put (slotBase n p + 2) (List.replicate 5 0)).put (slotBase n p + 8)
      (List.replicate 12 0))) s1

/-- The machine status record after a reset, unused bytes too (04 R84, 11 R195). -/
def State.resetStatusRecord (s : State) : State :=
  s.put msAngle ([0, 0, 0, 0, 0, codeNone] ++ List.replicate 26 0)

/-- A TAKEN or RUNNING card is closed: result zeroed, RESET_LOST, FAILED, no stamp (02 R43). -/
def State.recoverCard (s : State) (k : CardId) : State :=
  if s.cardStatus k = statusTaken || s.cardStatus k = statusRunning then
    (((s.blankCard k).put (cardBase k + cdError) [ErrorCode.resetLost.code]).put (cardBase k) [statusFailed]).raiseIf
      (s.cardNotify k) causeCardEnd
  else s

/-- The recovery walk (02 R43). -/
def State.recover (s : State) : State := forAll allCards (fun k t => t.recoverCard k) s

/-- Every block takes its reset values; mask, memory, pins and queue are kept (01 Table 1-7, 06 Table 6-4). -/
def State.resetBlocks (s : State) : State :=
  { State.reset with
    pins := s.pins, mem := s.mem, freeReads := s.freeReads, pending := s.pending,
    regs := { Registers.reset with mask := s.regs.mask, shelfFixed := s.shelfFixedField } }

/-- The end of a pin or soft reset: reset values, records rewritten, cards recovered (01 R20). -/
def State.finishReset (s : State) : State :=
  (forAll allStations (fun n t => t.resetRecord n) s.resetBlocks.resetStatusRecord).recover

/-- A reset begins: the transaction is cut off, a sweep is abandoned, every engine stops and holds nothing, every point
opens, no driver holds its line, questions and watches are discarded, every PERMIT is deasserted (01 R20, 02 R36, 03 R65,
04 R84, 05 R106, 06 R124). -/
def State.beginReset (s : State) : State :=
  { s with
    port := Port.reset, sweeper := { s.sweeper with visit := none },
    stations := s.stations.map fun t => { t with permit := false }, crosspoint := Vector.replicate 4 none,
    overloadHold := 0, engines := Vector.replicate 4 Engine.reset, holds := Vector.replicate 12 none,
    tracker := { s.tracker with questions := Vector.replicate 4 none, watches := Vector.replicate 4 none } }

/-- A low level of RESET that has lasted this many nanoseconds is taken as a pin reset: never below 100 ns, always from
1 µs on, and by a free value between (11 R196, log entry 4). -/
def State.takesReset (s : State) (low : Nat) : Bool :=
  if low < 100 then false else if low < 1000 then Config.shortResetTaken s.freeReads else true

/-- RESET goes low: too short a level has no effect; a level that is taken begins a pin reset (01 R20, 11 R196). -/
def State.assertReset (s : State) (low : Nat) : State :=
  let t := s.countFree (decide (100 ≤ low ∧ low < 1000))
  if s.takesReset low then t.beginReset.setPins { s.pins with resetLow := true } else t

/-- RESET is released: the pin reset ends, unless the power-on reset lasts on (01 R20, R21). -/
def State.releaseReset (s : State) : State :=
  let t := s.setPins { s.pins with resetLow := false }
  if s.pins.por then t else t.finishReset

/-- The supply comes up: the power-on reset lasts from here to POWER_ON_RESET, and the port and every output behave as
during a pin reset (01 R21). No row of the table begins it: a run that starts with the supply starts in such a state
(DESIGN CHOICE, log entry 24). -/
def State.raisePowerOn (s : State) : State := s.beginReset.setPins { s.pins with por := true }

/-- The end of POR: memory zeroed, records rewritten, registers at their reset values with the mask 0; the levels of the
input pins stay (01 R21). -/
def State.powerOn (s : State) : State :=
  { State.reset with pins := { s.pins with por := false }, freeReads := s.freeReads, pending := s.pending }

end Sys2Proof.Machine
end

