-- ==== Sys2Proof/Machine/Port.lean ====
section
/-! DEFINITION. The SPI port byte by byte, the XMU's ownership rules, and the transaction end (01 R1 to R15, 11 R194). -/

namespace Sys2Proof.Machine

/-! ## Ownership (01 R8 to R11) -/

/-- The fields of a station record by owner: controller-owned 0x00..0x0B, verifier-owned state to stamp and the slots,
change flag, unused (01 R9, 11 Table 11-8). -/
def stationByteAccepted (offset : Nat) (held : Bool) (v : Byte) : Bool :=
  if offset < 0x0C then !held
  else if offset < 0x10 then true
  else if offset < 0x18 then false
  else if offset = 0x18 then v = 0
  else if offset < 0x20 then true
  else if offset < 0x70 then (offset - 0x20) % 20 = 1 || (offset - 0x20) % 20 = 7
  else true

/-- A card byte by the status read at the byte (01 Table 1-4). -/
def cardByteAccepted (offset : Nat) (status : Byte) : Bool :=
  if status = statusTaken || status = statusRunning then offset = cdCancel else true

/-- The station whose record holds an address, with the offset. -/
def stationAt (a : Nat) : Option (StationId × Nat) :=
  if h : 0x100 ≤ a ∧ a < 0x700 then some (⟨(a - 0x100) / 128, by omega⟩, (a - 0x100) % 128) else none

/-- The card that holds an address, with the offset. -/
def cardAt (a : Nat) : Option (CardId × Nat) :=
  if h : 0x800 ≤ a ∧ a < 0x1000 then some (⟨(a - 0x800) / 64, by omega⟩, (a - 0x800) % 64) else none

/-- A controller byte may enter (01 R8 to R11). -/
def State.accepts (s : State) (a : Address) (v : Byte) : Bool :=
  let i := a.toNat
  if i < 0x80 then !s.regs.enable || i = 0x06 || i = 0x07 || i = 0x08
  else if i < 0xA0 then false
  else
    match stationAt i with
    | some (n, offset) => stationByteAccepted offset (s.held n) v
    | none =>
      match cardAt i with
      | some (k, offset) => cardByteAccepted offset (s.cardStatus k)
      | none => if 0x1000 ≤ i ∧ i < 0x2000 then !s.regs.shelfFixed else true

/-- A card joins the touched set with any controller byte that falls in it (01 R13). -/
def Port.touch (p : Port) (a : Address) : Port :=
  match cardAt a.toNat with
  | some (k, _) => { p with touched := p.touched.set k.val true }
  | none => p

/-- The watched write an accepted byte makes, if it makes one (01 Table 1-5). -/
def Port.note (p : Port) (a : Address) (v : Byte) : Port :=
  let i := a.toNat
  if i = cfgShelfFixed then { p with shelfNote := true }
  else if i = cfgSweepPeriod || i = cfgSweepPeriod + 1 then { p with periodNote := true }
  else
    match stationAt i with
    | some (n, offset) => if offset < 0x0C then { p with setupNotes := p.setupNotes.set n.val true } else p
    | none =>
      match cardAt i with
      | some (k, offset) =>
        if offset = cdCancel && v ≠ 0 then { p with cancelNotes := p.cancelNotes.set k.val true } else p
      | none => p

/-- A refused byte: memory kept, REFUSED_AT loaded and WRITE_REFUSED set if it was clear (01 R12). -/
def State.refuseByte (s : State) (a : Address) : State :=
  if s.causeSet causeWriteRefused then s
  else (s.setRegs { s.regs with refusedAt := a }).raise causeWriteRefused

/-- A controller byte offered to the XMU (01 R4, R12 to R14). -/
def State.offerByte (s : State) (a : Address) (v : Byte) : State :=
  let s1 := s.setPort (s.port.touch a)
  if s.accepts a v then (s1.put a.toNat [v]).setPort (s1.port.note a v) else s1.refuseByte a

/-! ## Register writes (01 R15 to R19, 11 R194) -/

/-- A soft reset, carried out whole; the rest of its transaction is discarded (01 R20). -/
def State.softReset (s : State) : State :=
  let t := s.finishReset
  t.setPort { t.port with discarding := true, shifted := s.port.shifted }

/-- A write of RUN_CONTROL: RESET, else ENABLE, then SWEEP (01 R15). -/
def State.writeRunControl (s : State) (v : Half) : State :=
  if v.getLsbD 2 then s.softReset
  else
    let enable := v.getLsbD 0
    let s1 := if enable && !s.regs.enable then s.enablePart
              else if !enable && s.regs.enable then s.disablePart
              else s
    if v.getLsbD 1 && s1.regs.enable then s1.requestSweep else s1

/-- A write of ATTENTION clears each cause written with 1 (01 R18). -/
def State.clearAttention (s : State) (v : Half) : State :=
  s.setRegs { s.regs with causes := s.regs.causes &&& ~~~(v.setWidth 5) }

/-- A write of ATTENTION_MASK stores the five mask bits (01 R19). -/
def State.writeMask (s : State) (v : Half) : State := s.setRegs { s.regs with mask := v.setWidth 5 }

/-- A register write, taken when its high byte completes (01 R6). -/
def State.writeRegister (s : State) (index : Byte) (v : Half) : State :=
  if index = 1 then s.writeRunControl v
  else if index = 2 then s.clearAttention v
  else if index = 3 then s.writeMask v
  else s

/-! ## Bytes (01 R1 to R6) -/

/-- Byte 1: the command is latched; byte 2 out will be the high byte of ATTENTION as it stands now, when byte 1 completes:
that byte 2 begins to shift here is a DESIGN CHOICE (01 R1, R2; log entry 21). -/
def State.commandByte (s : State) (mosi : Byte) : State :=
  s.setPort { s.port with command := some (transactionOf mosi), shiftOut := s.attention.extractLsb' 8 8 }

/-- The access pointer from byte 3 over byte 2: six high bits, the top two bits ignored (01 R3). -/
def loadPointer (low : Address) (mosi : Byte) : Address := (mosi.setWidth 6 : BitVec 6) ++ (low.setWidth 8 : BitVec 8)

/-- The next byte of a memory read is read now, and the pointer advances (01 R3, R5). -/
def State.fetchRead (s : State) (a : Address) : State :=
  s.setPort { s.port with shiftOut := s.byte a.toNat, pointer := a + 1 }

/-- A later byte of a memory read (01 R3). -/
def State.memoryReadByte (s : State) (count : Nat) (mosi : Byte) : State :=
  if count = 1 then s.setPort { s.port with pointer := mosi.setWidth 14, shiftOut := 0 }
  else if count = 2 then s.fetchRead (loadPointer s.port.pointer mosi)
  else s.fetchRead s.port.pointer

/-- A later byte of a memory write (01 R4, R5). -/
def State.memoryWriteByte (s : State) (count : Nat) (mosi : Byte) : State :=
  if count = 1 then s.setPort { s.port with pointer := mosi.setWidth 14, shiftOut := 0 }
  else if count = 2 then s.setPort { s.port with pointer := loadPointer s.port.pointer mosi, shiftOut := 0 }
  else
    let s1 := s.setPort { s.port with pointer := s.port.pointer + 1, shiftOut := 0 }
    s1.offerByte s.port.pointer mosi

/-- The value of a register is taken as its low byte begins to shift, which the model puts at the completion of the byte
before it: DESIGN CHOICE (01 R6, log entry 21). -/
def State.fetchRegister (s : State) (index : Byte) : State :=
  let v := s.registerValue index
  s.setPort { s.port with regIndex := index, pairValue := v, shiftOut := v.extractLsb' 0 8 }

/-- A later byte of a register read: byte 2 is the index, an odd byte a low byte, an even byte a high byte (01 R6). -/
def State.registerReadByte (s : State) (count : Nat) (mosi : Byte) : State :=
  if count = 1 then s.fetchRegister mosi
  else if count % 2 = 0 then s.setPort { s.port with shiftOut := s.port.pairValue.extractLsb' 8 8 }
  else s.fetchRegister (s.port.regIndex + 1)

/-- A later byte of a register write: the pair is one write when its high byte completes (01 R6). -/
def State.registerWriteByte (s : State) (count : Nat) (mosi : Byte) : State :=
  if count = 1 then s.setPort { s.port with regIndex := mosi, shiftOut := 0 }
  else if count % 2 = 0 then s.setPort { s.port with lowByte := mosi, shiftOut := 0 }
  else
    let s1 := s.setPort { s.port with regIndex := s.port.regIndex + 1, shiftOut := 0 }
    s1.writeRegister s.port.regIndex (halfOf s.port.lowByte mosi)

/-- A complete byte of the transaction in progress (01 R1). -/
def State.portByte (s : State) (mosi : Byte) : State :=
  let count := s.port.count
  let s1 := s.setPort { s.port with shifted := s.port.shiftOut, count := count + 1 }
  match s.port.command with
  | none => s1.commandByte mosi
  | some .memoryRead => s1.memoryReadByte count mosi
  | some .memoryWrite => s1.memoryWriteByte count mosi
  | some .registerRead => s1.registerReadByte count mosi
  | some .registerWrite => s1.registerWriteByte count mosi
  | some .void => s1.setPort { s1.port with shiftOut := 0 }

/-- A byte clocked while CS is low and no transaction takes bytes: 0x00 after a soft reset (01 R20); after a reset that
ended with CS low the value is free (log entry 4). -/
def State.idleByte (s : State) : State :=
  if s.port.discarding then s.setPort { s.port with shifted := 0 }
  else (s.setPort { s.port with shifted := Config.misoWithoutTransaction s.freeReads }).countFree true

/-- A complete byte on the port, as a byte of a row's transaction: fits says that it is one. A byte that is not of the
row's kind is no step of the row, and nothing happens (log entry 8). -/
def State.clockByte (s : State) (fits : Bool) (mosi : Byte) : State :=
  if s.inReset || !s.pins.csLow then s
  else if s.port.taking then (if fits then s.portByte mosi else s)
  else s.idleByte

/-- The byte is one of a transaction of this kind: its command byte, or a later byte. -/
def Port.isByteOf (p : Port) (kind : Transaction) (mosi : Byte) : Bool :=
  match p.command with
  | none => transactionOf mosi = kind
  | some k => k = kind

/-- The byte is one of a write of a register that the row names, with a value that the row names: command byte, index,
low byte or high byte (01 R6). -/
def Port.isWriteByteOf (p : Port) (mosi : Byte) (index : Byte → Bool) (value : Half → Bool) : Bool :=
  match p.command with
  | none => transactionOf mosi = .registerWrite
  | some .registerWrite =>
    if p.count = 1 then index mosi
    else index p.regIndex && (p.count % 2 = 0 || value (halfOf p.lowByte mosi))
  | some _ => false

/-! ## Transaction start and end (01 R1, R14) -/

/-- CS falls: everything is loaded afresh; byte 1 out will be the low byte of ATTENTION as it stands now: that byte 1
begins to shift at the fall of CS is a DESIGN CHOICE (01 R1, R2; log entry 21). While a reset lasts the port ignores CS,
but the pin is low (01 R20). -/
def State.startTransaction (s : State) : State :=
  let low := s.setPins { s.pins with csLow := true }
  if s.pins.csLow then s
  else if s.inReset then low
  else
    low.setPort { Port.reset with taking := true, shiftOut := s.attention.extractLsb' 0 8, shifted := s.port.shifted }

/-- A cancel byte written nonzero, by the card's status at transaction end (01 Table 1-5). -/
def State.passCancel (s : State) (k : CardId) : State :=
  if s.cardStatus k = statusTaken then s.cancelPending k
  else if s.cardStatus k = statusRunning then
    match s.engineOfCard k with
    | some e => s.modEngine e fun g => { g with stops := g.stops ++ [.cancel k] }
    | none => s
  else s

/-- The attribute in effect takes the field's value; a change to clear empties the cache and breaks every lookup's
unbroken time (01 Table 1-5, 08 R152, R154). -/
def State.takeShelfFixed (s : State) : State :=
  let new := s.shelfFixedField
  let s1 := s.setRegs { s.regs with shelfFixed := new }
  if s.regs.shelfFixed && !new then
    forAll allEngines
      (fun e t => t.modEngine e fun g => { g with lookup := { g.lookup with fixedThroughout := false } })
      (s1.setCache Cache.reset)
  else s1

/-- A cancel for the card of the engine is on its way to it (01 Table 1-5, 05 R99). -/
def Engine.cancelOnItsWay (g : Engine) : Bool :=
  match g.job with
  | some j => g.stops.contains (.cancel j.card)
  | none => false

/-- The blocks of 01 Table 1-5 take the transaction end before a re-read that waits for it is served: the re-read is due
after it, but where a cancel is on its way to its engine it waits on, and the cancel, once taken, abandons the lookup
(08 R148). A disable stop, which the Supervisor sends when it acts on the setup, is an event of its own and may be taken
before or after the re-read: DEDUCED (log entry 28). -/
def Engine.afterTransaction (g : Engine) : Engine :=
  if g.lookup.reread = .waiting && !g.cancelOnItsWay then { g with lookup := { g.lookup with reread := .due } } else g

/-- The watched writes are passed on in the order of the table; then the transaction is over (01 R14, R13). -/
def State.endTransaction (s : State) : State :=
  let p := s.port
  let s1 := forAll allCards (fun k t => if p.cancelNotes[k.val] then t.passCancel k else t) s
  let s2 := forAll allStations (fun n t => if p.setupNotes[n.val] then t.setupNotice n else t) s1
  let s3 := if p.shelfNote then s2.takeShelfFixed else s2
  let s4 := if p.periodNote then s3.noticePeriod else s3
  let s5 := forAll allEngines (fun e t => t.modEngine e Engine.afterTransaction) s4
  s5.setPort { Port.reset with shifted := p.shifted }

/-- CS rises: the transaction in progress ends; a discarded or cut off one has nothing to pass on (01 R1, R14, R20). -/
def State.releaseSelect (s : State) : State :=
  let high := s.setPins { s.pins with csLow := false }
  if !s.pins.csLow then s
  else if s.inReset then high
  else if s.port.taking then high.endTransaction
  else high.setPort { Port.reset with shifted := s.port.shifted }

end Sys2Proof.Machine
end

