-- ==== Sys2Proof/Machine/Scoring.lean ====
section
/-! DEFINITION. The judgement of a round and the scoring pass, in exact integers (06 R117 to R119, 09 R159 to R173). -/

namespace Sys2Proof.Machine

/-! ## A round (06) -/

/-- The edge in the merge latch is compared with the last captured timestamp and leaves the latch: merged, captured, or an
overrun (06 R114, R115). -/
def Capture.compare (c : Capture) : Capture :=
  match c.latch with
  | none => c
  | some t =>
    let merged := match c.last with | some l => decide (t ≤ l + 3) | none => false
    if merged then { c with latch := none }
    else if c.list.length < 8 then { c with latch := none, list := c.list ++ [t], last := some t }
    else { c with latch := none, overrun := true }

/-- An echo edge at a tick: ignored in blind time, else put into the merge latch and compared (06 R113 to R115). -/
def Capture.echo (c : Capture) (t : Nat) : Capture :=
  if t < 3 then c else { c with latch := some t }.compare

/-- A reference edge at a tick: the first at tick 3 or later is kept (06 R113, R116). -/
def Capture.ref (c : Capture) (t : Nat) : Capture :=
  if t < 3 then c else { c with reference := c.reference.orElse fun _ => some t }

/-- The flag of a discarded round, none for a valid one: the first test of 06 Table 6-3 that fails. -/
def Capture.discard (c : Capture) (n : Nat) : Option Half :=
  if c.disturbed then some flagDisturbed
  else if c.overrun then some flagOverrun
  else if c.reference.isNone then some flagRefMissing
  else if c.list.length ≠ n then some flagCountMismatch
  else none

/-- An interval into its position's accumulators (06 R118). -/
def Position.add (p : Position) (t : Nat) : Position :=
  { sum := p.sum + t, largest := max p.largest t, smallest := min p.smallest t }

/-- A valid round's figures: the first sets largest and smallest (06 R118). -/
def Rounds.addValid (r : Rounds) (c : Capture) : Rounds :=
  { valid := r.valid + 1, attempts := r.attempts + 1,
    positions := if r.valid = 0 then c.list.map fun t => { sum := t, largest := t, smallest := t }
                 else List.zipWith Position.add r.positions c.list,
    refSum := r.refSum + c.reference.getD 0 }

/-- The round judged into accumulators and flags (05 R93, 06 R117, R118). That the stage is emptied here is a DESIGN CHOICE:
06 R107 clears it at the next start (log entry 25). -/
def Engine.judgeRound (g : Engine) (n : Nat) : Engine :=
  match g.capture.discard n with
  | none => { g with rounds := g.rounds.addValid g.capture, capture := Capture.reset }
  | some f => { g.addFlag f with rounds := { g.rounds with attempts := g.rounds.attempts + 1 }, capture := Capture.reset }

/-- The test for the end of collection after a judgement (06 R119). -/
def Engine.collectionEnd (g : Engine) : Option Ending :=
  match g.target with
  | none => none
  | some r =>
    if g.rounds.valid = r then some .roundsMet
    else if g.rounds.attempts = 2 * r then some .attemptsSpent
    else none

/-! ## Stages of the pass (09) -/

/-- Mean of V values by their sum, rounded half up (09 R162). -/
def meanOf (sum v : Nat) : Nat := (sum + v / 2) / v

/-- A corrected mean interval before its clamp (09 R163). -/
def correctedRaw (m mref nref : Nat) : Nat := if nref = 0 then m else (m * nref + mref / 2) / mref

/-- A corrected mean interval (09 R163). -/
def corrected (m mref nref : Nat) : Nat := min (correctedRaw m mref nref) 65535

/-- The card's temperature as the engine takes it (02 R22). -/
def clampTemperature (t : Int) : Int := max (-40) (min 300 t)

/-- The scale k in parts per million (09 R164). -/
def scaleOf (p : Profile) (h : Header) : Int :=
  let dT := if h.tempPresent then clampTemperature h.temperature.toInt - p.t0.toInt else 0
  1000000 + p.alpha.toInt * dT

/-- An expected interval before its clamp (09 R165). -/
def expectedRaw (delay : Nat) (k : Int) : Int := ((delay : Int) * k + 500000) / 1000000

/-- An expected interval (09 R165). -/
def expected (delay : Nat) (k : Int) : Nat := (max 1 (min 65535 (expectedRaw delay k))).toNat

/-- The tolerance of a position (09 R166). -/
def toleranceOf (p : Profile) (x : Nat) : Nat := max (x * p.tolPpm.toNat / 1000000) p.tolMin.toNat

/-- |C − X| (09 R167). -/
def deviation (c x : Nat) : Nat := (c - x) + (x - c)

/-- The normalised deviation (09 R167). -/
def normalised (d l : Nat) : Nat := min (d * 256 / l) 4095

/-- S (09 R168). -/
def scoreOf (qs : List Nat) (n : Nat) : Nat := qs.sum / n

/-- W (09 R168). -/
def worstOf (qs : List Nat) : Nat := qs.foldl max 0

/-- The verdict of a scored VERIFY card, lines 6 to 8 of 09 Table 9-4. -/
def scoredVerdict (p : Profile) (s w : Nat) (noisy : Bool) : Verdict :=
  if p.reject.toNat ≤ w then .counterfeit
  else if w ≤ 256 ∧ s ≤ p.accept.toNat ∧ noisy = false then .genuine
  else .suspect

/-- A flag, if a condition holds. -/
def flagIf (b : Bool) (f : Half) : Half := if b then f else 0

/-- The means of the n positions (09 R162). -/
def Engine.means (g : Engine) (n : Nat) : List Nat :=
  (g.rounds.positions.take n).map fun p => meanOf p.sum g.rounds.valid

/-- Mref (09 R162). -/
def Engine.refMean (g : Engine) : Nat := meanOf g.rounds.refSum g.rounds.valid

/-- The scoring pass: figures for WRITING and the flags it sets (09 R161 to R173). -/
def Engine.score (g : Engine) (p : Profile) : Figures × Half :=
  let n := p.n.toNat
  if g.rounds.valid < p.minValid.toNat then
    ({ Figures.reset with verdict := .inconclusive }, flagIf (g.ending = some .attemptsSpent) flagAttempts)
  else
    let ms := g.means n
    let raw := ms.map fun m => correctedRaw m g.refMean g.nref.toNat
    let cs := ms.map fun m => corrected m g.refMean g.nref.toNat
    let clampedC := raw.any fun c => decide (65535 < c)
    if g.header.kind = kindSurvey then
      ({ Figures.reset with c := cs }, flagIf clampedC flagClamped)
    else
      let k := scaleOf p g.header
      let es := p.enrolled.map (·.toNat)
      let xs := es.map fun d => expected d k
      let clampedX := es.any fun d => decide (expectedRaw d k < 1 ∨ 65535 < expectedRaw d k)
      let ls := xs.map (toleranceOf p)
      let qs := List.zipWith normalised (List.zipWith deviation cs xs) ls
      let sc := scoreOf qs n
      let wo := worstOf qs
      let noisy := (List.zipWith (fun q l => decide (2 * l < q.largest - q.smallest)) (g.rounds.positions.take n) ls).any id
      ({ verdict := scoredVerdict p sc wo noisy, c := cs, s := sc, w := wo, error := .none },
       flagIf (clampedC || clampedX) flagClamped ||| flagIf noisy flagNoisy)

end Sys2Proof.Machine
end

