-- ==== Sys2Proof/Machine/Line.lean ====
section
/-! DEFINITION. What happens to rounds and tag frames in flight: levels, answers, tails, windows (05 R91 to R94, 06, 07). -/

namespace Sys2Proof.Machine

/-! ## Tag frame (07) -/

/-- The level after a driven level of the frame (07 R126, R127). -/
def nextLevel : FramePhase → Option FramePhase
  | .wakeHigh => some .wakeLow
  | .wakeLow => some (.command 0 true)
  | .command b true => some (.command b false)
  | .command b false => if b = 7 then some .answerWait else some (.command (b + 1) true)
  | .answerWait | .answerHigh | .answerGap | .tail => none

/-- Command bit b of the command byte, most significant first (07 R127). -/
def Frame.commandBit (f : Frame) (b : Fin 8) : Bool := f.commandByte.getLsbD (7 - b.val)

/-- The length of a driven level in ticks (07 Table 7-3). -/
def Frame.levelLength (f : Frame) : Option Nat :=
  match f.phase with
  | some .wakeHigh => some (8 * f.cell)
  | some .wakeLow => some (2 * f.cell)
  | some (.command b true) => some (if f.commandBit b then 3 * f.cell else f.cell)
  | some (.command _ false) => some f.cell
  | _ => none

/-- The sampler as a command brings the clock of a station line to a later tick, if it does: ECHOn and REFECHOe have stood
till the tick before it (06 R108, log entry 2). -/
def Engine.resample (g : Engine) (later echo ref : Bool) : Engine :=
  if g.rising || later then { g with rising := false, echoBefore := echo, refBefore := ref } else g

/-- A driven level ends. An engine finishing a high level after a stop stops at this fall (07 R126, R138, 05 R100). -/
def State.endLevel (s : State) (e : EngineId) : State :=
  let g := s.engine e
  match g.frame.phase.bind nextLevel with
  | some p =>
    if g.stopOutcome.isSome then s.stopNow e
    else
      s.modEngine e fun g =>
        let early := match g.frame.levelLength with | some len => decide (g.frame.level < len) | none => false
        { g.resample early (s.echoOf e) (s.refHigh e) with
          frame := { g.frame with phase := some p, level := 0, listen := 0 } }
  | none => s

/-- The decoder decides and goes to TAIL (07 R134, R135): low is none in the tick of the decision, and some 0 where the
decision is the last of its tick. -/
def Frame.conclude (f : Frame) (d : Decision) (listen : Nat) (low : Option Nat) : Frame :=
  { f with phase := some .tail, decision := some d, listen := listen, low := low }

/-- Low ticks of the gap that are past: the counter reads 1 in the tick of the fall itself, in which the tick before it
read high (07 R131). -/
def Frame.gapPast (f : Frame) (before : Bool) : Nat := if before then 0 else f.gap

/-- High ticks of the bit that are past: the counter reads 1 in the tick of the rise itself, in which the tick before it
read low (07 R130). -/
def Frame.widthPast (f : Frame) (before : Bool) : Nat := if before then f.width else 0

/-- An answer bit begins: in ANSWER_WAIT counter is the listen tick, in ANSWER_GAP the low ticks of the gap; the tick before
has read low: before is its sample, and now the level that has stood since where the command comes to a later tick
(07 R129, R131). None where no bit can begin there. -/
def Frame.rise (f : Frame) (before now : Bool) (counter : Nat) : Option Frame :=
  match f.phase with
  | some .answerWait =>
    if f.listen ≤ counter ∧ counter < 16 * f.cell ∧ (if f.listen = counter then before else now) = false then
      some { f with phase := some .answerHigh, listen := counter, width := 1 }
    else none
  | some .answerGap =>
    let past := f.gapPast before
    if 1 ≤ counter ∧ past ≤ counter ∧ counter < 4 * f.cell ∧ (if past = counter then before else now) = false then
      some { f with phase := some .answerHigh, listen := f.listen + (counter - past), width := 1 }
    else none
  | _ => none

/-- The answer's fourteen bytes (07 R132). -/
def Frame.record (f : Frame) : List Byte := bytesFromBits 14 f.answer

/-- A high level of width ticks ends: its bit is appended; bit 112 completes the answer, which is judged at once (07 R130
to R134). None where no bit can end so. -/
def Frame.fall (f : Frame) (before : Bool) (tagAddress : Byte) (width : Nat) : Option Frame :=
  let past := f.widthPast before
  if f.phase = some .answerHigh ∧ 1 ≤ width ∧ past ≤ width ∧ width < 4 * f.cell then
    let listen := f.listen + (width - past)
    let f1 := { f with answer := f.answer ++ [decide (2 * f.cell ≤ width)], width := width }
    if f1.answer.length = 112 then
      some ({ f1 with crc := crcOf (f1.record.take 12) }.conclude (judgeRecord tagAddress f1.record) listen none)
    else some { f1 with phase := some .answerGap, gap := 1, listen := listen }
  else none

/-- The level of ECHOn that a transition leaves on the engine's station line. -/
def State.setEchoLevel (s : State) (e : EngineId) (high : Bool) : State :=
  match (s.engine e).job with
  | some j =>
    let bit : Levels := 1 <<< j.station.val
    s.sampleEcho (if high then s.pins.echo ||| bit else s.pins.echo &&& ~~~bit)
  | none => s

/-- The level of REFECHOe that a transition leaves. -/
def State.setRefLevel (s : State) (e : EngineId) (high : Bool) : State :=
  let bit : BitVec 4 := 1 <<< e.val
  s.setPins { s.pins with refEcho := if high then s.pins.refEcho ||| bit else s.pins.refEcho &&& ~~~bit }

/-- A transition of ECHOn in READING: the decoder changes if it is one the decoder takes, and in the tick before the line
read the other level; the level is the line's in every phase of the attempt, the tail among them (07 R128, R135). -/
def State.answerEdge (s : State) (e : EngineId) (high : Bool) (f : Option Frame) : State :=
  match f with
  | some f => (s.modEngine e fun g => { g with frame := f, echoBefore := !high }).setEchoLevel e high
  | none => s.setEchoLevel e high

/-- The engine is in READING with its decoder in this phase. -/
def State.decoderIn (s : State) (e : EngineId) (p : FramePhase) : Bool :=
  (s.engine e).phase = .reading && (s.engine e).frame.phase = some p

/-- The outcome of an attempt at the end of its tail: the disturbed mark first (07 Table 7-5). -/
def Frame.outcome (f : Frame) : Decision :=
  if f.disturbed then .failed .disturbed else f.decision.getD (.failed .noAnswer)

/-- A GOOD outcome: the record is kept; IDENTIFY writes, a serial mismatch fails, the rest look the profile up (05 R91,
10 R182). -/
def State.goodFrame (s : State) (e : EngineId) (record : List Byte) : State :=
  let g := s.engine e
  let s1 := s.modEngine e fun g => { g with tagRecord := some record }
  if g.header.kind = kindIdentify then s1.toWriting e
  else if g.header.expectSerial && tagSerial record ≠ g.header.serial then
    (s1.modEngine e fun g => { g with figures := { g.figures with error := .serialMismatch } }).toWriting e
  else s1.toLookup e

/-- A failed attempt: another frame before the third, else UNREADABLE with the flag of the last cause (07 R137). -/
def State.failedFrame (s : State) (e : EngineId) (c : FrameCause) : State :=
  let s1 := s.modEngine e fun g =>
    { (if c = .disturbed then g.addFlag flagDisturbed else g) with lastFailure := some c }
  if (s.engine e).frameAttempts < 3 then s1.toGating e .frame
  else ((s1.addFlag e c.flag).setVerdict e .unreadable).toWriting e

/-- The tail ends: the attempt counts and READING ends by its outcome (07 R135, 05 R91). That the decoder is emptied here
is a DESIGN CHOICE: 07 R125 clears it at the next start (log entry 25). -/
def State.endTail (s : State) (e : EngineId) : State :=
  let f := (s.engine e).frame
  let s1 := (s.modEngine e fun g => { g with frameAttempts := g.frameAttempts + 1, frame := Frame.reset }).closeWatch e
  match f.outcome with
  | .good => s1.goodFrame e f.record
  | .failed c => s1.failedFrame e c

/-! ## Rounds (05 R93, R94, 06) -/

/-- The window counter comes to a tick, if it is not there (06 R108). -/
def Engine.reach (g : Engine) (t : Nat) (echo ref : Bool) : Engine :=
  let g1 := g.resample (decide (g.capture.counter < t)) echo ref
  { g1 with capture := { g1.capture with counter := max g1.capture.counter t } }

/-- The pulse falls at Weff: LISTENING, or the stop that waited for it (06 R111, 05 R100). -/
def State.endPulse (s : State) (e : EngineId) : State :=
  if (s.engine e).stopOutcome.isSome then s.stopNow e
  else s.modEngine e fun g => { g.reach g.capture.weff (s.echoOf e) (s.refHigh e) with phase := .listening }

/-- A transition at a tick is one of the open window: no earlier than the last tick seen, before the close, in a round that
no stop has abandoned (06 R112). -/
def Engine.takesEdge (g : Engine) (t : Half) : Bool :=
  (g.phase = .pulsing || g.phase = .listening) && g.stopOutcome.isNone && g.capture.running &&
    decide (g.capture.counter ≤ t.toNat ∧ t.toNat < g.capture.window)

/-- A transition of ECHOn, or of REFECHOe, at a tick of the open window: it is an edge if it rises and the line read low in
the tick before (06 R108); take says what the stage does with the edge. -/
def State.windowEdge (s : State) (e : EngineId) (t : Nat) (rising : Bool) (before : Engine → Bool)
    (take : Capture → Nat → Capture) : State :=
  s.modEngine e fun g =>
    let g1 := g.reach t (s.echoOf e) (s.refHigh e)
    if rising && !before g1 then { g1 with capture := take g1.capture t } else g1

/-- The window closes: the watch is closed, the round judged, and the end of collection tested (06 R117 to R119). -/
def State.closeWindow (s : State) (e : EngineId) (n : Nat) : State :=
  let s1 := (s.modEngine e fun g => g.judgeRound n).closeWatch e
  match (s1.engine e).collectionEnd with
  | some x => (s1.modEngine e fun g => { g with ending := some x }).toScoring e
  | none => s1.toSettling e

/-- The gate limit expires on the open question (05 R94). -/
def State.expireGate (s : State) (e : EngineId) (w : Work) : State :=
  let s1 := (s.withdrawQuestion e).addFlag e flagGateTimeout
  match w with
  | .frame => (s1.setVerdict e .inconclusive).toWriting e
  | .round => (s1.modEngine e fun g => { g with ending := some .gateLimit }).toScoring e

end Sys2Proof.Machine
end

