-- ==== Sys2Proof/Machine/Writing.lean ====
section
/-! DEFINITION. WRITING: result burst, delivery, terminal burst and the end of a stopped card (10 R184 to R188, 03 R59,
R60, 05 R103). -/

namespace Sys2Proof.Machine

/-- The tag record as written: fourteen bytes, zero if none (10 R185). -/
def Engine.tagBytes (g : Engine) : List Byte := (g.tag ++ List.replicate 14 0).take 14

/-- C1..C8 as written: 0 beyond those computed (09 R177). -/
def Engine.intervalBytes (g : Engine) : List Byte :=
  ((g.figures.c ++ List.replicate 8 0).take 8).flatMap fun c => halfBytes (BitVec.ofNat 16 c)

/-- The profile index as written: 0xFF for none. -/
def indexByte (i : Option ShelfId) : Byte := match i with | some i => BitVec.ofNat 8 i.val | none => codeNone

/-- The result burst's fields (10 Table 10-3). -/
def State.writeResult (s : State) (k : CardId) (g : Engine) : State :=
  let base := cardBase k
  ((s.put (base + cdVerdict) (g.figures.verdict.code :: halfBytes g.flags)).put (base + cdProfileIndex)
    ([indexByte g.profileIndex, BitVec.ofNat 8 g.rounds.valid, BitVec.ofNat 8 g.rounds.attempts] ++
      halfBytes (BitVec.ofNat 16 g.figures.s) ++ halfBytes (BitVec.ofNat 16 g.figures.w))).put (base + cdTagRecord)
    (g.tagBytes ++ g.intervalBytes)

/-- What a delivery carries: verdict and score, identity (03 R59, 09 R175, R176). -/
structure Parcel where
  verdict : Option (Byte × Half)
  identity : Option (List Byte)
deriving DecidableEq, Repr

/-- The delivery of an engine's card, none for a card that makes none (09 Table 9-5, R176). -/
def Engine.parcel (g : Engine) : Option Parcel :=
  if g.figures.error ≠ .none then none
  else if g.header.kind = kindIdentify then
    if g.figures.verdict = .none then some { verdict := none, identity := g.tagRecord } else none
  else if g.header.kind = kindVerify then
    let score := BitVec.ofNat 16 g.figures.s
    match g.figures.verdict with
    | .genuine => some { verdict := some (slotGenuine, score), identity := g.tagRecord }
    | .suspect => some { verdict := some (slotSuspect, score), identity := g.tagRecord }
    | .counterfeit => some { verdict := some (slotCounterfeit, score), identity := g.tagRecord }
    | .unlisted => some { verdict := some (slotSuspect, 0), identity := g.tagRecord }
    | .unreadable => some { verdict := some (slotUnreadable, 0), identity := none }
    | .inconclusive | .none => none
  else none

/-- The Supervisor's judgement: the cause of a refusal, none for accepted (03 R59). -/
def State.judgeDelivery (s : State) (n : StationId) : Option Loss :=
  let t := s.station n
  match t.lossMark with
  | some l => some l
  | none =>
    if !t.setup.enabled then some .stationOff
    else if t.fault then some .lineFault
    else if !t.present then some .partRemoved
    else none

/-- An accepted delivery's identity and verdict over a slot's fields (03 R60). -/
def SlotFields.deliver (f : SlotFields) (d : Parcel) : SlotFields :=
  let f1 := match d.identity with
    | some r => { f with type := tagType r, variant := tagVariant r, serial := tagSerial r, lot := tagLot r, date := tagDate r }
    | none => f
  match d.verdict with
  | some (v, score) => { f1 with verdict := v, score := score }
  | none => f1

/-- A delivery with identity and another serial resets the slot first (03 R60, 10 R193). -/
def State.resetOnSerial (s : State) (n : StationId) (p : SlotId) (d : Parcel) : State :=
  match d.identity with
  | some r => if tagSerial r ≠ (s.readSlot n p).serial then s.resetSlot n p else s
  | none => s

/-- An accepted delivery into the matching slot, with the held permit, in one burst (03 R60). -/
def State.acceptDelivery (s : State) (n : StationId) (tag : Byte) (d : Parcel) : State :=
  s.stationEvent n fun s =>
    let s1 := match (s.station n).setup.positionOf tag with
      | some p =>
        let t := s.resetOnSerial n p d
        t.writeSlot n p ((t.readSlot n p).deliver d)
      | none => s
    s1.refreshHeldPermit n

/-- The delivery reaches the Supervisor; the engine takes the answer to the terminal burst (03 R59, 10 R186). -/
def State.deliver (s : State) (e : EngineId) (n : StationId) (d : Parcel) : State :=
  let answer := s.judgeDelivery n
  let s1 := if answer.isNone then s.acceptDelivery n (s.engine e).header.tagAddress d else s
  s1.modEngine e fun g => { g with phase := .writing .terminal, answer := answer }

/-- The error the terminal burst writes (10 R186). -/
def Engine.terminalError (g : Engine) : ErrorCode :=
  match g.answer with
  | some l => l.error
  | none => g.figures.error

/-- DONE with NONE, FAILED with any other code (02 R24). -/
def statusFor (err : ErrorCode) : Byte := if err = .none then statusDone else statusFailed

/-- The terminal burst, CARD_END and the release (10 R187, R188). -/
def State.endOnEngine (s : State) (e : EngineId) (j : Job) : State :=
  let g := s.engine e
  (s.endCard j.card (statusFor g.terminalError) g.terminalError g.header.notify).release e j.station

/-- Error code and status of a stopped card (05 Table 5-3). -/
def stoppedEnd : Option StopOutcome → ErrorCode × Byte
  | some (.lost l) => (l.error, statusFailed)
  | some .cancelled => (.none, statusCancelled)
  | none => (.none, statusCancelled)

/-- The result fields of a stopped card (05 R103). -/
def State.writeStopped (s : State) (k : CardId) (g : Engine) (err : ErrorCode) : State :=
  let base := cardBase k
  let index := if g.profile.isSome then g.profileIndex else none
  ((s.put (base + cdError) ([err.code, Verdict.none.code] ++ halfBytes g.flags)).put (base + cdProfileIndex)
    [indexByte index, BitVec.ofNat 8 g.rounds.valid, BitVec.ofNat 8 g.rounds.attempts]).put (base + cdTagRecord) g.tagBytes

/-- The end of a stopped card: result fields, stamp, status, CARD_END, release; no delivery (05 R103). -/
def State.endStopped (s : State) (e : EngineId) (j : Job) : State :=
  let g := s.engine e
  let r := stoppedEnd g.stopOutcome
  ((s.writeStopped j.card g r.1).finishCard j.card r.2 g.header.notify).release e j.station

/-- A stop sent to the engine reaches it: one for another card or station is dropped (05 R99, R100). -/
def State.stopReaches (s : State) (e : EngineId) (stop : Stop) : State :=
  let s1 := s.modEngine e fun g => { g with stops := g.stops.erase stop }
  if (s.engine e).holdsTarget stop then s1.takeStop e stop else s1

end Sys2Proof.Machine
end

