-- ==== Sys2Proof/Machine/Clock.lean ====
section
/-! DEFINITION. The measurement clock on an empty queue: what is due in the present tick is queued, and where nothing is
due the tick ends: every counter that runs advances, and what has come due is queued (00_scope.md Time; log entry 2). -/

namespace Sys2Proof.Machine

/-- The end of a tick in the frame decoder; echo is the level of ECHOn in it, before that of the tick before. The tick of a
rise or a fall, in which the level differs from the one before, is in its counter already (07 R130, R131); the tick of a
decision is not the tail's (07 R135). -/
def Frame.tick (f : Frame) (before echo : Bool) : Frame :=
  match f.phase with
  | some .wakeHigh | some .wakeLow | some (.command _ _) => { f with level := f.level + 1 }
  | some .answerWait => { f with listen := f.listen + 1 }
  | some .answerHigh => { f with listen := f.listen + 1, width := if before && echo then f.width + 1 else f.width }
  | some .answerGap => { f with listen := f.listen + 1, gap := if before || echo then f.gap else f.gap + 1 }
  | some .tail =>
    { f with
      listen := f.listen + 1
      low := some (match f.low with | some k => if echo then 0 else k + 1 | none => 0) }
  | none => f

/-- The end of a tick in an engine: the sampler keeps the levels of the tick; after the tick of the pre-check the output
rises in tick 0, and else the counter of what it does advances (06 R108, R109). -/
def Engine.tick (g : Engine) (echo ref : Bool) : Engine :=
  match g.phase with
  | .reading =>
    { g with
      rising := false, echoBefore := echo, refBefore := ref
      frame := if g.rising then g.frame else g.frame.tick g.echoBefore echo }
  | .pulsing | .listening =>
    { g with
      rising := false, echoBefore := echo, refBefore := ref
      capture := if g.rising then g.capture else { g.capture with counter := g.capture.counter + 1 } }
  | .settling => { g with settle := g.settle + 1 }
  | _ => g

/-- The event of the frame decoder that its counters have brought. -/
def Frame.due (f : Frame) (e : EngineId) : List Instr :=
  match f.phase with
  | some .answerWait => if 16 * f.cell ≤ f.listen then [.noAnswer e] else []
  | some .answerHigh => if 4 * f.cell ≤ f.width then [.codingError e] else []
  | some .answerGap => if 4 * f.cell ≤ f.gap then [.truncated e] else []
  | some .tail =>
    match f.low with
    | some k => if 4 * f.cell ≤ k ∨ 1024 * f.cell ≤ f.listen then [.tailEnd e 0] else []
    | none => []
  | _ =>
    match f.levelLength with
    | some len => if len ≤ f.level then [.frameLevelEnd e] else []
    | none => []

/-- The event that an engine's tick counters have brought. -/
def Engine.due (g : Engine) (e : EngineId) (echo : Levels) : List Instr :=
  if g.rising then []
  else match g.phase with
  | .reading => (g.frame.due e).map fun c => match c with | .tailEnd e _ => .tailEnd e echo | c => c
  | .pulsing => if g.capture.weff ≤ g.capture.counter then [.pulseFall e] else []
  | .listening => if g.capture.window ≤ g.capture.counter then [.windowClose e] else []
  | .settling =>
    match g.profile with
    | some p => if p.settle.toNat ≤ g.settle then [.settleEnd e echo] else []
    | none => []
  | _ => []

/-- The fit or removal a station's last sample has brought (03 R51). -/
def Station.dueEvent (t : Station) (n : StationId) : List Instr :=
  if t.setup.enabled && t.due then (if t.present then [.removal n] else [.fit n]) else []

/-- Events due in the present tick. -/
def State.dueNow (s : State) : List Instr :=
  (allEngines.flatMap fun e => (s.engine e).due e s.pins.echo) ++ (allStations.flatMap fun n => (s.station n).dueEvent n)

/-- An open gate timer advances while ENABLE reads 1 (04 R78). -/
def State.tickQuestion (s : State) (e : EngineId) : State :=
  match s.question e with
  | some q => if s.regs.enable && !q.suspended then s.setQuestion e (some { q with timer := q.timer + 1 }) else s
  | none => s

/-- A recheck timer that runs loses a millisecond (03 R63). -/
def Station.tickRecheck (t : Station) : Station := { t with recheck := t.recheck.map (· - 1) }

/-- A COUNTING sweep timer loses a millisecond (02 R29). -/
def SweepTimer.tick : SweepTimer → SweepTimer
  | .off => .off
  | .counting p r => .counting p (r - 1)

/-- One millisecond of every millisecond counter (04 R74, R78, 02 R29, 03 R63). -/
def State.millisecond (s : State) : State :=
  let s1 := if s.configured then s.setTracker { s.tracker with stopTimer := s.tracker.stopTimer + 1 } else s
  let s2 := forAll allEngines (fun e t => t.tickQuestion e) s1
  let s3 := forAll allStations (fun n t => t.modStation n Station.tickRecheck) s2
  s3.setSweeper { s3.sweeper with timer := s3.sweeper.timer.tick }

/-- Events due at a millisecond: presence sample, stop timeout, gate limits, rechecks, sweep timer. An MCLK edge taken
before the millisecond of the same tick leaves the timer at 0, and the millisecond advances it to 1: with a stop timeout of
1 that reaches the timeout and STOPPED is set. R74 says both that and that STOPPED stays clear when the edge is taken
first: DESIGN CHOICE (log entry 26). -/
def State.dueAtMillisecond (s : State) : List Instr :=
  match s.regs.snapshot with
  | none => []
  | some snap =>
    [.presenceSample s.pins.pres] ++
    (if !s.tracker.stopped && decide (snap.stopTimeout.toNat ≤ s.tracker.stopTimer) then [.stopTimeout s.pins.echo] else []) ++
    (allEngines.flatMap fun e =>
      match s.question e with
      | some q => if s.regs.enable && !q.suspended && decide (snap.gateLimit.toNat ≤ q.timer) then [.gateLimitExpiry e] else []
      | none => []) ++
    (allStations.flatMap fun n => if (s.station n).recheck = some 0 then [.recheckExpiry n s.pins.echo] else []) ++
    (match s.sweeper.timer with
     | .counting _ r => if r = 0 then [.sweepTimerExpiry] else []
     | .off => [])

/-- Every engine's tick. -/
def State.tickEngines (s : State) : State :=
  forAll allEngines (fun e t => t.modEngine e fun g => g.tick (s.echoOf e) (s.refHigh e)) s

/-- Every STIMn driver whose input is low holds its line no more (06 R121). -/
def State.releaseDrivers (s : State) : State := forAll allStations (fun n t => t.releaseDriver n) s

/-- The measurement clock with an empty queue: the events due in the present tick are queued, and where none is due the
tick of 5 ns ends; the clock stands while a reset lasts. -/
def State.tick (s : State) : State :=
  if s.inReset then s
  else if s.dueNow ≠ [] then { s with pending := s.dueNow }
  else
    let s1 := s.releaseDrivers.tickEngines
    if s.msTicks + 1 < Config.ticksPerMillisecond then
      { s1 with msTicks := s.msTicks + 1, pending := s1.dueNow }
    else
      let s2 := { s1.millisecond with msTicks := 0 }
      { s2 with pending := s2.dueNow ++ s2.dueAtMillisecond }

end Sys2Proof.Machine
end

