-- ==== Sys2Proof/Machine/FrameCommands.lean ====
section
/-! DEFINITION. The commands of a tag frame (07). -/

namespace Sys2Proof.Machine

/-- The decoder decides without an answer judged, if it stands in this phase; listen is the listen counter then, and low
the tail's count (07 R129 to R131). -/
def State.decideIn (s : State) (e : EngineId) (p : FramePhase) (c : FrameCause) (low : Option Nat)
    (listen : Engine → Nat) : State :=
  s.whenever (s.decoderIn e p) fun t =>
    t.modEngine e fun g => { g with frame := g.frame.conclude (.failed c) (listen g) low }

/-- FRAME_LEVEL_END (07 R126, R127). -/
def execFrameLevelEnd (e : EngineId) (s : State) : Host.Outcome State Fault Refusal :=
  .next (s.whenever ((s.engine e).phase = .reading) fun t => t.endLevel e)

/-- NO_ANSWER: decided in listen tick 16C (07 R129). -/
def execNoAnswer (e : EngineId) (s : State) : Host.Outcome State Fault Refusal :=
  .next (s.decideIn e .answerWait .noAnswer none fun g => 16 * g.frame.cell)

/-- CODING_ERROR: decided in the last of 4C high ticks, whose end this is (07 R130). -/
def execCodingError (e : EngineId) (s : State) : Host.Outcome State Fault Refusal :=
  .next (s.decideIn e .answerHigh .codingError (some 0) fun g =>
    g.frame.listen + (4 * g.frame.cell - g.frame.widthPast g.echoBefore))

/-- TRUNCATED: decided in the last of 4C low ticks, whose end this is (07 R131). -/
def execTruncated (e : EngineId) (s : State) : Host.Outcome State Fault Refusal :=
  .next (s.decideIn e .answerGap .truncated (some 0) fun g =>
    g.frame.listen + (4 * g.frame.cell - g.frame.gapPast g.echoBefore))

/-- ANSWER_BIT_RISE (07 R129, R131). -/
def execAnswerBitRise (e : EngineId) (counter : Nat) (s : State) : Host.Outcome State Fault Refusal :=
  .next (s.whenever ((s.engine e).phase = .reading) fun t =>
    t.answerEdge e true ((t.engine e).frame.rise (t.engine e).echoBefore (t.echoOf e) counter))

/-- ANSWER_BIT_FALL (07 R130). -/
def execAnswerBitFall (e : EngineId) (width : Nat) (s : State) : Host.Outcome State Fault Refusal :=
  .next (s.whenever ((s.engine e).phase = .reading) fun t =>
    t.answerEdge e false ((t.engine e).frame.fall (t.engine e).echoBefore (t.engine e).header.tagAddress width))

/-- ANSWER_COMPLETE: the fall of answer bit 112 (07 R131 to R134). -/
def execAnswerComplete (e : EngineId) (width : Nat) (s : State) : Host.Outcome State Fault Refusal :=
  .next (s.whenever ((s.engine e).phase = .reading && (s.engine e).frame.answer.length = 111) fun t =>
    t.answerEdge e false ((t.engine e).frame.fall (t.engine e).echoBefore (t.engine e).header.tagAddress width))

/-- TAIL_END (07 R135, 05 R91). -/
def execTailEnd (e : EngineId) (echo : Levels) (s : State) : Host.Outcome State Fault Refusal :=
  .next (s.whenever (s.decoderIn e .tail) fun t => (t.sampleEcho echo).endTail e)

end Sys2Proof.Machine
end

