-- ==== Sys2Proof/Machine/LookupCommands.lean ====
section
/-! DEFINITION. The commands of COMPUTING: the bursts of the lookup pass and the end of the scoring pass (08, 09). -/

namespace Sys2Proof.Machine

/-- Engine e is in the lookup pass with its re-read so (08 R147, R148). -/
def State.lookupAt (s : State) (e : EngineId) (r : Reread) : Bool :=
  (s.engine e).phase = .computing .lookup && (s.engine e).lookup.reread = r

/-- SHELF_READ (08 R147). -/
def execShelfRead (e : EngineId) (echo : Levels) (s : State) : Host.Outcome State Fault Refusal :=
  .next (s.whenever (s.lookupAt e .none) fun t => (t.sampleEcho echo).readShelf e)

/-- PROFILE_REREAD (08 R148, R149): a re-read that waits is not served, for the transaction end and a cancel passed on
there come first (Engine.afterTransaction). -/
def execProfileReread (e : EngineId) (echo : Levels) (s : State) : Host.Outcome State Fault Refusal :=
  .next (s.whenever (s.lookupAt e .due) fun t => (t.sampleEcho echo).readShelf e)

/-- The scoring pass hands its figures and flags on (09 R160, R170). That ATTEMPTS, CLAMPED and NOISY are set only here, so
that a pass abandoned by a stop leaves none of them, is a DESIGN CHOICE (log entry 29). -/
def State.endScoring (s : State) (e : EngineId) (p : Profile) : State :=
  (s.modEngine e fun g => { g.addFlag (g.score p).2 with figures := (g.score p).1 }).toWriting e

/-- SCORING_PASS_END (09 R159). -/
def execScoringPassEnd (e : EngineId) (s : State) : Host.Outcome State Fault Refusal :=
  match (s.engine e).profile with
  | some p => .next (s.whenever ((s.engine e).phase = .computing .scoring) fun t => t.endScoring e p)
  | none => .next s

end Sys2Proof.Machine
end

