-- ==== Sys2Proof/Machine/PortCommands.lean ====
section
/-! DEFINITION. The commands of the SPI port: one complete byte of a transaction of the row's kind each, and the two
edges of CS (01 R1 to R6, R14 to R20, 11 R194). -/

namespace Sys2Proof.Machine

/-- TRANSACTION_START (01 R1). -/
def execTransactionStart (s : State) : Host.Outcome State Fault Refusal := .next s.startTransaction

/-- MEMORY_READ (01 R3). -/
def execMemoryRead (mosi : Byte) (s : State) : Host.Outcome State Fault Refusal :=
  .next (s.clockByte (s.port.isByteOf .memoryRead mosi) mosi)

/-- MEMORY_WRITE (01 R4). -/
def execMemoryWrite (mosi : Byte) (s : State) : Host.Outcome State Fault Refusal :=
  .next (s.clockByte (s.port.isByteOf .memoryWrite mosi) mosi)

/-- REGISTER_READ (01 R6). -/
def execRegisterRead (mosi : Byte) (s : State) : Host.Outcome State Fault Refusal :=
  .next (s.clockByte (s.port.isByteOf .registerRead mosi) mosi)

/-- VOID_TRANSACTION (01 R2). -/
def execVoidTransaction (mosi : Byte) (s : State) : Host.Outcome State Fault Refusal :=
  .next (s.clockByte (s.port.isByteOf .void mosi) mosi)

/-- A byte of a RUN_CONTROL write with RESET at 0 and ENABLE at 1 (01 R15). -/
def Port.isEnableByte (p : Port) (mosi : Byte) : Bool :=
  p.isWriteByteOf mosi (· = 1) fun v => !v.getLsbD 2 && v.getLsbD 0

/-- ENABLE: the ECHO levels are those of the moment the byte completes, for the pre-checks of resumed questions and of
grants (01 R15, R16). -/
def execEnable (mosi : Byte) (echo : Levels) (s : State) : Host.Outcome State Fault Refusal :=
  let fits := s.port.isEnableByte mosi
  .next (s.whenever (s.pins.csLow && (fits || !s.port.taking)) fun t => (t.sampleEcho echo).clockByte fits mosi)

/-- DISABLE: a byte of a RUN_CONTROL write with RESET and ENABLE at 0 (01 R15, R17). -/
def execDisable (mosi : Byte) (s : State) : Host.Outcome State Fault Refusal :=
  .next (s.clockByte (s.port.isWriteByteOf mosi (· = 1) fun v => !v.getLsbD 2 && !v.getLsbD 0) mosi)

/-- SWEEP: a byte of a RUN_CONTROL write with RESET at 0, ENABLE and SWEEP at 1, while ENABLE reads 1 (01 R15). -/
def execSweep (mosi : Byte) (s : State) : Host.Outcome State Fault Refusal :=
  .next (s.clockByte
    (s.port.isWriteByteOf mosi (· = 1) fun v => !v.getLsbD 2 && v.getLsbD 0 && v.getLsbD 1 && s.regs.enable) mosi)

/-- SOFT_RESET: a byte of a RUN_CONTROL write with RESET at 1 (01 R15, R20). -/
def execSoftReset (mosi : Byte) (s : State) : Host.Outcome State Fault Refusal :=
  .next (s.clockByte (s.port.isWriteByteOf mosi (· = 1) fun v => v.getLsbD 2) mosi)

/-- ATTENTION_CLEAR (01 R18). -/
def execAttentionClear (mosi : Byte) (s : State) : Host.Outcome State Fault Refusal :=
  .next (s.clockByte (s.port.isWriteByteOf mosi (· = 2) fun _ => true) mosi)

/-- ATTENTION_MASK_WRITE (01 R19). -/
def execAttentionMaskWrite (mosi : Byte) (s : State) : Host.Outcome State Fault Refusal :=
  .next (s.clockByte (s.port.isWriteByteOf mosi (· = 3) fun _ => true) mosi)

/-- REGISTER_WRITE_IGNORED: PART_ID, REFUSED_AT or an index above 4 (01 R6, 11 R194). -/
def execRegisterWriteIgnored (mosi : Byte) (s : State) : Host.Outcome State Fault Refusal :=
  .next (s.clockByte (s.port.isWriteByteOf mosi (fun i => i ≠ 1 && i ≠ 2 && i ≠ 3) fun _ => true) mosi)

/-- TRANSACTION_END: the ECHO levels are those of the moment, for the pre-check of a question that changed arcs answer
(01 R14, 04 R77). -/
def execTransactionEnd (echo : Levels) (s : State) : Host.Outcome State Fault Refusal :=
  .next (if s.inReset || !s.pins.csLow then s.releaseSelect else (s.sampleEcho echo).releaseSelect)

end Sys2Proof.Machine
end

