-- ==== Sys2Proof/Machine/ResetCommands.lean ====
section
/-! DEFINITION. The commands of the RESET pin and of the supply (01 R20, R21). -/

namespace Sys2Proof.Machine

/-- PIN_RESET_ASSERT: RESET has stood low for this many nanoseconds (01 R20, 05 R106, 11 R196). -/
def execPinResetAssert (s : State) (low : Nat := 1000) : Host.Outcome State Fault Refusal :=
  .next (if s.pins.resetLow then s else s.assertReset low)

/-- PIN_RESET_END (01 R20, 02 R43). -/
def execPinResetEnd (s : State) : Host.Outcome State Fault Refusal :=
  .next (if s.pins.resetLow then s.releaseReset else s)

/-- POWER_ON_RESET (01 R21). -/
def execPowerOnReset (s : State) : Host.Outcome State Fault Refusal := .next s.powerOn

end Sys2Proof.Machine
end

