-- ==== Sys2Proof/Machine/RoundCommands.lean ====
section
/-! DEFINITION. The commands of a signature round (06). -/

namespace Sys2Proof.Machine

/-- PULSE_FALL (06 R111). -/
def execPulseFall (e : EngineId) (s : State) : Host.Outcome State Fault Refusal :=
  .next (s.whenever ((s.engine e).phase = .pulsing) fun t => t.endPulse e)

/-- ECHO_EDGE: a transition of ECHOn in any state but READING, whose rows are those of the answer; the line takes its
level, and the stage of an open window a rising edge (06 R108, R113 to R115). -/
def execEchoEdge (e : EngineId) (x : Transition) (s : State) : Host.Outcome State Fault Refusal :=
  .next (s.whenever ((s.engine e).phase ≠ .reading) fun t =>
    (if (t.engine e).takesEdge x.tick then t.windowEdge e x.tick.toNat x.rising Engine.echoBefore Capture.echo
     else t).setEchoLevel e x.rising)

/-- REFERENCE_EDGE: a transition of REFECHOe; the line takes its level, and the stage of an open window a rising edge
(06 R108, R113, R116). -/
def execReferenceEdge (e : EngineId) (x : Transition) (s : State) : Host.Outcome State Fault Refusal :=
  .next (s.whenever true fun t =>
    (if (t.engine e).takesEdge x.tick then t.windowEdge e x.tick.toNat x.rising Engine.refBefore Capture.ref
     else t).setRefLevel e x.rising)

/-- WINDOW_CLOSE (06 R112, R117 to R119). -/
def execWindowClose (e : EngineId) (s : State) : Host.Outcome State Fault Refusal :=
  match (s.engine e).profile with
  | some p => .next (s.whenever ((s.engine e).phase = .listening) fun t => t.closeWindow e p.n.toNat)
  | none => .next s

/-- SETTLE_END (06 R120). -/
def execSettleEnd (e : EngineId) (echo : Levels) (s : State) : Host.Outcome State Fault Refusal :=
  .next (s.whenever ((s.engine e).phase = .settling) fun t => (t.sampleEcho echo).toGating e .round)

/-- STIM_OVERLOAD: the sense is active only while STIMn is driven high; the driver holds the line low until its input, which
falls with the engine's stop, has gone low (06 R121). -/
def execStimOverload (n : StationId) (s : State) : Host.Outcome State Fault Refusal :=
  match s.driver n with
  | some e =>
    .next (s.whenever (s.stim n) fun t => ((t.tripDriver n).faultStop e .stimOverload).releaseDriver n)
  | none => .next s

end Sys2Proof.Machine
end

