-- ==== Sys2Proof/Machine/StationCommands.lean ====
section
/-! DEFINITION. The commands of the Station Supervisor (03 R51 to R53, R61 to R64). -/

namespace Sys2Proof.Machine

/-- Station n takes a presence sample if its handling runs; a low level is present (03 R51, 11 R196). -/
def State.sampleStation (s : State) (filter : Nat) (pres : Levels) (n : StationId) : State :=
  if (s.station n).setup.enabled then s.modStation n fun t => t.sample filter (!pres.getLsbD n.val) else s

/-- PRESENCE_SAMPLE (03 R51). -/
def execPresenceSample (pres : Levels) (s : State) : Host.Outcome State Fault Refusal :=
  .next (s.whenever true fun s =>
    let s1 := s.setPins { s.pins with pres := pres }
    match s1.regs.snapshot with
    | some snap => forAll allStations (fun n t => t.sampleStation snap.presenceFilter.toNat pres n) s1
    | none => s1)

/-- A sample has brought the filter of station n to a change to this level (03 R51). -/
def State.filterDue (s : State) (n : StationId) (level : Bool) : Bool :=
  s.configured && (s.station n).setup.enabled && (s.station n).due && (s.station n).present != level

/-- FIT (03 R52). -/
def execFit (n : StationId) (s : State) : Host.Outcome State Fault Refusal :=
  .next (s.whenever (s.filterDue n true) fun t => t.takeFit n)

/-- REMOVAL (03 R53). -/
def execRemoval (n : StationId) (s : State) : Host.Outcome State Fault Refusal :=
  .next (s.whenever (s.filterDue n false) fun t => t.takeRemoval n)

/-- FAULT_REPORT (03 R62). -/
def execFaultReport (e : EngineId) (s : State) : Host.Outcome State Fault Refusal :=
  match (s.engine e).report, (s.engine e).job with
  | some cause, some j =>
    .next (s.whenever true fun t => (t.modEngine e fun g => { g with report := none }).takeFault j.station cause)
  | _, _ => .next s

/-- The recheck timer of station n runs (03 R63). -/
def State.rechecking (s : State) (n : StationId) : Bool :=
  s.configured && (s.station n).fault && (s.station n).recheck.isSome

/-- RECHECK_EXPIRY (03 R63, R64): held or ECHOn high, the timer runs on; else the fault is cleared. -/
def execRecheckExpiry (n : StationId) (echo : Levels) (s : State) : Host.Outcome State Fault Refusal :=
  .next (s.whenever (s.rechecking n) fun s =>
    let s1 := s.sampleEcho echo
    if s1.held n || s1.echoHigh n then s1.modStation n fun t => { t with recheck := some Config.recheckPeriod }
    else s1.clearFault n)

end Sys2Proof.Machine
end

