-- ==== Sys2Proof/Machine/SweepCommands.lean ====
section
/-! DEFINITION. The commands of the Card Sweeper and the Pending List (02 R29 to R41). -/

namespace Sys2Proof.Machine

/-- SWEEP_TIMER_EXPIRY (02 R30). -/
def execSweepTimerExpiry (s : State) : Host.Outcome State Fault Refusal :=
  match s.sweeper.timer with
  | .counting period _ => .next (s.whenever true fun t => t.expireSweepTimer period)
  | .off => .next s

/-- CARD_VISIT: the header read, or the second burst that ends a stray card (02 R32). -/
def execCardVisit (s : State) : Host.Outcome State Fault Refusal :=
  match s.sweeper.visit with
  | some (.header k) => .next (s.whenever true fun t => t.visitCard k)
  | some (.stray k) => .next (s.whenever true fun t => t.endStray k)
  | _ => .next s

/-- CARD_INTAKE (02 R33). -/
def execCardIntake (echo : Levels) (s : State) : Host.Outcome State Fault Refusal :=
  match s.sweeper.visit with
  | some (.intake k bytes) => .next (s.whenever true fun t => (t.sampleEcho echo).intakeVisit k bytes)
  | _ => .next s

/-- PENDING_LIST_NOTICE (02 R41). -/
def execPendingListNotice (s : State) : Host.Outcome State Fault Refusal :=
  match s.notices with
  | m :: rest => .next (s.whenever true fun t => (t.setNotices rest).takeNotice m)
  | [] => .next s

end Sys2Proof.Machine
end

