-- ==== Sys2Proof/Machine/TrackerCommands.lean ====
section
/-! DEFINITION. The commands of the Machine Cycle Tracker (04 R70, R71, R74, R78). -/

namespace Sys2Proof.Machine

/-- The synchroniser, whose level taken last is before, takes a level that stands for this many nanoseconds, as a
transition: never below 15 ns, always from 20 ns on, and by a free value between (11 R196, log entries 4 and 18). -/
def State.takesTransition (s : State) (before level : Bool) (stood : Nat) : Bool :=
  before != level && decide (15 ≤ stood) && (decide (20 ≤ stood) || Config.shortEncoderLevelTaken s.freeReads)

/-- A level of MCLK or MIDX reaches the synchroniser; one that is taken is kept as the pin's, in a reset too (11 R196, log
entry 18). -/
def State.synchronise (s : State) (taken : Bool) (stood : Nat) (keep : Pins → Pins) : State :=
  let t := s.countFree (decide (15 ≤ stood ∧ stood < 20))
  if taken then t.setPins (keep t.pins) else t

/-- MCLK_EDGE: a transition of MCLK, if the synchroniser takes it; it is an edge in the selected direction only (04 R68,
R70, 11 R196). -/
def execMclkEdge (rising : Bool) (echo : Levels) (s : State) (stood : Nat := 20) : Host.Outcome State Fault Refusal :=
  let taken := s.takesTransition s.pins.mclk rising stood
  .next ((s.synchronise taken stood fun p => { p with mclk := rising }).whenever true fun t =>
    let t1 := t.sampleEcho echo
    match t1.regs.snapshot with
    | some snap => if taken && rising != snap.mclkFalling then t1.takeMclk snap.ppc else t1
    | none => t1)

/-- MIDX_EDGE: a transition of MIDX, if the synchroniser takes it; it is an edge in the selected direction only (04 R68,
R71, 11 R196). -/
def execMidxEdge (rising : Bool) (echo : Levels) (s : State) (stood : Nat := 20) : Host.Outcome State Fault Refusal :=
  let taken := s.takesTransition s.pins.midx rising stood
  .next ((s.synchronise taken stood fun p => { p with midx := rising }).whenever true fun t =>
    let t1 := t.sampleEcho echo
    match t1.regs.snapshot with
    | some snap => if taken && rising != snap.midxFalling then t1.takeMidx snap.ppc else t1
    | none => t1)

/-- STOP_TIMEOUT (04 R74). -/
def execStopTimeout (echo : Levels) (s : State) : Host.Outcome State Fault Refusal :=
  match s.regs.snapshot with
  | some snap =>
    .next (s.whenever (!s.tracker.stopped) fun t => (t.sampleEcho echo).takeStopTimeout snap.stopTimeout)
  | none => .next s

/-- The question of engine e can expire: it is open, ENABLE reads 1 and no stop of the hold begin waits (04 R78, 05 R87). -/
def State.canExpire (s : State) (e : EngineId) : Bool :=
  (match s.question e with | some q => !q.suspended | none => false) && s.regs.enable && !(s.engine e).stopAtHoldBegin

/-- GATE_LIMIT_EXPIRY (04 R78, 05 R94). -/
def execGateLimitExpiry (e : EngineId) (s : State) : Host.Outcome State Fault Refusal :=
  match (s.engine e).phase with
  | .gating w => .next (s.whenever (s.canExpire e) fun t => t.expireGate e w)
  | _ => .next s

end Sys2Proof.Machine
end

