-- ==== Sys2Proof/Machine/WritingCommands.lean ====
section
/-! DEFINITION. The commands of WRITING and of stop events (05 R99 to R104, 10 R184 to R188). -/

namespace Sys2Proof.Machine

/-- RESULT_BURST (10 R185): then the delivery, for a card that has one (10 R186). -/
def execResultBurst (e : EngineId) (s : State) : Host.Outcome State Fault Refusal :=
  match (s.engine e).job with
  | some j =>
    .next (s.whenever ((s.engine e).phase = .writing .result) fun t =>
      (t.writeResult j.card (t.engine e)).setPhase e
        (.writing (if (t.engine e).parcel.isSome then .delivery else .terminal)))
  | none => .next s

/-- DELIVERY (03 R59, R60, 10 R186). -/
def execDelivery (e : EngineId) (s : State) : Host.Outcome State Fault Refusal :=
  match (s.engine e).job, (s.engine e).parcel with
  | some j, some d => .next (s.whenever ((s.engine e).phase = .writing .delivery) fun t => t.deliver e j.station d)
  | _, _ => .next s

/-- TERMINAL_BURST (10 R187, R188). -/
def execTerminalBurst (e : EngineId) (echo : Levels) (s : State) : Host.Outcome State Fault Refusal :=
  match (s.engine e).job with
  | some j =>
    .next (s.whenever ((s.engine e).phase = .writing .terminal) fun t => (t.sampleEcho echo).endOnEngine e j)
  | none => .next s

/-- STOP_EVENT (05 R99 to R102). -/
def execStopEvent (e : EngineId) (stop : Stop) (s : State) : Host.Outcome State Fault Refusal :=
  .next (s.whenever ((s.engine e).stops.contains stop) fun t => t.stopReaches e stop)

/-- STOP_TERMINAL_BURST (05 R103): a fault report of the hold has been taken before (03 R61). -/
def execStopTerminalBurst (e : EngineId) (echo : Levels) (s : State) : Host.Outcome State Fault Refusal :=
  match (s.engine e).job with
  | some j =>
    .next (s.whenever ((s.engine e).phase = .writing .stopped && (s.engine e).report.isNone) fun t =>
      (t.sampleEcho echo).endStopped e j)
  | none => .next s

end Sys2Proof.Machine
end

