-- ==== Sys2Proof/Machine/Dispatch.lean ====
section
/-! DEFINITION. The effect of every command on everything but the queue: one arm per row of spec/opcode_table.json. -/

namespace Sys2Proof.Machine

def exec (i : Instr) (s : State) : Host.Outcome State Fault Refusal :=
  match i with
  | .transactionStart => Sys2Proof.Machine.execTransactionStart s
  | .memoryRead mosi => Sys2Proof.Machine.execMemoryRead mosi s
  | .memoryWrite mosi => Sys2Proof.Machine.execMemoryWrite mosi s
  | .registerRead mosi => Sys2Proof.Machine.execRegisterRead mosi s
  | .voidTransaction mosi => Sys2Proof.Machine.execVoidTransaction mosi s
  | .enable mosi echo => Sys2Proof.Machine.execEnable mosi echo s
  | .disable mosi => Sys2Proof.Machine.execDisable mosi s
  | .sweep mosi => Sys2Proof.Machine.execSweep mosi s
  | .softReset mosi => Sys2Proof.Machine.execSoftReset mosi s
  | .attentionClear mosi => Sys2Proof.Machine.execAttentionClear mosi s
  | .attentionMaskWrite mosi => Sys2Proof.Machine.execAttentionMaskWrite mosi s
  | .registerWriteIgnored mosi => Sys2Proof.Machine.execRegisterWriteIgnored mosi s
  | .transactionEnd echo => Sys2Proof.Machine.execTransactionEnd echo s
  | .pinResetAssert low => Sys2Proof.Machine.execPinResetAssert s low
  | .pinResetEnd => Sys2Proof.Machine.execPinResetEnd s
  | .powerOnReset => Sys2Proof.Machine.execPowerOnReset s
  | .sweepTimerExpiry => Sys2Proof.Machine.execSweepTimerExpiry s
  | .cardVisit => Sys2Proof.Machine.execCardVisit s
  | .cardIntake echo => Sys2Proof.Machine.execCardIntake echo s
  | .presenceSample pres => Sys2Proof.Machine.execPresenceSample pres s
  | .fit station => Sys2Proof.Machine.execFit station s
  | .removal station => Sys2Proof.Machine.execRemoval station s
  | .pendingListNotice => Sys2Proof.Machine.execPendingListNotice s
  | .faultReport engine => Sys2Proof.Machine.execFaultReport engine s
  | .recheckExpiry station echo => Sys2Proof.Machine.execRecheckExpiry station echo s
  | .mclkEdge rising echo stood => Sys2Proof.Machine.execMclkEdge rising echo s stood
  | .midxEdge rising echo stood => Sys2Proof.Machine.execMidxEdge rising echo s stood
  | .stopTimeout echo => Sys2Proof.Machine.execStopTimeout echo s
  | .gateLimitExpiry engine => Sys2Proof.Machine.execGateLimitExpiry engine s
  | .pulseFall engine => Sys2Proof.Machine.execPulseFall engine s
  | .echoEdge engine transition => Sys2Proof.Machine.execEchoEdge engine transition s
  | .referenceEdge engine transition => Sys2Proof.Machine.execReferenceEdge engine transition s
  | .windowClose engine => Sys2Proof.Machine.execWindowClose engine s
  | .settleEnd engine echo => Sys2Proof.Machine.execSettleEnd engine echo s
  | .noAnswer engine => Sys2Proof.Machine.execNoAnswer engine s
  | .codingError engine => Sys2Proof.Machine.execCodingError engine s
  | .truncated engine => Sys2Proof.Machine.execTruncated engine s
  | .answerComplete engine width => Sys2Proof.Machine.execAnswerComplete engine width s
  | .tailEnd engine echo => Sys2Proof.Machine.execTailEnd engine echo s
  | .shelfRead engine echo => Sys2Proof.Machine.execShelfRead engine echo s
  | .profileReread engine echo => Sys2Proof.Machine.execProfileReread engine echo s
  | .scoringPassEnd engine => Sys2Proof.Machine.execScoringPassEnd engine s
  | .resultBurst engine => Sys2Proof.Machine.execResultBurst engine s
  | .delivery engine => Sys2Proof.Machine.execDelivery engine s
  | .terminalBurst engine echo => Sys2Proof.Machine.execTerminalBurst engine echo s
  | .stopEvent engine stop => Sys2Proof.Machine.execStopEvent engine stop s
  | .stopTerminalBurst engine echo => Sys2Proof.Machine.execStopTerminalBurst engine echo s
  | .stimOverload station => Sys2Proof.Machine.execStimOverload station s
  | .frameLevelEnd engine => Sys2Proof.Machine.execFrameLevelEnd engine s
  | .answerBitRise engine counter => Sys2Proof.Machine.execAnswerBitRise engine counter s
  | .answerBitFall engine width => Sys2Proof.Machine.execAnswerBitFall engine width s

end Sys2Proof.Machine
end

