-- ==== Sys2Proof/Safety.lean ====
section
/-! DEFINITION. What holds of every state a run reaches, and whose each byte of exchange memory is. -/

namespace Sys2Proof.Machine

/-! ## Whose a byte is (01 Table 1-3, R9, R10, 11 R195) -/

/-- The bytes the part's own blocks may write while it runs: the machine status record; state to change flag and the
slots of a station record, but for the unused bytes of a slot; status byte and result area of a card. -/
def partOwns (a : Nat) : Bool :=
  if 0x80 ≤ a ∧ a < 0xA0 then true
  else if 0x100 ≤ a ∧ a < 0x700 then
    let o := (a - 0x100) % 128
    decide (0x10 ≤ o ∧ o < 0x19) || (decide (0x20 ≤ o ∧ o < 0x70) && (o - 0x20) % 20 != 1 && (o - 0x20) % 20 != 7)
  else if 0x800 ≤ a ∧ a < 0x1000 then
    let o := (a - 0x800) % 64
    decide (o = 0) || decide (0x10 ≤ o)
  else false

/-! ## When the port takes a byte, and what a byte leaves of it (01 R1, R2, R6) -/

/-- The port takes a byte of a transaction of this kind. -/
def State.takes (s : State) (kind : Transaction) : Prop :=
  s.inReset = false ∧ s.pins.csLow = true ∧ s.port.taking = true ∧ s.port.command = some kind

/-- The byte that completes is the high byte of a write of this register. -/
def State.writing (s : State) (index : Byte) : Prop :=
  s.takes .registerWrite ∧ s.port.regIndex = index ∧ 3 ≤ s.port.count ∧ s.port.count % 2 = 1

/-- The port has counted a byte and shifts this one out next. -/
def Port.counted (p : Port) (out : Byte) : Port :=
  { p with shifted := p.shiftOut, count := p.count + 1, shiftOut := out }

/-- The port after the high byte of a register write. -/
def Port.pairWritten (p : Port) : Port := { p.counted 0 with regIndex := p.regIndex + 1 }

/-- The period in use for a period field: above 60000 ms it is taken as 60000 (02 R29). -/
def clampPeriod (field : Half) : Half := if 60000 < field.toNat then 60000 else field

/-! ## What an event of the Supervisor leaves of a record (03 R54, R55, R57) -/

/-- State t follows state s by an event of station n served whole: the record holds the derived state, PERMITn is the
permit of it, and the stamp and the change flag follow from a change of state, present or fault cause. -/
def State.recordFollows (s t : State) (n : StationId) : Prop :=
  t.byte (stationBase n + stState) = (t.derived n (t.held n)).code ∧
  (t.station n).permit =
    permitOf (t.derived n (t.held n)) (t.station n).setup.advise (t.station n).heldPermit ∧
  (if t.recordKey n = s.recordKey n then
    t.long (stationBase n + stStamp) = s.long (stationBase n + stStamp) ∧
    t.byte (stationBase n + stChangeFlag) = s.byte (stationBase n + stChangeFlag)
  else
    t.long (stationBase n + stStamp) = s.tracker.cycles ∧ t.byte (stationBase n + stChangeFlag) = 1)

/-- The registers after such an event: STATION_CHANGE is set when a change flag that did not read 1 comes to read 1. -/
def State.flagRaised (s t : State) (n : StationId) : Registers :=
  if t.recordKey n = s.recordKey n ∨ s.byte (stationBase n + stChangeFlag) = 1 then s.regs
  else { s.regs with causes := s.regs.causes ||| causeStationChange }

/-- Offsets of the fields such an event writes: state, present, fault cause, stamp, change flag; holder is kept. -/
def eventOffset (o : Nat) : Bool := o = 0x10 || o = 0x11 || (decide (0x13 ≤ o) && decide (o < 0x19))

/-- Offsets of the used bytes of the four slots (11 Table 11-9). -/
def slotOffset (o : Nat) : Bool :=
  decide (0x20 ≤ o) && decide (o < 0x70) && (o - 0x20) % 20 != 1 && (o - 0x20) % 20 != 7

/-- The roster of station n has an active entry whose address is the tag address as a whole byte (02 R34, 03 R49). -/
def State.rosterHas (s : State) (n : StationId) (tag : Byte) : Prop :=
  ∃ p : SlotId, p.val < (s.station n).setup.rosterCount.val ∧
    (∀ q : SlotId, q < p → (s.station n).setup.roster[q.val] ≠ (s.station n).setup.roster[p.val]) ∧
    (s.station n).setup.roster[p.val].setWidth 8 = tag

/-! ## Cards and the sweep (02 R23, R27, R31, R36) -/

/-- Card k has ended within the sweeper's burst: a blank result but error code and cycle stamp, the status, and every byte
outside its status byte and result area as before. -/
def State.endsBlank (s t : State) (k : CardId) (status : Byte) (err : ErrorCode) : Prop :=
  t.cardStatus k = status ∧ t.byte (cardBase k + 0x10) = err.code ∧
  t.byte (cardBase k + 0x16) = 0xFF ∧ t.byte (cardBase k + 0x17) = 0xFF ∧
  t.long (cardBase k + 0x1E) = s.tracker.cycles ∧
  (∀ o, 0x11 ≤ o → o < 0x40 → o ≠ 0x16 → o ≠ 0x17 → (o < 0x1E ∨ 0x22 ≤ o) → t.byte (cardBase k + o) = 0x00)

/-- Address a is not the status byte of card k nor in its result area. -/
def outsideResult (k : CardId) (a : Nat) : Prop :=
  a ≠ cardBase k ∧ (a < cardBase k + 0x10 ∨ cardBase k + 0x40 ≤ a)

/-- The registers after the end of a card: CARD_END is set for NOTIFY. -/
def Registers.cardEnded (r : Registers) (notify : Bool) : Registers :=
  if notify then { r with causes := r.causes ||| causeCardEnd } else r

/-- The sweeper after the visit to card k: the next card, or the end of the sweep with its latch. -/
def Sweeper.visited (w : Sweeper) (k : CardId) (enable : Bool) : Sweeper :=
  if w.ending = true ∨ k = 31 then
    { w with visit := if w.latch && enable then some (.header 0) else none, latch := false, ending := false }
  else { w with visit := some (.header (k + 1)) }

/-! ## Engines that stop, and questions (05 R100, R103, 04 R76) -/

/-- An engine that has stopped: window, frame, lookup and gap abandoned and emptied (log entries 22, 25), the end of the
stopped card next. -/
def Engine.stoppedNow (g : Engine) : Engine :=
  { g with phase := .writing .stopped, rising := false, capture := Capture.reset, frame := Frame.reset,
           lookup := Lookup.reset, settle := 0, stopAtHoldBegin := false }

/-- State t comes from state s by engine e being g: its question and its watch are gone, every other engine, question and
watch is as before, and nothing else has changed but ECHO levels. -/
def State.engineLeft (s t : State) (e : EngineId) (g : Engine) : Prop :=
  t = { s with
    engines := t.engines, pins := { s.pins with echo := t.pins.echo }
    tracker := { s.tracker with questions := t.tracker.questions, watches := t.tracker.watches } } ∧
  t.engine e = g ∧ t.question e = none ∧ t.watch e = none ∧
  ∀ e', e' ≠ e → t.engine e' = s.engine e' ∧ t.question e' = s.question e' ∧ t.watch e' = s.watch e'

/-- The engine's own fault: the report is sent, LINE_FAULT is the outcome unless one is fixed, and it stops. -/
def Engine.faulted (g : Engine) (cause : FaultCause) : Engine :=
  { g with report := some cause, stopOutcome := g.stopOutcome.orElse fun _ => some (.lost .lineFault) }.stoppedNow

/-- The ground a station's setup copy gives a question on a tracker. -/
def Setup.groundOn (c : Setup) (t : Tracker) (snap : Snapshot) : Option Ground :=
  t.ground snap (clampArc snap.ppc c.arcStart) (clampArc snap.ppc c.arcEnd)

/-- The watch an allowed answer opens. -/
def Setup.watchOn (c : Setup) (snap : Snapshot) (n : StationId) (g : Ground) : Option Watch :=
  watchFor n g (clampArc snap.ppc c.arcStart) (clampArc snap.ppc c.arcEnd)

/-- The engine when its work starts with ECHOn low: the wake of a frame rises in the next tick, or the pulse of a round. -/
def Engine.atWork (g : Engine) (w : Work) (snap : Snapshot) (p : Profile) : Engine :=
  match w with
  | .frame => { g with phase := .reading, rising := true, frame := Frame.start snap.bitCell.ticks g.header.tagAddress }
  | .round =>
    { g with
      phase := .pulsing
      rising := true
      capture := { Capture.reset with
        running := true, weff := p.effectiveWidth snap.bitCell.ticks, window := p.window.toNat }
      flags := if p.effectiveWidth snap.bitCell.ticks < p.width.toNat then g.flags ||| flagWidthClamped else g.flags }

/-- Engine e, as g, has asked question q on the tracker of state t for a station with this setup copy: with no ground it
stays open; else it ends, and the work starts with its watch, or a high echo line is a fault (04 R77, R80, 06 R109). -/
def State.asked (t : State) (e : EngineId) (g : Engine) (w : Work) (n : StationId) (c : Setup) (q : Question)
    (snap : Snapshot) (p : Profile) (echo : Levels) (watchBefore : Option Watch) : Prop :=
  match c.groundOn t.tracker snap with
  | none => t.engine e = { g with phase := .gating w } ∧ t.question e = some q ∧ t.watch e = watchBefore
  | some gr =>
    t.question e = none ∧
    if echo.getLsbD n.val then t.engine e = g.faulted .echoStuck ∧ t.watch e = none
    else t.engine e = g.atWork w snap p ∧ t.watch e = c.watchOn snap n gr

/-- Engine e, as g, has begun the lookup for a tag record on state s with ENABLE reading 1: on a shelf that is not fixed,
or on a miss, the scan begins at index 0; a hit ends it with CACHE_HIT and the entry's copy and index, and the date test
ends the card COUNTERFEIT or fixes R and asks the first round's question (08 R153, 05 R92, 09 R172). -/
def State.lookupBegun (s t : State) (e : EngineId) (g : Engine) (n : StationId) (tag : List Byte) (snap : Snapshot)
    (echo : Levels) : Prop :=
  let hit := fun (q : PlaceId) (x : CacheEntry) =>
    s.cache.places[q.val] = some x ∧ x.type = tagType tag ∧ x.variant = tagVariant tag
  let misses := s.regs.shelfFixed = false ∨ ∀ q x, ¬hit q x
  (misses → t.engine e = { g with
      phase := .computing .lookup, lookup := { Lookup.reset with fixedThroughout := s.regs.shelfFixed } } ∧
    t.question e = s.question e ∧ t.watch e = s.watch e) ∧
  ∀ q x, s.regs.shelfFixed = true → hit q x → (∀ q' x', q' < q → ¬hit q' x') →
    let p := profileOf x.copy
    let found := { g with
      profile := some p, profileIndex := some x.index, lookup := Lookup.reset, flags := g.flags ||| 0x0400 }
    let inside := p.dateFrom.toNat ≤ (tagDate tag).toNat ∧ (tagDate tag).toNat ≤ p.dateTo.toNat
    (¬inside → t.engine e = { found with
        phase := .writing .result, flags := g.flags ||| 0x0400 ||| 0x2000
        figures := { g.figures with verdict := .counterfeit } } ∧
      t.question e = s.question e ∧ t.watch e = s.watch e) ∧
    (inside → t.asked e
      { found with
        target := some (if g.header.rounds = 0 then p.defaultRounds.toNat else min g.header.rounds.toNat 16) }
      .round n (s.station n).setup { timer := 0, suspended := false } snap p echo (s.watch e))

/-! ## A grant (05 R86, R87, 03 R56) -/

/-- The station is lost at hold begin, in the order of test: removed, disabled, in FAULT. -/
def Station.lostAt (x : Station) (l : Loss) : Prop :=
  (x.present = false ∧ l = .partRemoved) ∨ (x.present = true ∧ x.setup.enabled = false ∧ l = .stationOff) ∨
  (x.present = true ∧ x.setup.enabled = true ∧ x.fault = true ∧ l = .lineFault)

/-- The stop of a lost station. -/
def Loss.stopOf (n : StationId) : Loss → Stop
  | .partRemoved => .removal n
  | .stationOff => .disable n
  | .lineFault => .lineFault n

/-- State t holds entry x granted to engine e, whose stops on their way and watch were these, with station c as it stood
before and these bytes of the card's header: card RUNNING, places, point and record bound, the engine started with its
first question, which a stop of the hold begin keeps open. -/
def State.hasGranted (t : State) (x : Entry) (e : EngineId) (stops : List Stop) (watch : Option Watch) (c : Station)
    (h : Header) (snap : Snapshot) (echo : Levels) : Prop :=
  let g := { Engine.reset with job := some { card := x.card, station := x.station }, header := h, stops := stops }
  t.cardStatus x.card = 0x03 ∧ t.byte (cardBase x.card + 0x16) = BitVec.ofNat 8 e.val ∧ x ∉ t.waiting ∧
  t.holder x.station = some e ∧ t.point e = some x.station ∧
  t.byte (stationBase x.station + 0x12) = BitVec.ofNat 8 e.val ∧
  (∀ l, c.lostAt l →
    t.station x.station = { c with
      heldPermit := c.permit, lossMark := some l, permit := (t.station x.station).permit } ∧
    t.engine e = { g with
      phase := .gating .frame, stops := stops ++ [l.stopOf x.station], stopAtHoldBegin := true } ∧
    t.question e = some { timer := 0, suspended := false } ∧ t.watch e = watch) ∧
  ((∀ l, ¬c.lostAt l) →
    t.station x.station = { c with
      heldPermit := c.permit, lossMark := none, permit := (t.station x.station).permit } ∧
    ∀ p, t.asked e g .frame x.station c.setup { timer := 0, suspended := false } snap p echo watch)

/-- The entry the allocator takes from a list by the stations that are held: of the eligible ones the highest priority,
nearest the front (05 R86). -/
def Entry.isFirst (x : Entry) (waiting : List Entry) (held : StationId → Prop) : Prop :=
  ∃ before after, waiting = before ++ x :: after ∧ ¬held x.station ∧
    (∀ y ∈ before, ¬held y.station → y.priority < x.priority) ∧
    (∀ y ∈ after, ¬held y.station → y.priority ≤ x.priority)

/-- State v follows state u by one grant of the allocator: the first entry of the list goes to the lowest free engine, and
the granted station's record follows. Every other entry, engine and station stays, and of exchange memory every byte but
the card's status and engine number and the event fields and holder of the station's record (05 R86, R87, 03 R56). -/
def State.grantedTo (u v : State) (x : Entry) (e : EngineId) (snap : Snapshot) (echo : Levels) : Prop :=
  x.isFirst u.waiting (fun n => u.holder n ≠ none) ∧
  (u.engine e).job = none ∧ (∀ e', e' < e → (u.engine e').job ≠ none) ∧
  v.hasGranted x e (u.engine e).stops (u.watch e) (u.station x.station) (u.readHeader x.card) snap echo ∧
  u.recordFollows v x.station ∧
  v = { u with
    mem := v.mem, regs := u.flagRaised v x.station, waiting := u.waiting.erase x, stations := v.stations
    holds := v.holds, crosspoint := v.crosspoint, engines := v.engines
    tracker := { u.tracker with questions := v.tracker.questions, watches := v.tracker.watches } } ∧
  (∀ e', e' ≠ e → v.engine e' = u.engine e' ∧ v.point e' = u.point e' ∧ v.question e' = u.question e' ∧
    v.watch e' = u.watch e') ∧
  (∀ m, m ≠ x.station → v.station m = u.station m ∧ v.holder m = u.holder m) ∧
  ∀ a, a ≠ cardBase x.card → a ≠ cardBase x.card + 0x16 →
    (∀ o, (eventOffset o = true ∨ o = 0x12) → a ≠ stationBase x.station + o) → v.byte a = u.byte a

/-- An action of the allocator with ENABLE reading 1: one grant after the other, each on the state the one before left,
until no engine is free or no entry eligible (05 R85, R86). -/
inductive State.Allocated (snap : Snapshot) (echo : Levels) : State → State → Prop where
  | done (u : State) (ends : (∀ e, (u.engine e).job ≠ none) ∨ ∀ y ∈ u.waiting, u.holder y.station ≠ none) :
      State.Allocated snap echo u u
  | grant {u v t : State} (x : Entry) (e : EngineId) (first : u.grantedTo v x e snap echo)
      (rest : State.Allocated snap echo v t) : State.Allocated snap echo u t

/-! ## A transaction end (08 R148) -/

/-- What a transaction end leaves of an engine beside the notes it passes on: a re-read that waited for it is due, but not
where a cancel for the engine's card is on its way. -/
def Engine.transactionEnded (g : Engine) : Engine :=
  if g.lookup.reread = .waiting ∧ ∀ k, g.job.map (·.card) = some k → Stop.cancel k ∉ g.stops then
    { g with lookup := { g.lookup with reread := .due } }
  else g

/-! ## A setup notice (03 R47 to R50, R63) -/

/-- State t follows state s by a setup notice of station n that reads these values; held says whether roster and policy
are deferred. The holder of a held station is engine e, with its job there. -/
def State.setupActedOn (s t : State) (n : StationId) (new : Setup) (held : Bool) (snap : Snapshot)
    (echo : Levels) : Prop :=
  let x := s.station n
  let y := t.station n
  let goesOff := x.setup.enabled = true ∧ new.enabled = false
  let goesOn := x.setup.enabled = false ∧ new.enabled = true
  let roster := held = false ∧ (x.setup.rosterCount ≠ new.rosterCount ∨ x.setup.roster ≠ new.roster)
  let policy := held = false ∧ x.setup.advise ≠ new.advise
  let arcs := x.setup.arcStart ≠ new.arcStart ∨ x.setup.arcEnd ≠ new.arcEnd
  let changed := fun p : SlotId => x.setup.activeAt p ≠ new.activeAt p ∨
    (x.setup.activeAt p = true ∧ x.setup.roster[p.val] ≠ new.roster[p.val])
  y.setup = (if held then { new with
    advise := x.setup.advise, rosterCount := x.setup.rosterCount, roster := x.setup.roster } else new) ∧
  y.deferred = (held || x.deferred) ∧ y.fault = x.fault ∧
  y.present = (if goesOff ∨ goesOn then false else x.present) ∧
  y.count = (if goesOff ∨ goesOn then 0 else x.count) ∧ y.due = (if goesOff ∨ goesOn then false else x.due) ∧
  y.recheck = (if x.setup.auto = new.auto then x.recheck
    else if new.auto = true ∧ x.fault = true then some 100 else none) ∧
  y.lossMark = (if goesOff ∧ s.held n = true ∧ x.lossMark = none then some .stationOff else x.lossMark) ∧
  y.heldPermit = (if goesOff ∧ s.held n = true then x.setup.advise else x.heldPermit) ∧
  t.notices = s.notices ++ (if goesOff then [{ station := n, event := .disabled }] else []) ++
    (if roster then [{ station := n, event := .rosterChanged }] else []) ∧
  (goesOff ∨ goesOn ∨ roster → s.recordFollows t n) ∧
  (¬(goesOff ∨ goesOn ∨ roster) → t.recordKey n = s.recordKey n ∧
    t.long (stationBase n + stStamp) = s.long (stationBase n + stStamp) ∧
    t.byte (stationBase n + stChangeFlag) = s.byte (stationBase n + stChangeFlag) ∧
    y.permit = if policy then permitOf (t.derived n (t.held n)) new.advise y.heldPermit else x.permit) ∧
  t.regs = s.flagRaised t n ∧
  (∀ p, if goesOff ∨ (roster ∧ changed p) then t.readSlot n p = SlotFields.cleared else
    t.readSlot n p = s.readSlot n p) ∧
  (∀ p, t.long (slotBase n p + 0x10) = if t.readSlot n p = s.readSlot n p then s.long (slotBase n p + 0x10)
    else s.tracker.cycles) ∧
  (∀ a, (∀ o, (eventOffset o = true ∨ slotOffset o = true) → a ≠ stationBase n + o) → t.byte a = s.byte a) ∧
  (∀ m, m ≠ n → t.station m = s.station m) ∧
  (∀ e, s.holder n ≠ some e → t.engine e = s.engine e ∧ t.question e = s.question e ∧ t.watch e = s.watch e) ∧
  (∀ e, s.holder n = some e →
    let g := if goesOff then { s.engine e with stops := (s.engine e).stops ++ [.disable n] } else s.engine e
    (∀ w q p, arcs → g.phase = .gating w → s.question e = some q → q.suspended = false → g.stopAtHoldBegin = false →
      (w = .round → g.profile = some p) → t.asked e g w n new q snap p echo (s.watch e)) ∧
    ((¬arcs ∨ (∀ w, g.phase ≠ .gating w) ∨ s.question e = none ∨ (∃ q, s.question e = some q ∧ q.suspended = true) ∨
        g.stopAtHoldBegin = true) →
      t.engine e = g ∧ t.question e = s.question e ∧ t.watch e = s.watch e))

/-- What the end of a card on an engine leaves of the engine and its station, no card waiting and no setup deferred: the
engine is idle, the station is not held, the point is open, the record holds no engine and follows, and CARD_END is set
for NOTIFY. That the idle engine is empty but for the stops on their way is the model's choice (log entry 27). -/
def State.releasedBy (s t : State) (e : EngineId) (j : Job) (echo : Levels) : Prop :=
  t = { s with
    pins := { s.pins with echo := echo }, mem := t.mem, engines := t.engines, holds := t.holds
    crosspoint := t.crosspoint, stations := t.stations
    regs := (s.flagRaised t j.station).cardEnded (s.engine e).header.notify } ∧
  t.engine e = { Engine.reset with stops := (s.engine e).stops } ∧ t.holder j.station = none ∧ t.point e = none ∧
  (∀ e', e' ≠ e → t.engine e' = s.engine e' ∧ t.point e' = s.point e') ∧
  (∀ m, m ≠ j.station → t.station m = s.station m ∧ t.holder m = s.holder m) ∧
  t.station j.station = { s.station j.station with permit := (t.station j.station).permit } ∧
  t.byte (stationBase j.station + 0x12) = 0xFF ∧ s.recordFollows t j.station ∧
  ∀ a, outsideResult j.card a → (∀ o, (eventOffset o = true ∨ o = 0x12) → a ≠ stationBase j.station + o) →
    t.byte a = s.byte a

/-! ## What the end of a reset leaves of memory (01 R20, 02 R43, 03 R65, 04 R84, 11 R195) -/

/-- The byte at an offset of a station record: verifier-owned fields 0, holder 0xFF, the rest kept. -/
def resetStationByte (o : Nat) (b : Byte) : Byte :=
  if o = stHolder then codeNone
  else if 0x10 ≤ o ∧ o < 0x19 then 0
  else if 0x20 ≤ o ∧ o < 0x70 ∧ (o - 0x20) % 20 ≠ 1 ∧ (o - 0x20) % 20 ≠ 7 then 0
  else b

/-- The byte at an offset of a card whose status read TAKEN or RUNNING: FAILED, RESET_LOST, a blank result. -/
def recoveredByte (o : Nat) (b : Byte) : Byte :=
  if o = 0 then statusFailed
  else if o = cdError then ErrorCode.resetLost.code
  else if o = cdEngine ∨ o = cdProfileIndex then codeNone
  else if cdError ≤ o then 0
  else b

/-- The byte at an address after a pin or soft reset. -/
def State.afterReset (s : State) (a : Nat) : Byte :=
  if 0x80 ≤ a ∧ a < 0xA0 then (if a = msConfigFault then codeNone else 0)
  else
    match stationAt a with
    | some (_, o) => resetStationByte o (s.byte a)
    | none =>
      match cardAt a with
      | some (k, o) =>
        if s.cardStatus k = statusTaken ∨ s.cardStatus k = statusRunning then recoveredByte o (s.byte a) else s.byte a
      | none => s.byte a

/-- A card that a reset recovers has NOTIFY set. -/
def State.losesNotified (s : State) : Prop :=
  ∃ k, (s.cardStatus k = statusTaken ∨ s.cardStatus k = statusRunning) ∧ s.cardNotify k = true

/-! ## What the clock brings (log entry 2) -/

/-- Ticks of a driven level of the frame: the wake 8C and 2C, a command bit C or 3C by its value, then C (07 Table 7-3). -/
def Frame.drivenTicks (f : Frame) : Option Nat :=
  match f.phase with
  | some .wakeHigh => some (8 * f.cell)
  | some .wakeLow => some (2 * f.cell)
  | some (.command b true) => some (if f.commandByte.getLsbD (7 - b.val) then 3 * f.cell else f.cell)
  | some (.command _ false) => some f.cell
  | some .answerWait | some .answerHigh | some .answerGap | some .tail | none => none

/-- The event an engine's counters have brought: the end of a driven level, no answer at 16C, a coding error and a
truncation at 4C, the end of the tail at 4C or at 1024C of listening, the fall of the pulse at Weff, the close of the
window and the end of the settle gap (07 R126 to R135, 06 R111, R112, R120). -/
def Engine.brought (g : Engine) (e : EngineId) (echo : Levels) : List Instr :=
  let f := g.frame
  if g.rising then []
  else if g.phase = .reading then
    if ∃ n, f.drivenTicks = some n ∧ n ≤ f.level then [.frameLevelEnd e]
    else if f.phase = some .answerWait ∧ 16 * f.cell ≤ f.listen then [.noAnswer e]
    else if f.phase = some .answerHigh ∧ 4 * f.cell ≤ f.width then [.codingError e]
    else if f.phase = some .answerGap ∧ 4 * f.cell ≤ f.gap then [.truncated e]
    else if f.phase = some .tail ∧ ∃ k, f.low = some k ∧ (4 * f.cell ≤ k ∨ 1024 * f.cell ≤ f.listen) then
      [.tailEnd e echo]
    else []
  else if g.phase = .pulsing ∧ g.capture.weff ≤ g.capture.counter then [.pulseFall e]
  else if g.phase = .listening ∧ g.capture.window ≤ g.capture.counter then [.windowClose e]
  else if g.phase = .settling ∧ ∃ p, g.profile = some p ∧ p.settle.toNat ≤ g.settle then [.settleEnd e echo]
  else []

/-- The events due in the present tick: those of the engines, then the fits and removals that samples have brought. -/
def State.brought (s : State) : List Instr :=
  (allEngines.flatMap fun e => (s.engine e).brought e s.pins.echo) ++
  (allStations.flatMap fun n =>
    let x := s.station n
    if x.setup.enabled = true ∧ x.due = true then (if x.present then [.removal n] else [.fit n]) else [])

/-- The events due at a millisecond: the presence sample, the stop timeout, the gate limits of open questions while ENABLE
reads 1, the rechecks and the sweep timer (03 R51, R63, 04 R74, R78, 02 R29). -/
def State.broughtByMillisecond (s : State) : List Instr :=
  match s.regs.snapshot with
  | none => []
  | some snap =>
    [.presenceSample s.pins.pres] ++
    (if s.tracker.stopped = false ∧ snap.stopTimeout.toNat ≤ s.tracker.stopTimer then [.stopTimeout s.pins.echo]
     else []) ++
    (allEngines.flatMap fun e =>
      if s.regs.enable = true ∧ ∃ q, s.question e = some q ∧ q.suspended = false ∧ snap.gateLimit.toNat ≤ q.timer then
        [.gateLimitExpiry e]
      else []) ++
    (allStations.flatMap fun n => if (s.station n).recheck = some 0 then [.recheckExpiry n s.pins.echo] else []) ++
    (match s.sweeper.timer with
     | .counting _ left => if left = 0 then [.sweepTimerExpiry] else []
     | .off => [])

/-! ## Invariants -/

/-- Every station's PERMITn is low while a reset lasts, and else what Table 3-4 gives for its derived state (03 R57). -/
def State.permitsFollow (s : State) : Prop :=
  ∀ n, (s.station n).permit = if s.inReset then false else
    permitOf (s.derived n (s.held n)) (s.station n).setup.advise (s.station n).heldPermit

/-- Every engine's place, every station's place and the Crosspoint agree: an engine is busy with a station exactly when
the station is held by it, its point is closed to that station, and it is busy exactly outside IDLE (05 R85, R86, R89). -/
def State.holdsAgree (s : State) : Prop :=
  (∀ e n, s.holder n = some e ↔ (s.engine e).job.map (·.station) = some n) ∧
  (∀ e, s.point e = (s.engine e).job.map (·.station)) ∧
  (∀ e, (s.engine e).job = none ↔ (s.engine e).phase = .idle)

/-- While valid the angle is below PPC, and there is a snapshot, whose PPC is 16 or more; while invalid it is 0
(01 R16, 04 R70). -/
def State.angleInRange (s : State) : Prop :=
  (∀ snap, s.regs.snapshot = some snap → 16 ≤ snap.ppc.toNat) ∧
  (s.tracker.valid = true → ∃ snap, s.regs.snapshot = some snap ∧ s.tracker.angle.toNat < snap.ppc.toNat) ∧
  (s.tracker.valid = false → s.tracker.angle = 0)

end Sys2Proof.Machine
end

