-- ==== Sys2Proof/Certificates/Slice0/Obligations.lean ====
section
/-! DEFINITION. The statements for the provers. -/

open Sys2Proof Sys2Proof.Machine

/-! ## The step and the queue -/

/-- The command at the front of the queue is run with the queue's rest. -/
def Obligations.StepRunsFrontCommand : Prop :=
  ∀ (c : Instr) (s : State) (rest : List Instr),
    step { s with pending := c :: rest } = exec c { s with pending := rest }

/-- Every command answers a next state, and no command changes the queue. The model's choice: that a command whose event
cannot come leaves the state as it is (log entry 8), and the form of the queue (log entries 1 and 9). -/
def Obligations.ExecAnswersNextAndKeepsTheQueue : Prop :=
  ∀ (c : Instr) (s : State), ∃ t, exec c s = .next t ∧ t.pending = s.pending

/-- The clock on an empty queue. While a reset lasts it stands; events due in the present tick are queued, engines first.
Where none is due the tick ends: each counter that runs advances by one, the samplers keep the tick's levels, an output
whose pre-check has passed rises, the 200000th tick is a millisecond of every millisecond counter, gate timers among
them only while ENABLE reads 1 and the question is not suspended; what has come due is queued. Nothing else changes.
The clock is the model's own choice: log entry 2; and so is the stop timeout that comes due at the millisecond of the tick
in which an MCLK edge was taken, with a timeout of 1: log entry 26. -/
def Obligations.IdleTickOnlyCounts : Prop :=
  ∀ s : State, s.pending = [] → ∃ t, step s = .next t ∧
    (s.inReset = true → t = s) ∧
    (s.inReset = false → s.brought ≠ [] → t = { s with pending := s.brought }) ∧
    (s.inReset = false → s.brought = [] →
      let ms : Prop := 200000 ≤ s.msTicks + 1
      t = { s with
        tracker := { s.tracker with
          stopTimer := if ms ∧ s.regs.snapshot ≠ none then s.tracker.stopTimer + 1 else s.tracker.stopTimer
          questions := t.tracker.questions }
        sweeper := { s.sweeper with timer := t.sweeper.timer }
        stations := t.stations, engines := t.engines, overloadHold := t.overloadHold
        msTicks := if ms then 0 else s.msTicks + 1
        pending := t.brought ++ if ms then t.broughtByMillisecond else [] } ∧
      (∀ period left, s.sweeper.timer = .counting period left →
        t.sweeper.timer = .counting period (if ms then left - 1 else left)) ∧
      (s.sweeper.timer = .off → t.sweeper.timer = .off) ∧
      (∀ n, t.station n = { s.station n with
        recheck := if ms then (s.station n).recheck.map (· - 1) else (s.station n).recheck }) ∧
      (∀ n, t.overloadHold.getLsbD n.val = (s.overloadHold.getLsbD n.val && (s.driver n).isSome)) ∧
      (∀ e, t.question e = (s.question e).map fun q =>
        if ms ∧ s.regs.enable = true ∧ q.suspended = false then { q with timer := q.timer + 1 } else q) ∧
      ∀ e,
        let g := s.engine e
        let f := g.frame
        let high := s.echoOf e
        let sampled := { g with rising := false, echoBefore := high, refBefore := s.refHigh e }
        let counts := fun x : Frame => t.engine e = { sampled with frame := x }
        (g.rising = true → g.phase ∈ [.reading, .pulsing, .listening] → t.engine e = sampled) ∧
        (g.rising = false → g.phase = .reading →
          (∀ n, f.drivenTicks = some n → counts { f with level := f.level + 1 }) ∧
          (f.phase = some .answerWait → counts { f with listen := f.listen + 1 }) ∧
          (f.phase = some .answerHigh → counts { f with
            listen := f.listen + 1
            width := if g.echoBefore = true ∧ high = true then f.width + 1 else f.width }) ∧
          (f.phase = some .answerGap → counts { f with
            listen := f.listen + 1
            gap := if g.echoBefore = false ∧ high = false then f.gap + 1 else f.gap }) ∧
          (f.phase = some .tail → counts { f with
            listen := f.listen + 1
            low := some (match f.low with | none => 0 | some k => if high then 0 else k + 1) }) ∧
          (f.phase = none → counts f)) ∧
        (g.rising = false → g.phase = .pulsing ∨ g.phase = .listening →
          t.engine e = { sampled with capture := { g.capture with counter := g.capture.counter + 1 } }) ∧
        (g.phase = .settling → t.engine e = { g with settle := g.settle + 1 }) ∧
        (g.phase ∉ [.reading, .pulsing, .listening, .settling] → t.engine e = g))

/-! ## Whole-machine rules -/

/-- Every step keeps exchange memory in its canonical form. -/
def Obligations.StepKeepsMemoryForm : Prop :=
  ∀ s t : State, Memory.wf s.mem = true → step s = .next t → Memory.wf t.mem = true

/-- The memory of the reset state is in canonical form, and the reset state meets the other invariants. -/
def Obligations.ResetMeetsTheInvariants : Prop :=
  Memory.wf State.reset.mem = true ∧ State.reset.holdsAgree ∧ State.reset.angleInRange ∧ State.reset.permitsFollow

/-- The part's own blocks write only fields of their own: a step changes a byte that the part does not own only by a
memory write byte, at that byte's own address, or by the power-on reset. -/
def Obligations.OnlyTheControllerWritesItsBytes : Prop :=
  ∀ (s t : State) (a : Nat), Memory.wf s.mem = true → partOwns a = false → step s = .next t → t.byte a ≠ s.byte a →
    s.pending.head? = some .powerOnReset ∨
    ∃ b, s.pending.head? = some (.memoryWrite b) ∧ s.port.pointer.toNat = a ∧ t.byte a = b

/-- Every step keeps the angle below PPC while it is valid and at 0 while it is not. -/
def Obligations.StepKeepsTheAngleInRange : Prop :=
  ∀ s t : State, s.angleInRange → step s = .next t → t.angleInRange

/-- Every step keeps the engines' places, the stations' places and the Crosspoint in agreement. -/
def Obligations.StepKeepsHoldsAndPointsAgreeing : Prop :=
  ∀ s t : State, s.holdsAgree → step s = .next t → t.holdsAgree

/-- Mask, ENABLE, snapshot and the shelf-fixed attribute change only by the commands the manual names for it. -/
def Obligations.RegistersChangeOnlyByTheirCommands : Prop :=
  ∀ (c : Instr) (s t : State), exec c s = .next t →
    (t.regs.mask ≠ s.regs.mask → (∃ b, c = .attentionMaskWrite b) ∨ c = .powerOnReset) ∧
    ((t.regs.enable ≠ s.regs.enable ∨ t.regs.snapshot ≠ s.regs.snapshot) →
      (∃ b echo, c = .enable b echo) ∨ (∃ b, c = .disable b) ∨ (∃ b, c = .softReset b) ∨ c = .pinResetEnd ∨
        c = .powerOnReset) ∧
    (t.regs.shelfFixed ≠ s.regs.shelfFixed →
      (∃ echo, c = .transactionEnd echo) ∨ (∃ b, c = .softReset b) ∨ c = .pinResetEnd ∨ c = .powerOnReset)

/-! ## Port: reads -/

/-- CS falls: the port takes a new transaction with nothing loaded, and byte 1 out is the low byte of ATTENTION. Byte 1
latches the command, whatever row it belongs to, and byte 2 out is the high byte of ATTENTION. The model's choice: the
latches that the transaction has not loaded hold 0 (log entry 6), and byte 1 begins to shift at the fall of CS, byte 2
at the completion of byte 1 (log entry 21). -/
def Obligations.TransactionStartsAndLatchesItsCommand : Prop :=
  (∀ s : State, s.inReset = false → s.pins.csLow = false →
      exec .transactionStart s = .next { s with
        pins := { s.pins with csLow := true }
        port := { Port.reset with
          taking := true, shiftOut := s.attention.extractLsb' 0 8, shifted := s.port.shifted } }) ∧
  (∀ (s : State) (b : Byte) (echo : Levels), s.inReset = false → s.pins.csLow = true → s.port.taking = true →
      s.port.command = none →
      let latched := fun k : Transaction =>
        ({ s with port := { s.port.counted (s.attention.extractLsb' 8 8) with command := some k } } : State)
      exec (.memoryRead 0xA1) s = .next (latched .memoryRead) ∧
      exec (.memoryWrite 0xA2) s = .next (latched .memoryWrite) ∧
      exec (.registerRead 0xB1) s = .next (latched .registerRead) ∧
      exec (.enable 0xB2 echo) s =
        .next { latched .registerWrite with pins := { s.pins with echo := echo } } ∧
      (∀ c ∈ [Instr.disable 0xB2, .sweep 0xB2, .softReset 0xB2, .attentionClear 0xB2, .attentionMaskWrite 0xB2,
          .registerWriteIgnored 0xB2], exec c s = .next (latched .registerWrite)) ∧
      (b ∉ [0xA1, 0xA2, 0xB1, 0xB2] → exec (.voidTransaction b) s = .next (latched .void)))

/-- A later byte of a memory read: the address bytes load the access pointer, and from byte 3 on the byte at the access
pointer is read for the next byte out and the pointer advances, wrapping from 0x3FFF to 0. -/
def Obligations.MemoryReadByte : Prop :=
  ∀ (s : State) (b : Byte), s.takes .memoryRead →
    (s.port.count = 1 →
      exec (.memoryRead b) s = .next { s with port := { s.port.counted 0 with pointer := b.setWidth 14 } }) ∧
    (s.port.count = 2 → ∀ a : Address, a = (b.setWidth 6 : BitVec 6) ++ (s.port.pointer.setWidth 8 : BitVec 8) →
      exec (.memoryRead b) s =
        .next { s with port := { s.port.counted (s.byte a.toNat) with pointer := a + 1 } }) ∧
    (3 ≤ s.port.count →
      exec (.memoryRead b) s =
        .next { s with port := { s.port.counted (s.byte s.port.pointer.toNat) with pointer := s.port.pointer + 1 } })

/-- A later byte of a register read: a pair of bytes shifts out one value, taken as its low byte begins to shift, and the
index advances, wrapping from 255 to 0. That the low byte begins to shift at the completion of the byte before it is the
model's choice (log entry 21). Second part: the values the registers read. -/
def Obligations.RegisterReads : Prop :=
  (∀ (s : State) (b : Byte), s.takes .registerRead →
      let takenAt := fun i : Byte =>
        ({ s with port := { s.port.counted ((s.registerValue i).extractLsb' 0 8) with
          regIndex := i, pairValue := s.registerValue i } } : State)
      (s.port.count = 1 → exec (.registerRead b) s = .next (takenAt b)) ∧
      (2 ≤ s.port.count → s.port.count % 2 = 0 →
        exec (.registerRead b) s = .next { s with port := s.port.counted (s.port.pairValue.extractLsb' 8 8) }) ∧
      (3 ≤ s.port.count → s.port.count % 2 = 1 → exec (.registerRead b) s = .next (takenAt (s.port.regIndex + 1)))) ∧
  (∀ s : State,
      s.registerValue 0 = 0x7C41 ∧
      (∀ i, (s.registerValue 1).getLsbD i =
        (decide (i = 0) && s.regs.enable || decide (i = 8) && s.active || decide (i = 9) && s.regs.snapshot.isSome)) ∧
      (s.active = true ↔ ∃ e, (s.engine e).phase ≠ .idle ∧ ∀ next, (s.engine e).phase ≠ .held next) ∧
      (s.registerValue 2).setWidth 12 = (s.regs.causes.setWidth 12 : BitVec 12) ∧
      (∀ n : StationId, s.byte (stationBase n + 0x18) = 1 → (∀ m, m < n → s.byte (stationBase m + 0x18) ≠ 1) →
        (s.registerValue 2).extractLsb' 12 4 = BitVec.ofNat 4 n.val) ∧
      ((∀ n : StationId, s.byte (stationBase n + 0x18) ≠ 1) → (s.registerValue 2).extractLsb' 12 4 = 0xF) ∧
      s.registerValue 3 = s.regs.mask.setWidth 16 ∧
      s.registerValue 4 = s.regs.refusedAt.setWidth 16 ∧
      (∀ i : Byte, 4 < i.toNat → s.registerValue i = 0))

/-- A later byte of a void transaction is ignored and 0x00 is shifted out; so is the rest of a transaction after the soft
reset it carried. -/
def Obligations.IgnoredBytesChangeNothing : Prop :=
  (∀ (s : State) (b : Byte), s.takes .void →
      exec (.voidTransaction b) s = .next { s with port := s.port.counted 0 }) ∧
  (∀ (s : State) (b : Byte), s.inReset = false → s.pins.csLow = true → s.port.taking = false →
      s.port.discarding = true →
      ∀ c ∈ [Instr.memoryRead b, .memoryWrite b, .registerRead b, .voidTransaction b, .disable b, .sweep b, .softReset b,
        .attentionClear b, .attentionMaskWrite b, .registerWriteIgnored b],
        exec c s = .next { s with port := { s.port with shifted := 0 } })

/-! ## Port: memory writes and ownership -/

/-- A later byte of a memory write: the address bytes load the access pointer; a data byte is stored if the ownership
rules accept it and noted if it is a watched write, else it is dropped; the pointer advances either way. -/
def Obligations.MemoryWriteByte : Prop :=
  ∀ (s : State) (b : Byte), s.takes .memoryWrite → Memory.wf s.mem = true →
    (s.port.count = 1 →
      exec (.memoryWrite b) s = .next { s with port := { s.port.counted 0 with pointer := b.setWidth 14 } }) ∧
    (s.port.count = 2 →
      exec (.memoryWrite b) s = .next { s with port := { s.port.counted 0 with
        pointer := (b.setWidth 6 : BitVec 6) ++ (s.port.pointer.setWidth 8 : BitVec 8) } }) ∧
    (3 ≤ s.port.count → ∃ t, exec (.memoryWrite b) s = .next t ∧
      t = { s with port := t.port, mem := t.mem, regs := t.regs } ∧
      t.port = { s.port.counted 0 with
        pointer := s.port.pointer + 1, touched := t.port.touched, cancelNotes := t.port.cancelNotes
        setupNotes := t.port.setupNotes, shelfNote := t.port.shelfNote, periodNote := t.port.periodNote } ∧
      (∀ k : CardId, t.port.touched[k.val] =
        (s.port.touched[k.val] ||
          decide (cardBase k ≤ s.port.pointer.toNat ∧ s.port.pointer.toNat < cardBase k + 64))) ∧
      (s.accepts s.port.pointer b = true →
        t.byte s.port.pointer.toNat = b ∧ (∀ a, a ≠ s.port.pointer.toNat → t.byte a = s.byte a) ∧ t.regs = s.regs ∧
        (∀ k : CardId, t.port.cancelNotes[k.val] =
          (s.port.cancelNotes[k.val] || decide (s.port.pointer.toNat = cardBase k + 1 ∧ b ≠ 0))) ∧
        (∀ n : StationId, t.port.setupNotes[n.val] =
          (s.port.setupNotes[n.val] ||
            decide (stationBase n ≤ s.port.pointer.toNat ∧ s.port.pointer.toNat < stationBase n + 12))) ∧
        t.port.shelfNote = (s.port.shelfNote || decide (s.port.pointer.toNat = 8)) ∧
        t.port.periodNote = (s.port.periodNote || decide (s.port.pointer.toNat = 6 ∨ s.port.pointer.toNat = 7))) ∧
      (s.accepts s.port.pointer b = false →
        t.mem = s.mem ∧ t.port.cancelNotes = s.port.cancelNotes ∧ t.port.setupNotes = s.port.setupNotes ∧
        t.port.shelfNote = s.port.shelfNote ∧ t.port.periodNote = s.port.periodNote))

/-- A refused byte: memory keeps its value and the pointer advances; with WRITE_REFUSED clear REFUSED_AT takes the address
and the cause is set, with it set both stay. No command but a refused byte with the cause clear, and a reset, changes
REFUSED_AT. -/
def Obligations.RefusedByteIsRecordedOnce : Prop :=
  (∀ (s : State) (b : Byte), s.takes .memoryWrite → 3 ≤ s.port.count → s.accepts s.port.pointer b = false →
    ∃ t, exec (.memoryWrite b) s = .next t ∧ t.mem = s.mem ∧ t.port.pointer = s.port.pointer + 1 ∧
      t.regs = if s.regs.causes.getLsbD 2 then s.regs
        else { s.regs with refusedAt := s.port.pointer, causes := s.regs.causes ||| 0b00100 }) ∧
  (∀ (c : Instr) (s t : State), exec c s = .next t → t.regs.refusedAt ≠ s.regs.refusedAt →
    ((∃ b, c = .memoryWrite b ∧ s.accepts s.port.pointer b = false) ∧ s.regs.causes.getLsbD 2 = false ∧
      t.regs.refusedAt = s.port.pointer) ∨
    (((∃ b, c = .softReset b) ∨ c = .pinResetEnd ∨ c = .powerOnReset) ∧ t.regs.refusedAt = 0))

/-- Whether a controller byte may enter, area by area and field by field. -/
def Obligations.OwnershipRules : Prop :=
  ∀ (s : State) (a : Address) (v : Byte),
    (a.toNat < 0x80 →
      (s.accepts a v = true ↔ s.regs.enable = false ∨ a.toNat = 6 ∨ a.toNat = 7 ∨ a.toNat = 8)) ∧
    (0x80 ≤ a.toNat → a.toNat < 0xA0 → s.accepts a v = false) ∧
    ((0xA0 ≤ a.toNat ∧ a.toNat < 0x100) ∨ (0x700 ≤ a.toNat ∧ a.toNat < 0x800) ∨ 0x2000 ≤ a.toNat →
      s.accepts a v = true) ∧
    (∀ (n : StationId) (o : Nat), o < 128 → a.toNat = stationBase n + o →
      (o < 0x0C → s.accepts a v = !s.held n) ∧
      (0x10 ≤ o → o < 0x18 → s.accepts a v = false) ∧
      (o = 0x18 → (s.accepts a v = true ↔ v = 0)) ∧
      (∀ (p : SlotId) (j : Nat), j < 20 → o = 0x20 + 20 * p.val + j → (s.accepts a v = true ↔ j = 1 ∨ j = 7)) ∧
      ((0x0C ≤ o ∧ o < 0x10) ∨ (0x19 ≤ o ∧ o < 0x20) ∨ 0x70 ≤ o → s.accepts a v = true)) ∧
    (∀ (k : CardId) (o : Nat), o < 64 → a.toNat = cardBase k + o →
      (s.accepts a v = true ↔ (s.cardStatus k ≠ 0x02 ∧ s.cardStatus k ≠ 0x03) ∨ o = 1)) ∧
    (0x1000 ≤ a.toNat → a.toNat < 0x2000 → s.accepts a v = !s.regs.shelfFixed)

/-! ## Port: register writes -/

/-- The index byte and the low byte of a register write are kept by the port; nothing else changes before the high byte. A
write of PART_ID, of REFUSED_AT or of an index above 4 has no effect at its high byte either. -/
def Obligations.RegisterWritesAreTakenInPairs : Prop :=
  (∀ (s : State) (b : Byte) (echo : Levels), s.takes .registerWrite →
      let indexed := ({ s with port := { s.port.counted 0 with regIndex := b } } : State)
      let lowKept := ({ s with port := { s.port.counted 0 with lowByte := b } } : State)
      (s.port.count = 1 →
        (b = 1 → exec (.enable b echo) s = .next { indexed with pins := { s.pins with echo := echo } }) ∧
        (b = 1 → ∀ c ∈ [Instr.disable b, .softReset b], exec c s = .next indexed) ∧
        (b = 1 → exec (.sweep b) s = .next indexed) ∧
        (b = 2 → exec (.attentionClear b) s = .next indexed) ∧
        (b = 3 → exec (.attentionMaskWrite b) s = .next indexed) ∧
        (b ∉ [1, 2, 3] → exec (.registerWriteIgnored b) s = .next indexed)) ∧
      (2 ≤ s.port.count → s.port.count % 2 = 0 →
        (s.port.regIndex = 1 → exec (.enable b echo) s = .next { lowKept with pins := { s.pins with echo := echo } }) ∧
        (s.port.regIndex = 1 → ∀ c ∈ [Instr.disable b, .softReset b], exec c s = .next lowKept) ∧
        (s.port.regIndex = 1 → exec (.sweep b) s = .next lowKept) ∧
        (s.port.regIndex = 2 → exec (.attentionClear b) s = .next lowKept) ∧
        (s.port.regIndex = 3 → exec (.attentionMaskWrite b) s = .next lowKept) ∧
        (s.port.regIndex ∉ [1, 2, 3] → exec (.registerWriteIgnored b) s = .next lowKept))) ∧
  (∀ (s : State) (high index : Byte), index ∉ [1, 2, 3] → s.writing index →
      exec (.registerWriteIgnored high) s = .next { s with port := s.port.pairWritten })

/-- A write of ATTENTION clears each cause written with 1 and keeps the others. A write of ATTENTION_MASK stores the five mask
bits, the other bits read 0, and ATTN is pulled exactly while a cause is set whose mask bit is 1. -/
def Obligations.AttentionAndMaskWrites : Prop :=
  (∀ (s : State) (high : Byte), s.writing 2 → ∃ t, exec (.attentionClear high) s = .next t ∧
      t = { s with port := s.port.pairWritten, regs := { s.regs with causes := t.regs.causes } } ∧
      ∀ i, i < 5 → t.regs.causes.getLsbD i = (s.regs.causes.getLsbD i && !s.port.lowByte.getLsbD i)) ∧
  (∀ (s : State) (high : Byte), s.writing 3 → ∃ t, exec (.attentionMaskWrite high) s = .next t ∧
      t = { s with port := s.port.pairWritten, regs := { s.regs with mask := s.port.lowByte.setWidth 5 } } ∧
      t.registerValue 3 = s.port.lowByte.setWidth 16 &&& 0x001F ∧
      (t.attn = true ↔ ∃ i, i < 5 ∧ s.regs.causes.getLsbD i = true ∧ s.port.lowByte.getLsbD i = true))

/-! ## Run control -/

/-- A configuration with a PPC below 16 or a bit-cell select above 2 is rejected: config fault names the first rejecting
field, CONFIG_REJECTED is set, and neither ENABLE nor the snapshot changes; a sweep asked for in the same write is not
made. -/
def Obligations.EnableRejectsBadConfiguration : Prop :=
  ∀ (s : State) (high : Byte) (echo : Levels), Memory.wf s.mem = true → s.writing 1 →
    s.port.lowByte.getLsbD 0 = true → s.port.lowByte.getLsbD 2 = false → s.regs.enable = false →
    ((s.half 0x00).toNat < 16 ∨ 2 < (s.byte 0x0A).toNat) →
    ∃ t, exec (.enable high echo) s = .next t ∧
      t = { s with
        port := s.port.pairWritten, pins := { s.pins with echo := echo }, mem := t.mem
        regs := { s.regs with causes := s.regs.causes ||| 0b01000 } } ∧
      t.byte 0x85 = (if (s.half 0x00).toNat < 16 then 0x00 else 0x0A) ∧
      ∀ a, a ≠ 0x85 → t.byte a = s.byte a

/-- An accepted configuration: the snapshot holds the clamped fields, ENABLE and CONFIGURED read 1, the sweep timer starts
with the clamped period, and a sweep asked for in the same write is requested. After an earlier one and with no card
waiting: a changed PPC restarts the tracker, which loses the angle and disturbs the open watches but those on
WHOLE_CYCLE; each engine in HELD leaves it for its next step, a suspended question resumed with its timer and judged,
every other step entered new, the scoring pass with the new Nref; nothing else changes but config fault and the
tracker's record. -/
def Obligations.EnableTakesTheSnapshotOf : Prop :=
  (∀ (s : State) (high : Byte) (echo : Levels), s.writing 1 →
      s.port.lowByte.getLsbD 0 = true → s.port.lowByte.getLsbD 2 = false → s.regs.enable = false →
      16 ≤ (s.half 0x00).toNat → (s.byte 0x0A).toNat ≤ 2 →
      ∃ t snap, exec (.enable high echo) s = .next t ∧
        t.regs = { s.regs with enable := true, snapshot := some snap, causes := t.regs.causes } ∧
        snap.ppc = s.half 0x00 ∧
        (snap.mclkFalling = true ↔ s.byte 0x02 ≠ 0) ∧ (snap.midxFalling = true ↔ s.byte 0x03 ≠ 0) ∧
        snap.stopTimeout = (if s.byte 0x04 = 0 then 1 else s.byte 0x04) ∧
        (snap.quietWhenStopped = true ↔ s.byte 0x05 ≠ 0) ∧
        snap.presenceFilter = (if s.byte 0x09 = 0 then 1 else s.byte 0x09) ∧
        snap.bitCell.ticks = 2000 * 2 ^ (s.byte 0x0A).toNat ∧
        snap.gateLimit = (if s.half 0x0C = 0 then 1 else s.half 0x0C) ∧
        (∀ e : EngineId, snap.nref[e.val] = s.half (0x0E + 2 * e.val)) ∧
        t.port = s.port.pairWritten ∧ t.pins = { s.pins with echo := echo } ∧
        t.sweeper.timer = (if s.half 0x06 = 0 then .off
          else .counting (clampPeriod (s.half 0x06)) (clampPeriod (s.half 0x06))) ∧
        (s.port.lowByte.getLsbD 1 = false →
          t.sweeper.visit = s.sweeper.visit ∧ t.sweeper.latch = s.sweeper.latch) ∧
        (s.port.lowByte.getLsbD 1 = true → s.sweeper.visit = none → t.sweeper.visit = some (.header 0)) ∧
        (s.port.lowByte.getLsbD 1 = true → s.sweeper.visit ≠ none →
          t.sweeper.visit = s.sweeper.visit ∧ t.sweeper.latch = true)) ∧
  (∀ (s : State) (high : Byte) (echo : Levels) (old : Snapshot), Memory.wf s.mem = true → s.writing 1 →
      s.port.lowByte.getLsbD 0 = true → s.port.lowByte.getLsbD 1 = false → s.port.lowByte.getLsbD 2 = false →
      s.regs.enable = false → 16 ≤ (s.half 0x00).toNat → (s.byte 0x0A).toNat ≤ 2 →
      s.regs.snapshot = some old → s.waiting = [] →
      (∀ e q, s.question e = some q → q.suspended = true) →
      ∃ t snap, exec (.enable high echo) s = .next t ∧ t.regs.snapshot = some snap ∧
        let restarts : Prop := old.ppc ≠ s.half 0x00
        t = { s with
          port := s.port.pairWritten, pins := { s.pins with echo := echo }, mem := t.mem, engines := t.engines
          regs := { s.regs with enable := true, snapshot := some snap }
          sweeper := { s.sweeper with timer := t.sweeper.timer }, cache := t.cache
          tracker := { s.tracker with
            angle := if restarts then 0 else s.tracker.angle
            valid := if restarts then false else s.tracker.valid
            questions := t.tracker.questions, watches := t.tracker.watches } } ∧
        t.cache.places = s.cache.places ∧ t.byte 0x85 = 0xFF ∧
        (restarts → t.half 0x80 = 0 ∧ t.byte 0x82 = 0 ∧ t.byte 0x83 = flagByte s.tracker.stopped ∧
          t.byte 0x84 = flagByte s.tracker.indexMissed ∧ t.long 0x88 = s.tracker.cycles) ∧
        (∀ a, (a < 0x80 ∨ a = 0x86 ∨ a = 0x87 ∨ 0x8C ≤ a ∨ ¬restarts ∧ a ≠ 0x85) → t.byte a = s.byte a) ∧
        ∀ e,
          let g := s.engine e
          let disturbs := restarts ∧ ∃ w, s.watch e = some w ∧ w.ground ≠ .wholeCycle ∧ w.disturbed = false
          ((∀ next, g.phase ≠ .held next) → t.question e = s.question e ∧
            (¬disturbs → t.watch e = s.watch e ∧ t.engine e = g) ∧
            (disturbs → t.watch e = (s.watch e).map (fun w => { w with disturbed := true }) ∧
              t.engine e = if g.phase = .reading then { g with frame := { g.frame with disturbed := true } }
                else { g with capture := { g.capture with disturbed := true } })) ∧
          (s.watch e = none →
            (∀ w j p, g.phase = .held (.gating w) → g.job = some j → g.stopAtHoldBegin = false →
              (w = .round → g.profile = some p) →
              t.asked e g w j.station (s.station j.station).setup
                (match s.question e with
                  | some q => { q with suspended := false }
                  | none => { timer := 0, suspended := false }) snap p echo none) ∧
            (g.phase = .held .settling → t.engine e = { g with phase := .settling, settle := 0 } ∧
              t.question e = s.question e ∧ t.watch e = none) ∧
            (∀ j, g.phase = .held (.computing .lookup) → g.job = some j → g.stopAtHoldBegin = false →
              s.lookupBegun t e g j.station (g.tagRecord.getD []) snap echo) ∧
            (g.phase = .held (.computing .scoring) →
              t.engine e = { g with phase := .computing .scoring, nref := s.half (0x0E + 2 * e.val) } ∧
              t.question e = s.question e ∧ t.watch e = none) ∧
            (g.phase = .held .writing → t.engine e = { g with phase := .writing .result } ∧
              t.question e = s.question e ∧ t.watch e = none)))

/-- The first acceptance since a reset, with no engine busy: every station's setup is read, and the record of an enabled
station reads EMPTY, that of a disabled one OFF, with stamp, change flag and STATION_CHANGE where that is a change. -/
def Obligations.FirstEnableActivatesTheStations : Prop :=
  ∀ (s : State) (high : Byte) (echo : Levels), Memory.wf s.mem = true → s.writing 1 →
    s.port.lowByte.getLsbD 0 = true → s.port.lowByte.getLsbD 2 = false → s.regs.enable = false →
    16 ≤ (s.half 0x00).toNat → (s.byte 0x0A).toNat ≤ 2 →
    s.regs.snapshot = none → s.waiting = [] → (∀ e, (s.engine e).phase = .idle) →
    (∀ n, s.station n = Station.reset) → (∀ n, s.holder n = none) → (∀ e, s.watch e = none) →
    ∃ t, exec (.enable high echo) s = .next t ∧
      (∀ n, t.station n = { Station.reset with setup := s.readSetup n }) ∧
      (∀ n, t.byte (stationBase n + 0x10) = if s.byte (stationBase n) ≠ 0 then 0x01 else 0x00) ∧
      (∀ n, s.recordFollows t n) ∧
      (∀ n a, (∀ o, eventOffset o = true → a ≠ stationBase n + o) → stationBase n ≤ a → a < stationBase n + 128 →
        t.byte a = s.byte a) ∧
      t.regs = { s.regs with
        enable := true, snapshot := t.regs.snapshot
        causes := if ∃ n, t.recordKey n ≠ s.recordKey n ∧ s.byte (stationBase n + 0x18) ≠ 1
          then s.regs.causes ||| 0b00010 else s.regs.causes } ∧
      t.tracker = { s.tracker with angle := 0, valid := false, stopTimer := 0 } ∧
      t.engines = s.engines ∧ t.holds = s.holds ∧ t.crosspoint = s.crosspoint ∧ t.cache = s.cache ∧
      ∀ a, a < 0x80 ∨ 0x700 ≤ a → t.byte a = s.byte a

/-- While ENABLE reads 1: writing ENABLE 1 without SWEEP has no effect and takes no new snapshot; with SWEEP a sweep
starts at card 0, or the latch is set while a sweep is in progress. ENABLE goes to 0: an engine in GATING is held
with its question suspended and the others go on; the sweep timer is OFF, the latch clear, and no visit but one
begun, whose second burst is due, is left; the snapshot is kept. That a second burst that is due is still made is
DEDUCED (log entry 10). -/
def Obligations.RunControlWhileEnabledActs : Prop :=
  ((∀ (s : State) (high : Byte) (echo : Levels), s.writing 1 →
        s.port.lowByte.getLsbD 0 = true → s.port.lowByte.getLsbD 1 = false → s.port.lowByte.getLsbD 2 = false →
        s.regs.enable = true →
        exec (.enable high echo) s =
          .next { s with port := s.port.pairWritten, pins := { s.pins with echo := echo } }) ∧
    (∀ (s : State) (high : Byte), s.writing 1 →
        s.port.lowByte.getLsbD 0 = true → s.port.lowByte.getLsbD 1 = true → s.port.lowByte.getLsbD 2 = false →
        s.regs.enable = true →
        exec (.sweep high) s = .next { s with
          port := s.port.pairWritten
          sweeper := if s.sweeper.visit = none then { s.sweeper with visit := some (.header 0), ending := false }
            else { s.sweeper with latch := true } })) ∧
  (∀ (s : State) (high : Byte), s.writing 1 →
      s.port.lowByte.getLsbD 0 = false → s.port.lowByte.getLsbD 2 = false → s.regs.enable = true →
      ∃ t, exec (.disable high) s = .next t ∧
        t = { s with
          port := s.port.pairWritten, regs := { s.regs with enable := false }, engines := t.engines
          tracker := { s.tracker with questions := t.tracker.questions }, sweeper := t.sweeper } ∧
        (∀ e w, (s.engine e).phase = .gating w →
          t.engine e = { s.engine e with phase := .held (.gating w) } ∧
          t.question e = (s.question e).map fun q => { q with suspended := true }) ∧
        (∀ e, (∀ w, (s.engine e).phase ≠ .gating w) → t.engine e = s.engine e ∧ t.question e = s.question e) ∧
        t.sweeper.timer = .off ∧ t.sweeper.latch = false ∧ t.sweeper.counter = s.sweeper.counter ∧
        (∀ k bytes, s.sweeper.visit = some (.intake k bytes) ∨ s.sweeper.visit = some (.stray k) →
          t.sweeper.visit = s.sweeper.visit ∧ t.sweeper.ending = true) ∧
        ((∀ k bytes, s.sweeper.visit ≠ some (.intake k bytes) ∧ s.sweeper.visit ≠ some (.stray k)) →
          t.sweeper.visit = none ∧ t.sweeper.ending = false))

/-! ## Resets -/

/-- RESET goes low: a level shorter than 100 ns has no effect, one of 1 µs or more is a pin reset, and between the two it
may or may not be one. Then the transaction and a sweep are cut off, every engine stops and holds nothing, every point
opens, questions and watches are discarded, and every PERMIT and stimulus output is low; memory and registers are kept.
While a pin or power-on reset lasts no command but the pins' and the resets' own has an effect, and no output is driven;
the synchronisers of MCLK and MIDX go on (DEDUCED, log entry 18). What is cleared here and what at the release is DEDUCED (log entry 16); that a command then leaves the state as it is,
is the model's choice (log entry 8). -/
def Obligations.PinResetStopsTheEngines : Prop :=
  let begun := fun s t : State =>
    t.mem = s.mem ∧ t.regs = s.regs ∧ t.waiting = s.waiting ∧ t.cache = s.cache ∧ t.pending = s.pending ∧
    t.freeReads = s.freeReads ∧ t.pins = { s.pins with resetLow := true } ∧ t.port = Port.reset ∧
    t.sweeper = { s.sweeper with visit := none } ∧ t.overloadHold = 0 ∧
    (∀ e, t.engine e = Engine.reset ∧ t.point e = none ∧ t.question e = none ∧ t.watch e = none ∧
      t.refStim e = false) ∧
    (∀ n, t.station n = { s.station n with permit := false } ∧ t.holder n = none ∧ t.stim n = false) ∧
    t.attn = false ∧ t.misoDriven = false ∧
    t.tracker = { s.tracker with questions := t.tracker.questions, watches := t.tracker.watches }
  (∀ (s : State) (low : Nat), s.pins.resetLow = false →
      let counted := { s with freeReads := s.freeReads + 1 }
      (low < 100 → exec (.pinResetAssert low) s = .next s) ∧
      (1000 ≤ low → ∃ t, exec (.pinResetAssert low) s = .next t ∧ begun s t) ∧
      (100 ≤ low → low < 1000 → ∃ t, exec (.pinResetAssert low) s = .next t ∧ (t = counted ∨ begun counted t))) ∧
  (∀ s : State, s.inReset = true →
      s.attn = false ∧ s.misoDriven = false ∧ (∀ e, s.refStim e = false) ∧
      (∀ n, s.stim n = false ∧ s.permitHigh n = false) ∧
      (∀ echo, exec .transactionStart s = .next { s with pins := { s.pins with csLow := true } } ∧
        exec (.transactionEnd echo) s = .next { s with pins := { s.pins with csLow := false } }) ∧
      (∀ level echo stood, 20 ≤ stood →
        exec (.mclkEdge level echo stood) s = .next { s with pins := { s.pins with mclk := level } } ∧
        exec (.midxEdge level echo stood) s = .next { s with pins := { s.pins with midx := level } }) ∧
      (∀ level echo stood, stood < 15 →
        exec (.mclkEdge level echo stood) s = .next s ∧ exec (.midxEdge level echo stood) s = .next s) ∧
      ∀ c : Instr, match c with
        | .transactionStart | .transactionEnd _ | .pinResetAssert _ | .pinResetEnd | .powerOnReset | .mclkEdge _ _ _
        | .midxEdge _ _ _ => True
        | _ => exec c s = .next s)

/-- The end of a pin reset and a soft reset leave the same state: every block at its reset values, the mask kept, the
shelf-fixed attribute taken from its field, the owners' records rewritten, TAKEN and RUNNING cards FAILED with
RESET_LOST, and CARD_END set if one of them has NOTIFY. A soft reset discards the rest of its transaction. Under a
power-on reset that lasts, RESET's release only releases the pin: DEDUCED (log entry 16). The model's choice (log entries
6, 7): latches without a reset value hold 0. -/
def Obligations.ResetEndsWithResetValues : Prop :=
  ∀ (s : State) (high : Byte), Memory.wf s.mem = true →
    let ended := fun t : State =>
      (∀ a, t.byte a = s.afterReset a) ∧
      t.regs.enable = false ∧ t.regs.snapshot = none ∧ t.regs.mask = s.regs.mask ∧ t.regs.refusedAt = 0 ∧
      (t.regs.shelfFixed = true ↔ s.byte 0x08 ≠ 0) ∧
      (t.regs.causes = 0b00001 ∧ s.losesNotified ∨ t.regs.causes = 0 ∧ ¬s.losesNotified) ∧
      t.sweeper = Sweeper.reset ∧ t.waiting = [] ∧ t.notices = [] ∧ t.tracker = Tracker.reset ∧ t.cache = Cache.reset ∧
      (∀ n, t.station n = Station.reset ∧ t.holder n = none) ∧ t.overloadHold = 0 ∧
      (∀ e, t.engine e = Engine.reset ∧ t.point e = none) ∧ t.pending = s.pending
    (s.pins.resetLow = true → s.pins.por = false → ∃ t, exec .pinResetEnd s = .next t ∧ ended t ∧
      t.port = Port.reset ∧ t.pins = { s.pins with resetLow := false }) ∧
    (s.pins.resetLow = true → s.pins.por = true →
      exec .pinResetEnd s = .next { s with pins := { s.pins with resetLow := false } }) ∧
    (s.writing 1 → s.port.lowByte.getLsbD 2 = true → ∃ t, exec (.softReset high) s = .next t ∧ ended t ∧
      t.port = { Port.reset with discarding := true, shifted := s.port.shiftOut } ∧ t.pins = s.pins)

/-- The end of power-on reset: every byte reads 0x00 but config fault and the twelve holder bytes, which read 0xFF;
every register, list, engine and station is at its reset value, and no transaction is in progress. The model's choice
(log entries 6, 7): setup copies and the port's latches read 0. -/
def Obligations.PowerOnResetClearsThePart : Prop :=
  ∀ s : State, ∃ t, exec .powerOnReset s = .next t ∧
    (∀ a, t.byte a = if a = 0x85 ∨ ∃ n : StationId, a = stationBase n + 0x12 then 0xFF else 0x00) ∧
    t.registerValue 0 = 0x7C41 ∧ t.registerValue 1 = 0x0000 ∧ t.registerValue 2 = 0xF000 ∧
    t.registerValue 3 = 0x0000 ∧ t.registerValue 4 = 0x0000 ∧ t.regs.snapshot = none ∧ t.regs.shelfFixed = false ∧
    t.port = Port.reset ∧ t.waiting = [] ∧ t.notices = [] ∧ t.sweeper = Sweeper.reset ∧ t.tracker = Tracker.reset ∧
    t.cache = Cache.reset ∧ t.overloadHold = 0 ∧ t.attn = false ∧
    (∀ n, t.station n = Station.reset ∧ t.holder n = none) ∧ (∀ e, t.engine e = Engine.reset ∧ t.point e = none) ∧
    t.pins = { s.pins with por := false } ∧ t.freeReads = s.freeReads ∧ t.pending = s.pending

/-! ## Transaction end -/

/-- A cancel byte written nonzero is judged by the card's status at transaction end: a TAKEN card on the list ends
CANCELLED, a RUNNING card's engine is sent a cancel stop, and any other card is left. A re-read that waited for the
transaction end is due after it, but not where a cancel is on its way to its engine. -/
def Obligations.CancelAtTransactionEnd : Prop :=
  ∀ (s : State) (echo : Levels) (k : CardId), Memory.wf s.mem = true → s.inReset = false → s.pins.csLow = true →
    s.port.taking = true → s.port.cancelNotes = (Vector.replicate 32 false).set k.val true →
    s.port.setupNotes = Vector.replicate 12 false → s.port.shelfNote = false → s.port.periodNote = false →
    ∃ t, exec (.transactionEnd echo) s = .next t ∧
      t = { s with
        port := { Port.reset with shifted := s.port.shifted }
        pins := { s.pins with csLow := false, echo := echo }
        engines := t.engines, waiting := t.waiting, mem := t.mem, regs := t.regs } ∧
      (s.cardStatus k = 0x02 → (∃ x ∈ s.waiting, x.card = k) →
        (∀ e, t.engine e = (s.engine e).transactionEnded) ∧ t.waiting = s.waiting.filter (fun x => x.card ≠ k) ∧ t.cardStatus k = 0x06 ∧
        t.long (cardBase k + 0x1E) = s.tracker.cycles ∧
        (∀ a, a ≠ cardBase k → (a < cardBase k + 0x1E ∨ cardBase k + 0x22 ≤ a) → t.byte a = s.byte a) ∧
        t.regs = if s.cardNotify k then { s.regs with causes := s.regs.causes ||| 0b00001 } else s.regs) ∧
      (s.cardStatus k = 0x03 → ∀ e, (s.engine e).job.map (·.card) = some k →
        (∀ e', e' < e → (s.engine e').job.map (·.card) ≠ some k) →
        t.mem = s.mem ∧ t.regs = s.regs ∧ t.waiting = s.waiting ∧
        t.engine e = { s.engine e with stops := (s.engine e).stops ++ [.cancel k] } ∧
        ∀ e', e' ≠ e → t.engine e' = (s.engine e').transactionEnded) ∧
      ((s.cardStatus k ≠ 0x02 ∧ s.cardStatus k ≠ 0x03) ∨ (s.cardStatus k = 0x02 ∧ ∀ x ∈ s.waiting, x.card ≠ k) ∨
          (s.cardStatus k = 0x03 ∧ ∀ e, (s.engine e).job.map (·.card) ≠ some k) →
        t.mem = s.mem ∧ t.regs = s.regs ∧ t.waiting = s.waiting ∧ ∀ e, t.engine e = (s.engine e).transactionEnded)

/-- A transaction that wrote the shelf-fixed field puts its value into effect, and a change to clear empties the cache; one
that wrote the sweep period starts an OFF timer while ENABLE reads 1 and leaves a COUNTING one. A re-read that waited for
the transaction end is due after it, but not where a cancel is on its way to its engine. -/
def Obligations.ShelfAndPeriodAtTransactionEnd : Prop :=
  ∀ (s : State) (echo : Levels), s.inReset = false → s.pins.csLow = true → s.port.taking = true →
    s.port.cancelNotes = Vector.replicate 32 false → s.port.setupNotes = Vector.replicate 12 false →
    ∃ t, exec (.transactionEnd echo) s = .next t ∧
      t = { s with
        port := { Port.reset with shifted := s.port.shifted }
        pins := { s.pins with csLow := false, echo := echo }, engines := t.engines
        regs := { s.regs with shelfFixed := t.regs.shelfFixed }, cache := t.cache
        sweeper := { s.sweeper with timer := t.sweeper.timer } } ∧
      (s.port.shelfNote = true → (t.regs.shelfFixed = true ↔ s.byte 0x08 ≠ 0)) ∧
      (s.port.shelfNote = false → t.regs.shelfFixed = s.regs.shelfFixed) ∧
      t.cache = (if s.regs.shelfFixed = true ∧ t.regs.shelfFixed = false then Cache.reset else s.cache) ∧
      (∀ e,
        let g := (s.engine e).transactionEnded
        t.engine e = { g with lookup := { g.lookup with
          fixedThroughout := if s.regs.shelfFixed = true ∧ t.regs.shelfFixed = false then false
            else g.lookup.fixedThroughout } }) ∧
      (s.port.periodNote = true → s.regs.enable = true → s.sweeper.timer = .off → s.half 0x06 ≠ 0 →
        t.sweeper.timer = .counting (clampPeriod (s.half 0x06)) (clampPeriod (s.half 0x06))) ∧
      (s.port.periodNote = false ∨ s.regs.enable = false ∨ s.sweeper.timer ≠ .off ∨ s.half 0x06 = 0 →
        t.sweeper.timer = s.sweeper.timer)

/-- A transaction that wrote setup of one station: enable and arcs are acted on at once, roster and policy too while the
station is not held, and else the notice is kept for hold end. A disable clears the slots and stops the holder, a
changed roster resets the slots of changed positions, and both tell the Pending List; record, stamp, change flag and
PERMITn follow; a change of restart mode starts or stops the recheck timer; changed arcs judge the holder's question. After
that a re-read that waited for the transaction end is due, but not where a cancel is on its way to its engine. That a
question whose engine has a stop of hold begin on its way is not judged is DEDUCED (log entry 11), and so is the held
permit after a disable, that of the policy (log entry 13). -/
def Obligations.SetupAtTransactionEnd : Prop :=
  ∀ (s : State) (echo : Levels) (n : StationId) (snap : Snapshot), Memory.wf s.mem = true → s.inReset = false →
    s.pins.csLow = true → s.port.taking = true → s.port.cancelNotes = Vector.replicate 32 false →
    s.port.setupNotes = (Vector.replicate 12 false).set n.val true →
    s.port.shelfNote = false → s.port.periodNote = false → s.regs.snapshot = some snap →
    (∀ e, s.holder n = some e → (s.engine e).job.map (·.station) = some n) →
    ∃ u t : State, exec (.transactionEnd echo) s = .next t ∧ s.setupActedOn u n (s.readSetup n) (s.held n) snap echo ∧
      u = { s with
        pins := { s.pins with csLow := false, echo := echo }
        stations := u.stations, notices := u.notices, engines := u.engines, mem := u.mem
        regs := { s.regs with causes := u.regs.causes }
        tracker := { s.tracker with questions := u.tracker.questions, watches := u.tracker.watches } } ∧
      t = { u with port := { Port.reset with shifted := s.port.shifted }, engines := t.engines } ∧
      ∀ e, t.engine e = (u.engine e).transactionEnded

/-! ## Card Sweeper, intake and Pending List -/

/-- The sweep timer expires: a sweep starts or the latch is set, and the next period is the field's, or the old one while the
transaction in progress has written the field. The header read of a card: a touched card is skipped, a POSTED one goes
to intake, a stray TAKEN or RUNNING one to a second burst, which ends it FAILED with BAD_STATUS, every other one is
passed over. -/
def Obligations.SweepTimerAndVisits : Prop :=
  (∀ (s : State) (period left : Half), s.inReset = false → s.sweeper.timer = .counting period left →
      exec .sweepTimerExpiry s = .next { s with
        sweeper := { s.sweeper with
          visit := if s.sweeper.visit = none ∧ s.regs.enable = true then some (.header 0) else s.sweeper.visit
          latch := if s.sweeper.visit = none then s.sweeper.latch else true
          ending := if s.sweeper.visit = none ∧ s.regs.enable = true then false else s.sweeper.ending
          timer := if s.port.taking = true ∧ s.port.periodNote = true then .counting period period
            else if s.half 0x06 = 0 then .off
            else .counting (clampPeriod (s.half 0x06)) (clampPeriod (s.half 0x06)) } }) ∧
  (∀ (s : State) (k : CardId), s.inReset = false → s.sweeper.visit = some (.header k) →
      let stray := (s.cardStatus k = 0x02 ∧ ∀ x ∈ s.waiting, x.card ≠ k) ∨
        (s.cardStatus k = 0x03 ∧ ∀ e, (s.engine e).job.map (·.card) ≠ some k)
      let stands := fun v : Visit => ({ s with sweeper := { s.sweeper with visit := some v } } : State)
      let passed := { s with sweeper := s.sweeper.visited k s.regs.enable }
      (s.port.touched[k.val] = true → exec .cardVisit s = .next passed) ∧
      (s.port.touched[k.val] = false → s.cardStatus k = 0x01 →
        exec .cardVisit s = .next (stands (.intake k (s.bytes (cardBase k) 14)))) ∧
      (s.port.touched[k.val] = false → stray → exec .cardVisit s = .next (stands (.stray k))) ∧
      (s.port.touched[k.val] = false → s.cardStatus k ≠ 0x01 → ¬stray → exec .cardVisit s = .next passed)) ∧
  (∀ (s : State) (k : CardId), Memory.wf s.mem = true → s.inReset = false → s.sweeper.visit = some (.stray k) →
      ∃ t, exec .cardVisit s = .next t ∧
        t = { s with
          sweeper := s.sweeper.visited k s.regs.enable, mem := t.mem, regs := s.regs.cardEnded (s.cardNotify k) } ∧
        s.endsBlank t k 0x05 .badStatus ∧ ∀ a, outsideResult k a → t.byte a = s.byte a)

/-- Intake leaves a card that the transaction in progress has touched or whose header has changed since its visit. Else it
ends a cancelled or invalid card in its burst: CANCELLED for a nonzero cancel byte, else FAILED with the code of the
first check that fails. -/
def Obligations.IntakeEndsOrLeavesTheCard : Prop :=
  (∀ (s : State) (k : CardId) (bytes : List Byte) (echo : Levels), s.inReset = false →
      s.sweeper.visit = some (.intake k bytes) →
      (s.port.touched[k.val] = true ∨ s.bytes (cardBase k) 14 ≠ bytes) →
      exec (.cardIntake echo) s = .next { s with
        pins := { s.pins with echo := echo }, sweeper := s.sweeper.visited k s.regs.enable }) ∧
  (∀ (s : State) (k : CardId) (bytes : List Byte) (echo : Levels), Memory.wf s.mem = true → s.inReset = false →
      s.sweeper.visit = some (.intake k bytes) → s.port.touched[k.val] = false → s.bytes (cardBase k) 14 = bytes →
      let kind := s.byte (cardBase k + 0x02)
      let tag := s.byte (cardBase k + 0x05)
      let ends := fun (status : Byte) (err : ErrorCode) => ∃ t, exec (.cardIntake echo) s = .next t ∧
        t = { s with
          pins := { s.pins with echo := echo }, sweeper := s.sweeper.visited k s.regs.enable, mem := t.mem
          regs := s.regs.cardEnded (s.cardNotify k) } ∧
        s.endsBlank t k status err ∧ ∀ a, outsideResult k a → t.byte a = s.byte a
      (s.byte (cardBase k + 0x01) ≠ 0 → ends 0x06 .none) ∧
      (s.byte (cardBase k + 0x01) = 0 →
        (kind ∉ [0x01, 0x02, 0x03, 0x10, 0x11] → ends 0x05 .badKind) ∧
        (kind ∈ [0x01, 0x02, 0x03, 0x10, 0x11] →
          (12 ≤ (s.byte (cardBase k + 0x04)).toNat → ends 0x05 .badStation) ∧
          (∀ n : StationId, (s.byte (cardBase k + 0x04)).toNat = n.val →
            ((s.station n).setup.enabled = false → ends 0x05 .stationOff) ∧
            ((s.station n).setup.enabled = true → kind ∈ [0x01, 0x02, 0x03] →
              ((s.station n).fault = true → ends 0x05 .stationFault) ∧
              ((s.station n).fault = false → (s.station n).present = false → ends 0x05 .notFitted) ∧
              ((s.station n).fault = false → (s.station n).present = true → ¬s.rosterHas n tag →
                ends 0x05 .notInRoster))))))

/-- A valid engine card becomes TAKEN at the list's tail with a blank result and its intake number, and is not granted
while ENABLE reads 0 or no engine is free. -/
def Obligations.IntakeTakesAValidCard : Prop :=
  ∀ (s : State) (k : CardId) (n : StationId) (bytes : List Byte) (echo : Levels), Memory.wf s.mem = true →
    s.inReset = false → s.sweeper.visit = some (.intake k bytes) → s.port.touched[k.val] = false →
    s.bytes (cardBase k) 14 = bytes → s.byte (cardBase k + 0x01) = 0 →
    s.byte (cardBase k + 0x02) ∈ [0x01, 0x02, 0x03] → (s.byte (cardBase k + 0x04)).toNat = n.val →
    (s.station n).setup.enabled = true → (s.station n).fault = false → (s.station n).present = true →
    s.rosterHas n (s.byte (cardBase k + 0x05)) →
    (s.regs.enable = false ∨ ∀ e, (s.engine e).job ≠ none) →
    ∃ t, exec (.cardIntake echo) s = .next t ∧
      t = { s with
        pins := { s.pins with echo := echo }, mem := t.mem
        sweeper := { s.sweeper with counter := s.sweeper.counter + 1 }.visited k s.regs.enable
        waiting := s.waiting ++
          [{ card := k, priority := ⟨min (s.byte (cardBase k + 0x03)).toNat 3, by omega⟩, station := n }] } ∧
      t.cardStatus k = 0x02 ∧ t.half (cardBase k + 0x14) = s.sweeper.counter ∧
      t.byte (cardBase k + 0x16) = 0xFF ∧ t.byte (cardBase k + 0x17) = 0xFF ∧
      (∀ o, 0x10 ≤ o → o < 0x40 → (o < 0x14 ∨ 0x18 ≤ o) → t.byte (cardBase k + o) = 0x00) ∧
      ∀ a, outsideResult k a → t.byte a = s.byte a

/-- A valid engine card that finds the list empty, its station not held and an engine free is granted at once to the lowest
free engine: the card is RUNNING, station, engine and point are bound, the record holds the engine, and its question for
a frame is judged: it stays open, or is allowed at once, and then the frame's wake rises in the next tick, or a high
echo line is a fault. -/
def Obligations.IntakeGrantsAtOnce : Prop :=
  ∀ (s : State) (k : CardId) (n : StationId) (e : EngineId) (bytes : List Byte) (echo : Levels) (snap : Snapshot)
    (p : Profile),
    Memory.wf s.mem = true → s.inReset = false → s.sweeper.visit = some (.intake k bytes) →
    s.port.touched[k.val] = false → s.bytes (cardBase k) 14 = bytes → s.byte (cardBase k + 0x01) = 0 →
    s.byte (cardBase k + 0x02) ∈ [0x01, 0x02, 0x03] → (s.byte (cardBase k + 0x04)).toNat = n.val →
    (s.station n).setup.enabled = true → (s.station n).fault = false → (s.station n).present = true →
    s.rosterHas n (s.byte (cardBase k + 0x05)) → s.regs.enable = true → s.regs.snapshot = some snap →
    s.waiting = [] → s.holder n = none → (∀ e', s.point e' ≠ some n) → (s.engine e).job = none →
    (∀ e', e' < e → (s.engine e').job ≠ none) → s.watch e = none →
    let g := { Engine.reset with
      job := some { card := k, station := n }, header := s.readHeader k, stops := (s.engine e).stops }
    ∃ t, exec (.cardIntake echo) s = .next t ∧
      t = { s with
        pins := { s.pins with echo := echo }, mem := t.mem, engines := t.engines, holds := t.holds
        crosspoint := t.crosspoint, stations := t.stations, regs := s.flagRaised t n
        tracker := { s.tracker with questions := t.tracker.questions, watches := t.tracker.watches }
        sweeper := { s.sweeper with counter := s.sweeper.counter + 1 }.visited k s.regs.enable } ∧
      t.cardStatus k = 0x03 ∧ t.byte (cardBase k + 0x16) = BitVec.ofNat 8 e.val ∧
      t.half (cardBase k + 0x14) = s.sweeper.counter ∧
      t.holder n = some e ∧ t.point e = some n ∧ (∀ m, m ≠ n → t.holder m = s.holder m) ∧
      (∀ e', e' ≠ e → t.point e' = s.point e' ∧ t.engine e' = s.engine e' ∧ t.question e' = s.question e' ∧
        t.watch e' = s.watch e') ∧
      t.byte (stationBase n + 0x12) = BitVec.ofNat 8 e.val ∧ s.recordFollows t n ∧
      t.byte (stationBase n + 0x10) = 0x03 ∧
      t.station n = { s.station n with heldPermit := (s.station n).permit, lossMark := none } ∧
      (∀ m, m ≠ n → t.station m = s.station m) ∧ t.stim n = false ∧
      t.asked e g .frame n (s.station n).setup { timer := 0, suspended := false } snap p echo none ∧
      ((s.station n).setup.arcStart = (s.station n).setup.arcEnd → echo.getLsbD n.val = false →
        (t.engine e).phase = .reading ∧ (t.engine e).rising = true ∧
        (t.engine e).frame = Frame.start snap.bitCell.ticks (s.byte (cardBase k + 0x05))) ∧
      (∀ a, outsideResult k a → (∀ o, (eventOffset o = true ∨ o = 0x12) → a ≠ stationBase n + o) → t.byte a = s.byte a)

/-- The two fast kinds act at intake: a held station is BUSY; CLEAR_FAULT is DONE without a fault, clears one with ECHOn
low, and fails with ECHOn high; FORGET makes every slot UNVERIFIED with score 0 and keeps its identity. -/
def Obligations.IntakeRunsTheFastKinds : Prop :=
  ∀ (s : State) (k : CardId) (n : StationId) (bytes : List Byte) (echo : Levels), Memory.wf s.mem = true →
    s.inReset = false → s.sweeper.visit = some (.intake k bytes) → s.port.touched[k.val] = false →
    s.bytes (cardBase k) 14 = bytes → s.byte (cardBase k + 0x01) = 0 →
    (s.byte (cardBase k + 0x04)).toNat = n.val → (s.station n).setup.enabled = true →
    let kind := s.byte (cardBase k + 0x02)
    let ends := fun (status : Byte) (err : ErrorCode) (t : State) => exec (.cardIntake echo) s = .next t ∧
      t = { s with
        pins := { s.pins with echo := echo }, sweeper := s.sweeper.visited k s.regs.enable, mem := t.mem
        stations := t.stations, regs := t.regs } ∧
      s.endsBlank t k status err ∧ (∀ m, m ≠ n → t.station m = s.station m)
    let untouched := fun t : State => t.station n = s.station n ∧ t.regs = s.regs.cardEnded (s.cardNotify k) ∧
      ∀ a, outsideResult k a → t.byte a = s.byte a
    (kind = 0x10 ∨ kind = 0x11 → s.held n = true → ∃ t, ends 0x05 .stationBusy t ∧ untouched t) ∧
    (kind = 0x10 → s.held n = false → (s.station n).fault = false → ∃ t, ends 0x04 .none t ∧ untouched t) ∧
    (kind = 0x10 → s.held n = false → (s.station n).fault = true → echo.getLsbD n.val = true →
      ∃ t, ends 0x05 .faultPersists t ∧ untouched t) ∧
    (kind = 0x10 → s.held n = false → (s.station n).fault = true → echo.getLsbD n.val = false →
      ∃ t, ends 0x04 .none t ∧ s.recordFollows t n ∧ t.byte (stationBase n + 0x13) = 0x00 ∧
        t.station n = { s.station n with fault := false, recheck := none, permit := (t.station n).permit } ∧
        t.regs = (s.flagRaised t n).cardEnded (s.cardNotify k) ∧
        ∀ a, outsideResult k a → (∀ o, eventOffset o = true → a ≠ stationBase n + o) → t.byte a = s.byte a) ∧
    (kind = 0x11 → s.held n = false →
      ∃ t, ends 0x04 .none t ∧ s.recordFollows t n ∧
        (∀ p, t.readSlot n p = { s.readSlot n p with verdict := 0x00, score := 0 } ∧
          t.long (slotBase n p + 0x10) =
            if t.readSlot n p = s.readSlot n p then s.long (slotBase n p + 0x10) else s.tracker.cycles) ∧
        t.station n = { s.station n with permit := (t.station n).permit } ∧
        t.regs = (s.flagRaised t n).cardEnded (s.cardNotify k) ∧
        ∀ a, outsideResult k a → (∀ o, (eventOffset o = true ∨ slotOffset o = true) → a ≠ stationBase n + o) →
          t.byte a = s.byte a)

/-- The Pending List takes a station notice: the entries for the station, at a roster change only those whose tag
address no longer matches, leave the list and their cards end FAILED with the notice's code; the others keep their
places. That a notice waits until the list takes it is the model's form (log entry 15). -/
def Obligations.NoticeEndsPendingCards : Prop :=
  ∀ (s : State) (m : Notice) (rest : List Notice), Memory.wf s.mem = true → s.inReset = false →
    s.notices = m :: rest →
    let leaves := fun x : Entry => x.station = m.station ∧
      (m.event = .rosterChanged → ¬s.rosterHas m.station (s.byte (cardBase x.card + 0x05)))
    let code : Byte := match m.event with
      | .presenceLost => 0x09 | .disabled => 0x03 | .faulted => 0x04 | .rosterChanged => 0x06
    ∃ t, exec .pendingListNotice s = .next t ∧
      t = { s with
        notices := rest, waiting := t.waiting, mem := t.mem
        regs := { s.regs with causes := t.regs.causes } } ∧
      t.waiting.Sublist s.waiting ∧ (∀ x, x ∈ t.waiting ↔ x ∈ s.waiting ∧ ¬leaves x) ∧
      (∀ x ∈ s.waiting, leaves x →
        t.cardStatus x.card = 0x05 ∧ t.byte (cardBase x.card + 0x10) = code ∧
        t.long (cardBase x.card + 0x1E) = s.tracker.cycles) ∧
      ((∃ x ∈ s.waiting, leaves x ∧ s.cardNotify x.card = true) → t.regs.causes = s.regs.causes ||| 0b00001) ∧
      ((∀ x ∈ s.waiting, leaves x → s.cardNotify x.card = false) → t.regs.causes = s.regs.causes) ∧
      ∀ a, (∀ x ∈ s.waiting, leaves x → a ≠ cardBase x.card ∧ a ≠ cardBase x.card + 0x10 ∧
        (a < cardBase x.card + 0x1E ∨ cardBase x.card + 0x22 ≤ a)) → t.byte a = s.byte a

/-! ## Stations -/

/-- A presence sample: a level like the filtered one sets the count to 0, another counts one more and is due at the filter
value; stations whose handling does not run, and all before a configuration, take no sample. That the sample only marks
the change as due, for FIT or REMOVAL to take, is the model's choice (log entry 14). -/
def Obligations.PresenceSampleCounts : Prop :=
  ∀ (s : State) (pres : Levels), s.inReset = false → ∃ t, exec (.presenceSample pres) s = .next t ∧
    t = { s with pins := { s.pins with pres := pres }, stations := t.stations } ∧
    (s.regs.snapshot = none → t.stations = s.stations) ∧
    ∀ snap, s.regs.snapshot = some snap → ∀ n,
      ((s.station n).setup.enabled = false → t.station n = s.station n) ∧
      ((s.station n).setup.enabled = true → pres.getLsbD n.val = !(s.station n).present →
        t.station n = { s.station n with count := 0, due := false }) ∧
      ((s.station n).setup.enabled = true → pres.getLsbD n.val = (s.station n).present →
        t.station n = { s.station n with
          count := (s.station n).count + 1
          due := decide (snap.presenceFilter.toNat ≤ (s.station n).count + 1) })

/-- A fit: present reads 1, the record follows, and nothing is sent to engines or to the Pending List. A removal:
present reads 0, every slot reads reset, PERMITn is deasserted, the holder is sent a removal stop and the hold's
loss mark is set, and the Pending List is told. The held permit of a held station is DEDUCED (log entry 13). -/
def Obligations.FitAndRemoval : Prop :=
  (∀ (s : State) (n : StationId), Memory.wf s.mem = true → s.inReset = false → s.regs.snapshot ≠ none →
      (s.station n).setup.enabled = true → (s.station n).due = true → (s.station n).present = false →
      ∃ t, exec (.fit n) s = .next t ∧
        t = { s with mem := t.mem, stations := t.stations, regs := s.flagRaised t n } ∧
        t.station n = { s.station n with present := true, count := 0, due := false, permit := (t.station n).permit } ∧
        (∀ m, m ≠ n → t.station m = s.station m) ∧ t.byte (stationBase n + 0x11) = 0x01 ∧
        t.byte (stationBase n + 0x13) = s.byte (stationBase n + 0x13) ∧ s.recordFollows t n ∧
        ∀ a, (∀ o, eventOffset o = true → a ≠ stationBase n + o) → t.byte a = s.byte a) ∧
  (∀ (s : State) (n : StationId), Memory.wf s.mem = true → s.inReset = false → s.regs.snapshot ≠ none →
      (s.station n).setup.enabled = true → (s.station n).due = true → (s.station n).present = true →
      ∃ t, exec (.removal n) s = .next t ∧
        t = { s with
          mem := t.mem, stations := t.stations, engines := t.engines, regs := s.flagRaised t n
          notices := s.notices ++ [{ station := n, event := .presenceLost }] } ∧
        t.station n = { s.station n with
          present := false, count := 0, due := false, permit := false
          heldPermit := if s.held n then (s.station n).setup.advise else (s.station n).heldPermit
          lossMark := if s.held n ∧ (s.station n).lossMark = none then some .partRemoved else (s.station n).lossMark } ∧
        (∀ m, m ≠ n → t.station m = s.station m) ∧
        (∀ e, t.engine e = if s.holder n = some e then
            { s.engine e with stops := (s.engine e).stops ++ [.removal n] } else s.engine e) ∧
        t.byte (stationBase n + 0x11) = 0x00 ∧ t.byte (stationBase n + 0x13) = s.byte (stationBase n + 0x13) ∧
        s.recordFollows t n ∧
        (∀ p, t.readSlot n p = SlotFields.cleared ∧
          t.long (slotBase n p + 0x10) =
            if s.readSlot n p = SlotFields.cleared then s.long (slotBase n p + 0x10) else s.tracker.cycles) ∧
        ∀ a, (∀ o, (eventOffset o = true ∨ slotOffset o = true) → a ≠ stationBase n + o) → t.byte a = s.byte a)

/-- The Supervisor takes a fault report: with no fault in force the latch is set, the cause written, the slots reset,
PERMITn deasserted, the loss mark set, the recheck timer started under AUTO and the list told; with one in force
only the report is consumed. A recheck expiry: held, or with ECHOn high, the fault stands and the timer runs another
100 ms; else the fault is cleared and the timer stops. The held permit of a held station is DEDUCED (log
entry 13). -/
def Obligations.FaultsAreLatchedAndCleared : Prop :=
  (∀ (s : State) (e : EngineId) (cause : FaultCause) (j : Job), Memory.wf s.mem = true → s.inReset = false →
      (s.engine e).report = some cause → (s.engine e).job = some j →
      let n := j.station
      let taken := s.modEngine e fun g => { g with report := none }
      ((s.station n).fault = true → exec (.faultReport e) s = .next taken) ∧
      ((s.station n).fault = false → ∃ t, exec (.faultReport e) s = .next t ∧
        t = { taken with
          mem := t.mem, stations := t.stations, regs := s.flagRaised t n
          notices := s.notices ++ [{ station := n, event := .faulted }] } ∧
        t.station n = { s.station n with
          fault := true, permit := false
          recheck := if (s.station n).setup.auto then some 100 else none
          heldPermit := if s.held n then (s.station n).setup.advise else (s.station n).heldPermit
          lossMark := if s.held n ∧ (s.station n).lossMark = none then some .lineFault else (s.station n).lossMark } ∧
        (∀ m, m ≠ n → t.station m = s.station m) ∧
        t.byte (stationBase n + 0x13) = (match cause with | .echoStuck => 0x01 | .stimOverload => 0x02) ∧
        s.recordFollows t n ∧ (∀ p, t.readSlot n p = SlotFields.cleared) ∧
        ∀ a, (∀ o, (eventOffset o = true ∨ slotOffset o = true) → a ≠ stationBase n + o) → t.byte a = s.byte a)) ∧
  (∀ (s : State) (n : StationId) (echo : Levels), Memory.wf s.mem = true → s.inReset = false →
      s.regs.snapshot ≠ none → (s.station n).fault = true → (s.station n).recheck ≠ none →
      ∃ t, exec (.recheckExpiry n echo) s = .next t ∧ (∀ m, m ≠ n → t.station m = s.station m) ∧
        t = { s with
          pins := { s.pins with echo := echo }, stations := t.stations, mem := t.mem, regs := t.regs } ∧
        (s.held n = true ∨ echo.getLsbD n.val = true →
          t.mem = s.mem ∧ t.regs = s.regs ∧ t.station n = { s.station n with recheck := some 100 }) ∧
        (s.held n = false → echo.getLsbD n.val = false →
          t.station n = { s.station n with fault := false, recheck := none, permit := (t.station n).permit } ∧
          t.byte (stationBase n + 0x13) = 0x00 ∧ s.recordFollows t n ∧ t.regs = s.flagRaised t n ∧
          ∀ a, (∀ o, eventOffset o = true → a ≠ stationBase n + o) → t.byte a = s.byte a))

/-- Every step keeps every PERMITn as Table 3-4 gives it for the station's derived state, low while a reset lasts. Under
ENFORCE the permit of a station that is not held is given only while it is configured, enabled, present and not in FAULT,
with a roster count of at least 1 and GENUINE in every active slot; under ADVISE the slots do not count. -/
def Obligations.PermitFollowsTheSlots : Prop :=
  (∀ s t : State, s.permitsFollow → step s = .next t → t.permitsFollow) ∧
  (∀ (s : State) (n : StationId) (held : Bool),
    (permitOf (s.derived n false) false held = true ↔
      s.regs.snapshot ≠ none ∧ (s.station n).setup.enabled = true ∧ (s.station n).fault = false ∧
      (s.station n).present = true ∧ 1 ≤ (s.station n).setup.rosterCount.val ∧
      ∀ p : SlotId, (s.station n).setup.activeAt p = true → s.byte (slotBase n p) = 0x01) ∧
    (permitOf (s.derived n false) true held = true ↔
      s.regs.snapshot ≠ none ∧ (s.station n).setup.enabled = true ∧ (s.station n).fault = false ∧
      (s.station n).present = true))

/-! ## Machine Cycle Tracker -/

/-- A level of MCLK shorter than 15 ns, or the one that stands, is no transition; one of 20 ns or more is taken, and
between the two it may or may not be. A transition against the selected direction, or before a configuration, it changes nothing but the pin; a
selected edge advances a valid angle, at PPC - 1 it loses the angle, counts a cycle and sets INDEX_MISSED; it restarts the
stop timer and clears STOPPED; the machine status record follows, and MACHINE_EVENT is set when STOPPED is cleared or
INDEX_MISSED comes to be set. -/
def Obligations.MclkEdgeMovesTheAngle : Prop :=
  ∀ (s : State) (rising : Bool) (echo : Levels) (stood : Nat), Memory.wf s.mem = true → s.inReset = false →
    let untaken := { s with pins := { s.pins with echo := echo } }
    ∃ t, exec (.mclkEdge rising echo stood) s = .next t ∧
      (stood < 15 → t = untaken) ∧
      (15 ≤ stood → stood < 20 → t = { untaken with freeReads := s.freeReads + 1 } ∨
        exec (.mclkEdge rising echo) { s with freeReads := s.freeReads + 1 } = .next t) ∧
      (20 ≤ stood → s.pins.mclk = rising → t = untaken) ∧
      (20 ≤ stood →
        (s.regs.snapshot = none ∨ ∃ snap, s.regs.snapshot = some snap ∧ rising = snap.mclkFalling) →
        t = { s with pins := { s.pins with mclk := rising, echo := echo } }) ∧
      (∀ snap, 20 ≤ stood → s.pins.mclk ≠ rising → s.regs.snapshot = some snap → rising = !snap.mclkFalling →
        t = { s with
          pins := { s.pins with mclk := rising, echo := echo }, tracker := t.tracker, mem := t.mem
          engines := t.engines, regs := { s.regs with causes := t.regs.causes } } ∧
        t.tracker.stopTimer = 0 ∧ t.tracker.stopped = false ∧
        (s.tracker.valid = false →
          t.tracker.angle = s.tracker.angle ∧ t.tracker.valid = false ∧ t.tracker.cycles = s.tracker.cycles ∧
          t.tracker.indexMissed = s.tracker.indexMissed) ∧
        (s.tracker.valid = true → s.tracker.angle.toNat + 1 < snap.ppc.toNat →
          t.tracker.angle = s.tracker.angle + 1 ∧ t.tracker.valid = true ∧ t.tracker.cycles = s.tracker.cycles ∧
          t.tracker.indexMissed = s.tracker.indexMissed) ∧
        (s.tracker.valid = true → snap.ppc.toNat ≤ s.tracker.angle.toNat + 1 →
          t.tracker.angle = 0 ∧ t.tracker.valid = false ∧ t.tracker.cycles = s.tracker.cycles + 1 ∧
          t.tracker.indexMissed = true) ∧
        t.regs.causes = (if s.tracker.stopped = true ∨ (t.tracker.indexMissed = true ∧ s.tracker.indexMissed = false)
          then s.regs.causes ||| 0b10000 else s.regs.causes) ∧
        t.half 0x80 = t.tracker.angle ∧ t.byte 0x82 = flagByte t.tracker.valid ∧ t.byte 0x83 = 0 ∧
        t.byte 0x84 = flagByte t.tracker.indexMissed ∧ t.long 0x88 = t.tracker.cycles ∧
        (∀ a, (a < 0x80 ∨ a = 0x85 ∨ a = 0x86 ∨ a = 0x87 ∨ 0x8C ≤ a) → t.byte a = s.byte a) ∧
        ∀ e, s.question e = none → s.watch e = none →
          t.engine e = s.engine e ∧ t.question e = none ∧ t.watch e = none)

/-- A level of MIDX is taken as one of MCLK is. A transition against the selected direction, or before a configuration,
changes nothing but the pin; a selected edge brings the angle to 0 and counts a cycle; at PPC - 1 it clears INDEX_MISSED,
elsewhere in a valid turn it sets it, and an invalid angle becomes valid; STOPPED and the stop timer are not touched. -/
def Obligations.MidxEdgeChecksTheAngle : Prop :=
  ∀ (s : State) (rising : Bool) (echo : Levels) (stood : Nat), Memory.wf s.mem = true → s.inReset = false →
    let untaken := { s with pins := { s.pins with echo := echo } }
    ∃ t, exec (.midxEdge rising echo stood) s = .next t ∧
      (stood < 15 → t = untaken) ∧
      (15 ≤ stood → stood < 20 → t = { untaken with freeReads := s.freeReads + 1 } ∨
        exec (.midxEdge rising echo) { s with freeReads := s.freeReads + 1 } = .next t) ∧
      (20 ≤ stood → s.pins.midx = rising → t = untaken) ∧
      (20 ≤ stood →
        (s.regs.snapshot = none ∨ ∃ snap, s.regs.snapshot = some snap ∧ rising = snap.midxFalling) →
        t = { s with pins := { s.pins with midx := rising, echo := echo } }) ∧
      (∀ snap, 20 ≤ stood → s.pins.midx ≠ rising → s.regs.snapshot = some snap → rising = !snap.midxFalling →
        t = { s with
          pins := { s.pins with midx := rising, echo := echo }, tracker := t.tracker, mem := t.mem
          engines := t.engines, regs := { s.regs with causes := t.regs.causes } } ∧
        t.tracker.angle = 0 ∧ t.tracker.valid = true ∧ t.tracker.cycles = s.tracker.cycles + 1 ∧
        t.tracker.stopped = s.tracker.stopped ∧ t.tracker.stopTimer = s.tracker.stopTimer ∧
        t.tracker.indexMissed = (if s.tracker.valid = false then s.tracker.indexMissed
          else decide (s.tracker.angle.toNat ≠ snap.ppc.toNat - 1)) ∧
        t.regs.causes = (if t.tracker.indexMissed = true ∧ s.tracker.indexMissed = false
          then s.regs.causes ||| 0b10000 else s.regs.causes) ∧
        t.half 0x80 = 0 ∧ t.byte 0x82 = 1 ∧ t.byte 0x83 = flagByte s.tracker.stopped ∧
        t.byte 0x84 = flagByte t.tracker.indexMissed ∧ t.long 0x88 = t.tracker.cycles ∧
        (∀ a, (a < 0x80 ∨ a = 0x85 ∨ a = 0x86 ∨ a = 0x87 ∨ 0x8C ≤ a) → t.byte a = s.byte a) ∧
        ∀ e, s.question e = none → s.watch e = none →
          t.engine e = s.engine e ∧ t.question e = none ∧ t.watch e = none)

/-- The stop timeout: STOPPED and MACHINE_EVENT are set, the record follows, and no watch is disturbed by it. The gate limit
expires: the question ends and GATE_TIMEOUT is gathered; a frame's card is INCONCLUSIVE, a round's goes to the scoring
pass with Nref(e) of the snapshot. -/
def Obligations.TimersOfTheTracker : Prop :=
  (∀ (s : State) (echo : Levels) (snap : Snapshot), Memory.wf s.mem = true → s.inReset = false →
      s.regs.snapshot = some snap → s.tracker.stopped = false →
      ∃ t, exec (.stopTimeout echo) s = .next t ∧
        t = { s with
          pins := { s.pins with echo := echo }, mem := t.mem, engines := t.engines
          regs := { s.regs with causes := s.regs.causes ||| 0b10000 }
          tracker := { s.tracker with
            stopped := true, stopTimer := t.tracker.stopTimer, questions := t.tracker.questions
            watches := t.tracker.watches } } ∧
        s.tracker.stopTimer ≤ t.tracker.stopTimer ∧ snap.stopTimeout.toNat ≤ t.tracker.stopTimer ∧
        t.byte 0x83 = 1 ∧ t.half 0x80 = s.tracker.angle ∧ t.byte 0x82 = flagByte s.tracker.valid ∧
        t.byte 0x84 = flagByte s.tracker.indexMissed ∧ t.long 0x88 = s.tracker.cycles ∧
        (∀ a, (a < 0x80 ∨ a = 0x85 ∨ a = 0x86 ∨ a = 0x87 ∨ 0x8C ≤ a) → t.byte a = s.byte a) ∧
        ∀ e, s.question e = none → t.engine e = s.engine e ∧ t.question e = none ∧ t.watch e = s.watch e) ∧
  (∀ (s : State) (e : EngineId) (q : Question) (snap : Snapshot), s.inReset = false → s.regs.enable = true →
      s.regs.snapshot = some snap → s.question e = some q → q.suspended = false →
      (s.engine e).stopAtHoldBegin = false →
      ((s.engine e).phase = .gating .frame → exec (.gateLimitExpiry e) s =
        .next ((s.setQuestion e none).modEngine e fun g => { g with
          phase := .writing .result, flags := g.flags ||| 0x8000
          figures := { g.figures with verdict := .inconclusive } })) ∧
      ((s.engine e).phase = .gating .round → exec (.gateLimitExpiry e) s =
        .next ((s.setQuestion e none).modEngine e fun g => { g with
          phase := .computing .scoring, flags := g.flags ||| 0x8000, ending := some .gateLimit
          nref := snap.nref[e.val] })))

/-- The grounds of a gating question, in their order: equal clamped arcs; the angle within the arc, walked forward from
its start to its end modulo PPC; the machine stopped where the snapshot takes that as quiet. At an encoder edge or a
stop timeout every open question is judged afresh: with no ground it stays open; with one it ends, its watch opens
unless the whole cycle is allowed, and the work starts, or a high echo line is a fault. The premise on a stop of
hold begin is DEDUCED (log entry 11). -/
def Obligations.QuestionsAndTheirGrounds : Prop :=
  (∀ (c : Setup) (t : Tracker) (snap : Snapshot), 1 ≤ snap.ppc.toNat → t.angle.toNat < snap.ppc.toNat →
      let ppc := snap.ppc.toNat
      let a := min c.arcStart.toNat (ppc - 1)
      let b := min c.arcEnd.toNat (ppc - 1)
      let inside := (t.angle.toNat + ppc - a) % ppc < (b + ppc - a) % ppc
      (a = b → c.groundOn t snap = some .wholeCycle) ∧
      (a ≠ b → t.valid = true → inside → c.groundOn t snap = some .arc) ∧
      (a ≠ b → (t.valid = false ∨ ¬inside) →
        c.groundOn t snap = if t.stopped = true ∧ snap.quietWhenStopped = true then some .stopped else none)) ∧
  (∀ (s : State) (c : Instr) (echo : Levels) (e : EngineId) (w : Work) (snap : Snapshot) (j : Job) (q : Question)
      (p : Profile),
      s.inReset = false → s.regs.snapshot = some snap →
      (c = .mclkEdge (!snap.mclkFalling) echo ∧ s.pins.mclk = snap.mclkFalling ∨
        c = .midxEdge (!snap.midxFalling) echo ∧ s.pins.midx = snap.midxFalling ∨
        (c = .stopTimeout echo ∧ s.tracker.stopped = false)) →
      (s.engine e).phase = .gating w → (s.engine e).job = some j → s.question e = some q → q.suspended = false →
      (s.engine e).stopAtHoldBegin = false → (w = .round → (s.engine e).profile = some p) → s.watch e = none →
      ∃ t, exec c s = .next t ∧
        ((s.station j.station).setup.groundOn t.tracker snap = none →
          t.engine e = s.engine e ∧ t.question e = some q ∧ t.watch e = none) ∧
        ∀ g, (s.station j.station).setup.groundOn t.tracker snap = some g →
          t.question e = none ∧
          (echo.getLsbD j.station.val = false →
            t.watch e = (s.station j.station).setup.watchOn snap j.station g ∧
            t.engine e = (s.engine e).atWork w snap p) ∧
          (echo.getLsbD j.station.val = true →
            t.watch e = none ∧ t.engine e = (s.engine e).faulted .echoStuck))

/-- An encoder edge disturbs an open watch: on STOPPED any edge does, on ARC one that leaves the angle invalid or outside
the arc; the watch and the frame or round in flight are marked. Work under an undisturbed watch goes on as before. -/
def Obligations.EdgesDisturbTheWatch : Prop :=
  ∀ (s : State) (c : Instr) (echo : Levels) (e : EngineId) (snap : Snapshot) (w : Watch),
    s.inReset = false → s.regs.snapshot = some snap →
    (c = .mclkEdge (!snap.mclkFalling) echo ∧ s.pins.mclk = snap.mclkFalling ∨
      c = .midxEdge (!snap.midxFalling) echo ∧ s.pins.midx = snap.midxFalling) →
    (s.engine e).phase ∈ [.reading, .pulsing, .listening] → s.watch e = some w → w.ground ≠ .wholeCycle →
    ∃ t, exec c s = .next t ∧
      let disturbs := w.disturbed = false ∧
        (w.ground = .arc → ¬(t.tracker.valid = true ∧ inArc t.tracker.angle w.arcStart w.arcEnd = true))
      (disturbs → t.watch e = some { w with disturbed := true } ∧
        ((s.engine e).phase = .reading →
          t.engine e = { s.engine e with frame := { (s.engine e).frame with disturbed := true } }) ∧
        ((s.engine e).phase ≠ .reading →
          t.engine e = { s.engine e with capture := { (s.engine e).capture with disturbed := true } })) ∧
      (¬disturbs → t.watch e = some w ∧ t.engine e = s.engine e)

/-! ## Rounds -/

/-- The pulse falls: the engine listens. A driven level of the frame ends and the next begins: wake high, wake low, eight
command bits of a high and a low level each, then the wait for the answer. A stop taken while the level was high stops
the engine here. Where the command comes before the counter has come to the level's end, the part's clock has come there:
the model's choice (log entry 2). -/
def Obligations.HighLevelsEnd : Prop :=
  (∀ (s : State) (e : EngineId), s.inReset = false → (s.engine e).phase = .pulsing →
      let early := (s.engine e).rising = true ∨ (s.engine e).capture.counter < (s.engine e).capture.weff
      ∃ t, exec (.pulseFall e) s = .next t ∧ t.refStim e = false ∧
        ((s.engine e).stopOutcome = none → t = s.modEngine e fun g => { g with
          phase := .listening, rising := false
          echoBefore := if early then s.echoOf e else g.echoBefore
          refBefore := if early then s.refHigh e else g.refBefore
          capture := { g.capture with counter := max g.capture.counter g.capture.weff } }) ∧
        ((s.engine e).stopOutcome ≠ none → s.engineLeft t e (s.engine e).stoppedNow)) ∧
  (∀ (s : State) (e : EngineId) (p next : FramePhase) (ticks : Nat), s.inReset = false →
      (s.engine e).phase = .reading → (s.engine e).frame.phase = some p →
      let f := (s.engine e).frame
      ((p = .wakeHigh ∧ next = .wakeLow ∧ ticks = 8 * f.cell) ∨
        (p = .wakeLow ∧ next = .command 0 true ∧ ticks = 2 * f.cell) ∨
        (∃ b, p = .command b true ∧ next = .command b false ∧
          ticks = if f.commandByte.getLsbD (7 - b.val) then 3 * f.cell else f.cell) ∨
        (∃ b : Fin 8, b.val < 7 ∧ p = .command b false ∧ next = .command (b + 1) true ∧ ticks = f.cell) ∨
        (p = .command 7 false ∧ next = .answerWait ∧ ticks = f.cell)) →
      let early := (s.engine e).rising = true ∨ f.level < ticks
      ∃ t, exec (.frameLevelEnd e) s = .next t ∧
        ((s.engine e).stopOutcome = none → t = s.modEngine e fun g => { g with
          rising := false
          echoBefore := if early then s.echoOf e else g.echoBefore
          refBefore := if early then s.refHigh e else g.refBefore
          frame := { g.frame with phase := some next, level := 0, listen := 0 } }) ∧
        ((s.engine e).stopOutcome ≠ none → s.engineLeft t e (s.engine e).stoppedNow))

/-- Transitions in the open window. One is an edge if it rises and the line read low in the tick before. Edges at ticks 0 to
2 are blind; an echo edge no more than 3 ticks after the last captured one is merged, the first eight others are
captured, and a ninth sets the overrun mark; of the reference loop the first at tick 3 or later is kept. The line takes
its level, and outside READING and an open window nothing else changes. That a transition at a later tick than the
window counter's brings the counter there is the model's choice (log entry 2). -/
def Obligations.EdgesInTheWindow : Prop :=
  (∀ (s : State) (e : EngineId) (j : Job) (tick : Half) (rising : Bool), s.inReset = false →
      (s.engine e).job = some j →
      let line := (1 : Levels) <<< j.station.val
      let levelled := fun t : State => ({ t with pins := { s.pins with
        echo := if rising then s.pins.echo ||| line else s.pins.echo &&& ~~~line } } : State)
      ((s.engine e).phase ∉ [.reading, .pulsing, .listening] →
        exec (.echoEdge e ⟨tick, rising⟩) s = .next (levelled s)) ∧
      ((s.engine e).phase = .pulsing ∨ (s.engine e).phase = .listening → (s.engine e).stopOutcome = none →
        (s.engine e).capture.running = true → (s.engine e).capture.counter ≤ tick.toNat →
        tick.toNat < (s.engine e).capture.window → (s.engine e).capture.latch = none →
        let c := (s.engine e).capture
        let later := (s.engine e).rising = true ∨ c.counter < tick.toNat
        let before := if later then s.echoHigh j.station else (s.engine e).echoBefore
        let edge := rising = true ∧ before = false
        let merged := ∃ l, c.last = some l ∧ tick.toNat ≤ l + 3
        ∃ t, exec (.echoEdge e ⟨tick, rising⟩) s = .next t ∧
          t = levelled (s.modEngine e fun g => { g with
            rising := false, echoBefore := before, refBefore := if later then s.refHigh e else g.refBefore
            capture := { g.capture with
              counter := tick.toNat, list := (t.engine e).capture.list, last := (t.engine e).capture.last
              overrun := (t.engine e).capture.overrun } }) ∧
          (¬edge ∨ tick.toNat < 3 ∨ merged → (t.engine e).capture.list = c.list ∧
            (t.engine e).capture.last = c.last ∧ (t.engine e).capture.overrun = c.overrun) ∧
          (edge → 3 ≤ tick.toNat → ¬merged → c.list.length < 8 →
            (t.engine e).capture.list = c.list ++ [tick.toNat] ∧ (t.engine e).capture.last = some tick.toNat ∧
            (t.engine e).capture.overrun = c.overrun) ∧
          (edge → 3 ≤ tick.toNat → ¬merged → 8 ≤ c.list.length → (t.engine e).capture.list = c.list ∧
            (t.engine e).capture.last = c.last ∧ (t.engine e).capture.overrun = true))) ∧
  (∀ (s : State) (e : EngineId) (tick : Half) (rising : Bool), s.inReset = false →
      let line := (1 : BitVec 4) <<< e.val
      let levelled := fun t : State => ({ t with pins := { s.pins with
        refEcho := if rising then s.pins.refEcho ||| line else s.pins.refEcho &&& ~~~line } } : State)
      ((s.engine e).phase ∉ [.pulsing, .listening] → exec (.referenceEdge e ⟨tick, rising⟩) s = .next (levelled s)) ∧
      ((s.engine e).phase = .pulsing ∨ (s.engine e).phase = .listening → (s.engine e).stopOutcome = none →
        (s.engine e).capture.running = true → (s.engine e).capture.counter ≤ tick.toNat →
        tick.toNat < (s.engine e).capture.window →
        let later := (s.engine e).rising = true ∨ (s.engine e).capture.counter < tick.toNat
        let before := if later then s.refHigh e else (s.engine e).refBefore
        exec (.referenceEdge e ⟨tick, rising⟩) s = .next (levelled (s.modEngine e fun g => { g with
          rising := false, echoBefore := if later then s.echoOf e else g.echoBefore, refBefore := before
          capture := { g.capture with
            counter := tick.toNat
            reference := if rising = true ∧ before = false ∧ 3 ≤ tick.toNat ∧ g.capture.reference = none then
              some tick.toNat else g.capture.reference } }))))

/-- The window closes: the round is judged by the first test that fails, attempts advances, a valid round's figures are
added, the watch closes, and collection ends or the settle gap begins. The model's choice (log entry 25): the stage is
emptied here. -/
def Obligations.WindowCloseJudgesTheRound : Prop :=
  ∀ (s : State) (e : EngineId) (p : Profile) (snap : Snapshot) (target : Nat), s.inReset = false →
    (s.engine e).phase = .listening → (s.engine e).profile = some p → (s.engine e).target = some target →
    s.regs.snapshot = some snap →
    let g := s.engine e
    let c := g.capture
    let cause : Option Half :=
      if c.disturbed = true then some 0x0010
      else if c.overrun = true then some 0x0008
      else if c.reference = none then some 0x0004
      else if c.list.length ≠ p.n.toNat then some 0x0002
      else none
    ∃ t, exec (.windowClose e) s = .next t ∧ t.watch e = none ∧
      t = { s with engines := t.engines, tracker := { s.tracker with watches := t.tracker.watches } } ∧
      (∀ e', e' ≠ e → t.engine e' = s.engine e' ∧ t.watch e' = s.watch e') ∧
      t.engine e = { g with
        phase := (t.engine e).phase, capture := Capture.reset, rounds := (t.engine e).rounds
        flags := g.flags ||| cause.getD 0, ending := (t.engine e).ending, settle := (t.engine e).settle
        nref := (t.engine e).nref } ∧
      (t.engine e).rounds.attempts = g.rounds.attempts + 1 ∧
      (cause ≠ none → (t.engine e).rounds = { g.rounds with attempts := g.rounds.attempts + 1 }) ∧
      (cause = none → (t.engine e).rounds.valid = g.rounds.valid + 1 ∧
        (t.engine e).rounds.refSum = g.rounds.refSum + c.reference.getD 0 ∧
        (g.rounds.valid = 0 → (t.engine e).rounds.positions =
          c.list.map fun x => { sum := x, largest := x, smallest := x }) ∧
        (g.rounds.valid ≠ 0 → (t.engine e).rounds.positions =
          List.zipWith (fun q x => { sum := q.sum + x, largest := max q.largest x, smallest := min q.smallest x })
            g.rounds.positions c.list)) ∧
      let v := (t.engine e).rounds.valid
      let a := (t.engine e).rounds.attempts
      let collected := v = target ∨ a = 2 * target
      ((t.engine e).ending =
        if v = target then some .roundsMet else if a = 2 * target then some .attemptsSpent else g.ending) ∧
      (t.engine e).phase = (if collected then (if s.regs.enable then .computing .scoring else .held (.computing .scoring))
        else if s.regs.enable then .settling else .held .settling) ∧
      (t.engine e).nref = (if collected ∧ s.regs.enable = true then snap.nref[e.val] else g.nref) ∧
      (t.engine e).settle = (if ¬collected ∧ s.regs.enable = true then 0 else g.settle)

/-- The settle gap ends: while ENABLE reads 0 the engine is held; else it asks for its next round, and with a ground the
pulse rises in the next tick with its effective width, the least of width, window - 1 and 2C - 1, or a high echo line is
a fault. -/
def Obligations.SettleEndAsksForTheNextRound : Prop :=
  (∀ (p : Profile) (cell : Nat),
    p.effectiveWidth cell = min p.width.toNat (min (p.window.toNat - 1) (2 * cell - 1))) ∧
  ∀ (s : State) (e : EngineId) (echo : Levels) (p : Profile) (snap : Snapshot) (j : Job), s.inReset = false →
    (s.engine e).phase = .settling → (s.engine e).profile = some p → (s.engine e).job = some j →
    (s.engine e).stopAtHoldBegin = false → s.regs.snapshot = some snap → s.watch e = none →
    ∃ t, exec (.settleEnd e echo) s = .next t ∧ t.pins = { s.pins with echo := echo } ∧
      (∀ e', e' ≠ e → t.engine e' = s.engine e' ∧ t.question e' = s.question e' ∧ t.watch e' = s.watch e') ∧
      t = { s with
        pins := t.pins, engines := t.engines
        tracker := { s.tracker with questions := t.tracker.questions, watches := t.tracker.watches } } ∧
      (s.regs.enable = false →
        t.engine e = { s.engine e with phase := .held (.gating .round) } ∧ t.question e = s.question e ∧
        t.watch e = none) ∧
      (s.regs.enable = true → (s.station j.station).setup.groundOn s.tracker snap = none →
        t.engine e = { s.engine e with phase := .gating .round } ∧
        t.question e = some { timer := 0, suspended := false } ∧ t.watch e = none) ∧
      (s.regs.enable = true → ∀ g, (s.station j.station).setup.groundOn s.tracker snap = some g →
        t.question e = none ∧
        (echo.getLsbD j.station.val = false →
          t.watch e = (s.station j.station).setup.watchOn snap j.station g ∧
          t.engine e = (s.engine e).atWork .round snap p) ∧
        (echo.getLsbD j.station.val = true →
          t.watch e = none ∧ t.engine e = (s.engine e).faulted .echoStuck))

/-! ## Tag frames -/

/-- The decoder decides without a complete answer: no edge in 16 bit cells, a high level of 4, or a gap of 4; the
attempt's tail begins with its cause. An answer bit rises in the answer wait before 16 bit cells or in a gap shorter
than 4, after a tick that read low, and its width is counted from 1. It is a 1 at two bit cells or more, else a 0;
before bit 112 the gap begins; the 112th bit completes fourteen bytes, judged by their CRC first and by the address echo
second, and the tail begins in the next tick. Other transitions only give the line its level. The CRC is that of
0x1021 from 0xFFFF, bit by bit. That both rows take the fall of bit 112, and that a command may come before its
counter, is the model's choice (log entries 2, 17). -/
def Obligations.DecoderFollowsTheAnswer : Prop :=
  (crcOf [] = 0xFFFF ∧ ∀ (bs : List Byte) (b : Byte), crcOf (bs ++ [b]) = [7, 6, 5, 4, 3, 2, 1, 0].foldl
      (fun (reg : Half) (i : Nat) => if reg.getLsbD 15 = b.getLsbD i then reg <<< 1 else (reg <<< 1) ^^^ 0x1021) (crcOf bs)) ∧
  (∀ (s : State) (e : EngineId), s.inReset = false → (s.engine e).phase = .reading →
      let f := (s.engine e).frame
      let before := (s.engine e).echoBefore
      let decided := fun (cause : FrameCause) (listen : Nat) (low : Option Nat) =>
        s.modEngine e fun g => { g with frame := { g.frame with
          phase := some .tail, decision := some (.failed cause), listen := listen, low := low } }
      (f.phase = some .answerWait → exec (.noAnswer e) s = .next (decided .noAnswer (16 * f.cell) none)) ∧
      (f.phase = some .answerHigh → exec (.codingError e) s = .next
        (decided .codingError (f.listen + (4 * f.cell - if before then f.width else 0)) (some 0))) ∧
      (f.phase = some .answerGap → exec (.truncated e) s = .next
        (decided .truncated (f.listen + (4 * f.cell - if before then 0 else f.gap)) (some 0)))) ∧
  (∀ (s : State) (e : EngineId) (count : Nat) (j : Job), s.inReset = false → (s.engine e).phase = .reading →
      (s.engine e).job = some j →
      let f := (s.engine e).frame
      let before := (s.engine e).echoBefore
      let now := s.echoHigh j.station
      let line := (1 : Levels) <<< j.station.val
      let rises := fun t : State => ({ t with pins := { s.pins with echo := s.pins.echo ||| line } } : State)
      let falls := fun t : State => ({ t with pins := { s.pins with echo := s.pins.echo &&& ~~~line } } : State)
      let risen := fun listen : Nat => s.modEngine e fun g => { g with
        echoBefore := false
        frame := { g.frame with phase := some .answerHigh, listen := listen, width := 1 } }
      let left := fun g : Frame => s.modEngine e fun x => { x with echoBefore := true, frame := g }
      let gapPast := if before then 0 else f.gap
      let highPast := if before then f.width else 0
      (f.phase = some .answerWait → f.listen ≤ count → count < 16 * f.cell →
        (if f.listen = count then before else now) = false →
        exec (.answerBitRise e count) s = .next (rises (risen count))) ∧
      (f.phase = some .answerGap → 1 ≤ count → gapPast ≤ count → count < 4 * f.cell →
        (if gapPast = count then before else now) = false →
        exec (.answerBitRise e count) s = .next (rises (risen (f.listen + (count - gapPast))))) ∧
      (f.phase ≠ some .answerWait ∧ f.phase ≠ some .answerGap ∨
          f.phase = some .answerWait ∧ (if f.listen = count then before else now) = true →
        exec (.answerBitRise e count) s = .next (rises s)) ∧
      (f.phase ≠ some .answerHigh → exec (.answerBitFall e count) s = .next (falls s)) ∧
      (f.phase = some .answerHigh → 1 ≤ count → highPast ≤ count → count < 4 * f.cell →
        let answer := f.answer ++ [decide (2 * f.cell ≤ count)]
        let record := bytesFromBits 14 answer
        let listen := f.listen + (count - highPast)
        let ended := left { f with
          phase := some .tail, answer := answer, width := count, listen := listen, low := none
          crc := crcOf (record.take 12)
          decision := some (
            if crcOf (record.take 12) ≠ tagCrc record then .failed .crcError
            else if tagAddressEcho record ≠ (s.engine e).header.tagAddress then .failed .addressError
            else .good) }
        (f.answer.length ≠ 111 → exec (.answerBitFall e count) s = .next (falls (left { f with
          phase := some .answerGap, answer := answer, width := count, gap := 1, listen := listen }))) ∧
        (f.answer.length = 111 → exec (.answerComplete e count) s = .next (falls ended) ∧
          exec (.answerBitFall e count) s = .next (falls ended))))

/-- The tail ends and the attempt counts, the disturbed mark first. A GOOD record sends IDENTIFY to WRITING, a serial that
differs from the expected one fails the card, and any other card looks its profile up (on a fixed shelf as
CacheIsAskedFirst says). A failed attempt before the third asks for another frame, and the question is judged at once; the
third makes the card UNREADABLE with the flag of its cause. Held where ENABLE reads 0. The model's choice (log entry 25):
the decoder is emptied here. -/
def Obligations.TailEndJudgesTheAttempt : Prop :=
  (∀ (s : State) (e : EngineId) (echo : Levels), s.inReset = false → (s.engine e).phase = .reading →
      (s.engine e).frame.phase = some .tail → (s.engine e).frame.disturbed = false →
      (s.engine e).frame.decision = some .good →
      let g := s.engine e
      let record := bytesFromBits 14 g.frame.answer
      let mismatch := g.header.flags.getLsbD 2 = true ∧ longIn record 4 ≠ g.header.serial
      let writing : Phase := if s.regs.enable then .writing .result else .held .writing
      (s.regs.shelfFixed = false ∨ s.regs.enable = false ∨ g.header.kind = 0x01 ∨ mismatch) →
      ∃ t, exec (.tailEnd e echo) s = .next t ∧ t.watch e = none ∧
        t = { s with
          pins := { s.pins with echo := echo }, engines := t.engines
          tracker := { s.tracker with watches := t.tracker.watches } } ∧
        (∀ e', e' ≠ e → t.engine e' = s.engine e' ∧ t.watch e' = s.watch e') ∧
        t.engine e = { g with
          frame := Frame.reset, frameAttempts := g.frameAttempts + 1, tagRecord := some record
          phase := (t.engine e).phase, figures := (t.engine e).figures, lookup := (t.engine e).lookup } ∧
        (g.header.kind = 0x01 →
          (t.engine e).phase = writing ∧ (t.engine e).figures = g.figures ∧ (t.engine e).lookup = g.lookup) ∧
        (g.header.kind ≠ 0x01 → mismatch → (t.engine e).phase = writing ∧ (t.engine e).lookup = g.lookup ∧
          (t.engine e).figures = { g.figures with error := .serialMismatch }) ∧
        (g.header.kind ≠ 0x01 → ¬mismatch → (t.engine e).figures = g.figures ∧
          (s.regs.enable = true → (t.engine e).phase = .computing .lookup ∧ (t.engine e).lookup = Lookup.reset) ∧
          (s.regs.enable = false →
            (t.engine e).phase = .held (.computing .lookup) ∧ (t.engine e).lookup = g.lookup))) ∧
  (∀ (s : State) (e : EngineId) (echo : Levels) (cause : FrameCause), s.inReset = false →
      (s.engine e).phase = .reading → (s.engine e).frame.phase = some .tail →
      ((s.engine e).frame.disturbed = true ∧ cause = .disturbed ∨
        (s.engine e).frame.disturbed = false ∧ (s.engine e).frame.decision = some (.failed cause)) →
      let g := s.engine e
      let flag : Half := match cause with
        | .noAnswer => 0x0020 | .codingError => 0x0040 | .truncated => 0x0080 | .crcError => 0x0100
        | .addressError => 0x0200 | .disturbed => 0x0010
      let counted := fun (p : Phase) (extra : Half) (v : Verdict) => { g with
        frame := Frame.reset, frameAttempts := g.frameAttempts + 1, lastFailure := some cause, phase := p
        flags := g.flags ||| (if cause = .disturbed then 0x0010 else 0) ||| extra
        figures := { g.figures with verdict := v } }
      ∃ t, exec (.tailEnd e echo) s = .next t ∧
        (∀ e', e' ≠ e → t.engine e' = s.engine e' ∧ t.question e' = s.question e' ∧ t.watch e' = s.watch e') ∧
        t = { s with
          pins := { s.pins with echo := echo }, engines := t.engines
          tracker := { s.tracker with questions := t.tracker.questions, watches := t.tracker.watches } } ∧
        (2 ≤ g.frameAttempts → t.watch e = none ∧ t.question e = s.question e ∧
          t.engine e =
            counted (if s.regs.enable then .writing .result else .held .writing) flag .unreadable) ∧
        (g.frameAttempts < 2 → s.regs.enable = false → t.watch e = none ∧ t.question e = s.question e ∧
          t.engine e = counted (.held (.gating .frame)) 0 g.figures.verdict) ∧
        (g.frameAttempts < 2 → s.regs.enable = true → g.stopAtHoldBegin = false →
          ∀ j snap p, g.job = some j → s.regs.snapshot = some snap →
            t.asked e (counted (.gating .frame) 0 g.figures.verdict) .frame j.station (s.station j.station).setup
              { timer := 0, suspended := false } snap p echo none))

/-! ## Stops -/

/-- A stopped engine ends its card: the result fields gathered, the stamp, CANCELLED for a cancel and FAILED with the code
of the loss else, S, W and the intervals left, no delivery; then it releases its station. That the idle engine is empty is
the model's choice (log entry 27). -/
def Obligations.StoppedCardEnds : Prop :=
  ∀ (s : State) (e : EngineId) (j : Job) (echo : Levels), Memory.wf s.mem = true → s.inReset = false →
    (s.engine e).phase = .writing .stopped → (s.engine e).job = some j → (s.engine e).report = none →
    s.waiting = [] → (s.station j.station).deferred = false →
    let g := s.engine e
    let base := cardBase j.card
    ∃ t, exec (.stopTerminalBurst e echo) s = .next t ∧ s.releasedBy t e j echo ∧
      (g.stopOutcome = some .cancelled → t.cardStatus j.card = 0x06 ∧ t.byte (base + 0x10) = 0x00) ∧
      (∀ l, g.stopOutcome = some (.lost l) → t.cardStatus j.card = 0x05 ∧
        t.byte (base + 0x10) = match l with | .partRemoved => 0x09 | .stationOff => 0x03 | .lineFault => 0x0A) ∧
      t.byte (base + 0x11) = 0x00 ∧ t.half (base + 0x12) = g.flags ∧
      t.byte (base + 0x17) = (if g.profile = none then 0xFF else indexByte g.profileIndex) ∧
      t.byte (base + 0x18) = BitVec.ofNat 8 g.rounds.valid ∧ t.byte (base + 0x19) = BitVec.ofNat 8 g.rounds.attempts ∧
      t.long (base + 0x1E) = s.tracker.cycles ∧
      (∀ i, i < 14 → t.byte (base + 0x22 + i) = (g.tagRecord.getD []).getD i 0) ∧
      ∀ o, ((0x14 ≤ o ∧ o < 0x17) ∨ (0x1A ≤ o ∧ o < 0x1E) ∨ (0x30 ≤ o ∧ o < 0x40)) →
        t.byte (base + o) = s.byte (base + o)

/-- A stop that reaches an engine: dropped for another card or station, in IDLE and WRITING, and where an outcome is
fixed; while the stimulus output is high the level is driven to its end with the outcome fixed; else the engine
stops at once, as it does in every state for a station fault. An overload of the STIMn driver while an engine drives
it high: the engine reports it and stops at once, with LINE_FAULT unless an earlier stop fixed another outcome, its
output falls, and the driver's hold ends with it; of a line at rest, or held low by its driver, there is none. The
model's form: stops wait in the engine until taken (log entry 15), a stop in the pre-check's tick stops the engine at
once (log entry 23), what a stop abandons is emptied: lookup unit (log entry 22), decoder and stage (log entry 25), and a
scoring pass that a stop abandons leaves none of its flags (log entry 29). -/
def Obligations.StopsAndOverloads : Prop :=
  (∀ (s : State) (e : EngineId) (stop : Stop) (j : Job), s.inReset = false → stop ∈ (s.engine e).stops →
      (s.engine e).job = some j →
      let g := { s.engine e with stops := (s.engine e).stops.erase stop }
      let meant : Prop := match stop with
        | .cancel k => j.card = k
        | .removal n | .disable n | .lineFault n => j.station = n
      let outcome : StopOutcome := match stop with
        | .cancel _ => .cancelled | .removal _ => .lost .partRemoved
        | .disable _ => .lost .stationOff | .lineFault _ => .lost .lineFault
      let fault : Prop := ∃ n, stop = .lineFault n
      let takes : Prop := meant ∧ g.phase ≠ .idle ∧ ∀ act, g.phase ≠ .writing act
      ∃ t, exec (.stopEvent e stop) s = .next t ∧
        (¬takes ∨ (g.stopOutcome ≠ none ∧ ¬fault) → t = s.modEngine e fun _ => g) ∧
        (takes → g.stopOutcome = none → g.outputHigh = true → ¬fault →
          t = s.modEngine e fun _ => { g with stopOutcome := some outcome, stopAtHoldBegin := false }) ∧
        (takes → g.stopOutcome = none → g.outputHigh = false → ¬fault →
          s.engineLeft t e { g with stopOutcome := some outcome }.stoppedNow) ∧
        (takes → fault →
          s.engineLeft t e { g with stopOutcome := g.stopOutcome.orElse fun _ => some outcome }.stoppedNow)) ∧
  (∀ (s : State) (n : StationId), s.inReset = false →
      (s.overloadHold.getLsbD n.val = true ∨ (∀ e, s.point e = some n → (s.engine e).outputHigh = false) →
        exec (.stimOverload n) s = .next s) ∧
      (∀ e, s.overloadHold.getLsbD n.val = false → s.point e = some n → (s.engine e).outputHigh = true →
        (∀ e', e' ≠ e → s.point e' ≠ some n) →
        ∃ t, exec (.stimOverload n) s = .next t ∧ s.engineLeft t e ((s.engine e).faulted .stimOverload) ∧
          t.stim n = false ∧ t.refStim e = false))

/-! ## Lookup -/

/-- A burst of the lookup judges the shelf record at the scan's index, the re-read as a fresh read: no candidate is passed
over, at index 63 as UNLISTED; damage is final on a fixed shelf or a second time, else one re-read is arranged; a field
out of its range of Table 8-1 fails the card; a good record with a date outside its range is COUNTERFEIT, else R is fixed
and the engine goes to GATING with a new question; each held while ENABLE reads 0. A good record is offered to the cache
on a shelf that has been fixed throughout. A re-read that waits is not served; that the burst then does nothing (log
entry 8), and that the lookup unit is emptied at an end (log entry 22), is the model's choice. -/
def Obligations.ShelfBurstJudgesTheRecord : Prop :=
  (∀ p : Profile, p.inRange = true ↔
    (1 ≤ p.n.toNat ∧ p.n.toNat ≤ 8) ∧ (1 ≤ p.minValid.toNat ∧ p.minValid.toNat ≤ 16) ∧
    (1 ≤ p.defaultRounds.toNat ∧ p.defaultRounds.toNat ≤ 16 ∧ p.minValid.toNat ≤ p.defaultRounds.toNat) ∧
    1 ≤ p.width.toNat ∧ 16 ≤ p.window.toNat ∧ (-40 ≤ p.t0.toInt ∧ p.t0.toInt ≤ 300) ∧
    (-2000 ≤ p.alpha.toInt ∧ p.alpha.toInt ≤ 2000) ∧ (100 ≤ p.tolPpm.toNat ∧ p.tolPpm.toNat ≤ 200000) ∧
    1 ≤ p.tolMin.toNat ∧ p.accept.toNat ≤ 256 ∧ (257 ≤ p.reject.toNat ∧ p.reject.toNat ≤ 4095) ∧
    p.dateFrom.toNat ≤ p.dateTo.toNat ∧
    (∀ (i : Nat) (d : Half), i < p.n.toNat → p.delays[i]? = some d → 1 ≤ d.toNat) ∧
    ∀ (i : Nat) (a b : Half), i + 1 < p.n.toNat → p.delays[i]? = some a → p.delays[i + 1]? = some b →
      a.toNat < b.toNat) ∧
  (∀ (s : State) (e : EngineId) (echo : Levels), (s.engine e).lookup.reread = .waiting →
    exec (.profileReread e echo) s = .next s) ∧
  ∀ (s : State) (e : EngineId) (echo : Levels) (c : Instr) (j : Job) (snap : Snapshot), s.inReset = false →
    (s.engine e).phase = .computing .lookup →
    (c = .shelfRead e echo ∧ (s.engine e).lookup.reread = .none ∨
      c = .profileReread e echo ∧ (s.engine e).lookup.reread = .due) →
    (s.engine e).job = some j → s.regs.snapshot = some snap → (s.engine e).stopAtHoldBegin = false →
    let g := s.engine e
    let i := g.lookup.index
    let record := s.bytes (shelfBase i) 64
    let p := profileOf record
    let tag := g.tagRecord.getD []
    let candidate := p.valid ≠ 0 ∧ p.type = tagType tag ∧ p.variant = tagVariant tag
    let agrees := crcOf (record.take 62) = halfIn record 62
    let fixed := s.regs.shelfFixed = true ∧ g.lookup.fixedThroughout = true
    let inside := p.dateFrom.toNat ≤ (tagDate tag).toNat ∧ (tagDate tag).toNat ≤ p.dateTo.toNat
    let writing : Phase := if s.regs.enable then .writing .result else .held .writing
    let read := { g.lookup with buffer := record, crc := crcOf (record.take 62) }
    let asks := { g with
      lookup := Lookup.reset, profile := some p, profileIndex := some i
      target := some (if g.header.rounds = 0 then p.defaultRounds.toNat else min g.header.rounds.toNat 16) }
    ∃ t, exec c s = .next t ∧
      t = { s with
        pins := { s.pins with echo := echo }, engines := t.engines, cache := t.cache
        tracker := { s.tracker with questions := t.tracker.questions, watches := t.tracker.watches } } ∧
      (∀ e', e' ≠ e → t.engine e' = s.engine e' ∧ t.question e' = s.question e' ∧ t.watch e' = s.watch e') ∧
      t.cache = (if candidate ∧ agrees ∧ p.inRange = true ∧ fixed then
        s.cache.offer { index := i, type := p.type, variant := p.variant, copy := record } else s.cache) ∧
      (¬(candidate ∧ agrees ∧ p.inRange = true ∧ inside) →
        t.question e = s.question e ∧ t.watch e = s.watch e) ∧
      (¬candidate → i = 63 → t.engine e = { g with
        phase := writing, lookup := Lookup.reset, figures := { g.figures with verdict := .unlisted } }) ∧
      (¬candidate → i ≠ 63 → t.engine e = { g with lookup := { read with index := i + 1, reread := .none } }) ∧
      (candidate → ¬agrees → (fixed ∨ g.lookup.mark = true) → t.engine e = { g with
        phase := writing, lookup := Lookup.reset, profileIndex := some i
        figures := { g.figures with error := .profileDamaged } }) ∧
      (candidate → ¬agrees → ¬(fixed ∨ g.lookup.mark = true) → t.engine e = { g with
        lookup := { read with mark := true, reread := if s.port.taking then .waiting else .due } }) ∧
      (candidate → agrees → p.inRange = false → t.engine e = { g with
        phase := writing, lookup := Lookup.reset, profileIndex := some i
        figures := { g.figures with error := .profileInvalid } }) ∧
      (candidate → agrees → p.inRange = true → ¬inside → t.engine e = { g with
        phase := writing, lookup := Lookup.reset, profile := some p, profileIndex := some i
        flags := g.flags ||| 0x2000, figures := { g.figures with verdict := .counterfeit } }) ∧
      (candidate → agrees → p.inRange = true → inside →
        (s.regs.enable = false → t.engine e = { asks with phase := .held (.gating .round) } ∧
          t.question e = s.question e ∧ t.watch e = s.watch e) ∧
        (s.regs.enable = true →
          ((s.station j.station).setup.groundOn s.tracker snap = none →
            t.engine e = { asks with phase := .gating .round } ∧
            t.question e = some { timer := 0, suspended := false } ∧ t.watch e = s.watch e) ∧
          ∀ gr, (s.station j.station).setup.groundOn s.tracker snap = some gr → t.question e = none ∧
            (echo.getLsbD j.station.val = false → t.engine e = asks.atWork .round snap p ∧
              t.watch e = (s.station j.station).setup.watchOn snap j.station gr) ∧
            (echo.getLsbD j.station.val = true → t.engine e = asks.faulted .echoStuck ∧ t.watch e = none)))

/-- With the attribute in effect a lookup asks the cache first. A hit on the tag's type and variant ends it without a shelf
read, with CACHE_HIT and the entry's copy and index, and moves the entry to the front; the date test then ends the card
COUNTERFEIT, or R is fixed and the first round's question is asked and judged at once. A miss leaves the cache, and the
scan begins at index 0. Nothing else changes. That the lookup unit is emptied at a hit is the model's choice (log
entry 22). -/
def Obligations.CacheIsAskedFirst : Prop :=
  ∀ (s : State) (e : EngineId) (echo : Levels) (j : Job) (snap : Snapshot), s.inReset = false →
    (s.engine e).phase = .reading → (s.engine e).frame.phase = some .tail → (s.engine e).frame.disturbed = false →
    (s.engine e).frame.decision = some .good → s.regs.shelfFixed = true → s.regs.enable = true →
    s.regs.snapshot = some snap → (s.engine e).job = some j → (s.engine e).stopAtHoldBegin = false →
    (s.engine e).header.kind ≠ 0x01 →
    let g := s.engine e
    let record := bytesFromBits 14 g.frame.answer
    (g.header.flags.getLsbD 2 = false ∨ longIn record 4 = g.header.serial) →
    let hit := fun (q : PlaceId) (x : CacheEntry) =>
      s.cache.places[q.val] = some x ∧ x.type = tagType record ∧ x.variant = tagVariant record
    ∃ t, exec (.tailEnd e echo) s = .next t ∧
      t = { s with
        pins := { s.pins with echo := echo }, engines := t.engines, cache := t.cache
        tracker := { s.tracker with questions := t.tracker.questions, watches := t.tracker.watches } } ∧
      (∀ e', e' ≠ e → t.engine e' = s.engine e' ∧ t.question e' = s.question e' ∧ t.watch e' = s.watch e') ∧
      ((∀ q x, ¬hit q x) → t.cache = s.cache) ∧
      (∀ q x, hit q x → (∀ q' x', q' < q → ¬hit q' x') →
        t.cache = { s.cache with recency := q :: s.cache.recency.filter (· ≠ q) }) ∧
      (s.setWatch e none).lookupBegun t e { g with
        frame := Frame.reset, frameAttempts := g.frameAttempts + 1, tagRecord := some record } j.station record snap echo

/-! ## Scoring -/

/-- The tolerance is the floor of the proportional part, at least tolmin, and lies in 1 to 13107 for every expected interval
and every profile within its ranges. -/
def Obligations.ToleranceOfAPosition : Prop :=
  ∀ (p : Profile) (x : Nat), p.inRange = true → 1 ≤ x → x ≤ 65535 →
    toleranceOf p x = max (x * p.tolPpm.toNat / 1000000) p.tolMin.toNat ∧
    1 ≤ toleranceOf p x ∧ toleranceOf p x ≤ 13107

/-- S is the mean normalised deviation rounded down, W the largest; S is never above W, and neither above 4095; with one
position they are equal. -/
def Obligations.ScoreAndWorst : Prop :=
  ∀ (qs : List Nat), 1 ≤ qs.length → qs.length ≤ 8 → (∀ q ∈ qs, q ≤ 4095) →
    scoreOf qs qs.length * qs.length ≤ qs.sum ∧ qs.sum < (scoreOf qs qs.length + 1) * qs.length ∧
    worstOf qs ∈ qs ∧ (∀ q ∈ qs, q ≤ worstOf qs) ∧
    scoreOf qs qs.length ≤ worstOf qs ∧ worstOf qs ≤ 4095 ∧ qs.sum ≤ 32760 ∧
    (qs.length = 1 → scoreOf qs 1 = worstOf qs)

/-- The scoring pass ends. Too few valid rounds, none among them, are INCONCLUSIVE, with ATTEMPTS where attempts were spent
and with the flags gathered before, GATE_TIMEOUT among them; a SURVEY card carries its corrected means; a VERIFY card is
scored position by position against the enrolled delays, scaled by its temperature and clamped to 1 to 65535, and its
verdict is COUNTERFEIT from reject on, GENUINE within both limits with a steady echo, else SUSPECT. -/
def Obligations.ScoringPassGivesTheVerdict : Prop :=
  ∀ (s : State) (e : EngineId) (p : Profile), s.inReset = false → (s.engine e).phase = .computing .scoring →
    (s.engine e).profile = some p → p.inRange = true →
    (p.minValid.toNat ≤ (s.engine e).rounds.valid → (s.engine e).rounds.positions.length = p.n.toNat) →
    let g := s.engine e
    let v := g.rounds.valid
    let n := p.n.toNat
    let mean := fun sum : Nat => (sum + v / 2) / v
    let mref := mean g.rounds.refSum
    let raw := g.rounds.positions.map fun q =>
      if g.nref = 0 then mean q.sum else (mean q.sum * g.nref.toNat + mref / 2) / mref
    let cs := raw.map (min · 65535)
    let dT : Int := if g.header.flags.getLsbD 0 then max (-40) (min 300 g.header.temperature.toInt) - p.t0.toInt else 0
    let k : Int := 1000000 + p.alpha.toInt * dT
    let rawX := fun d : Half => ((d.toNat : Int) * k + 500000) / 1000000
    let xs := (p.delays.take n).map fun d => (max 1 (min 65535 (rawX d))).toNat
    let tolerance := fun x : Nat => max (x * p.tolPpm.toNat / 1000000) p.tolMin.toNat
    let qs := List.zipWith (fun c x : Nat => min (Int.natAbs ((c : Int) - x) * 256 / tolerance x) 4095) cs xs
    let noisy := ∃ (i : Nat) (q : Position) (x : Nat), g.rounds.positions[i]? = some q ∧ xs[i]? = some x ∧
      2 * tolerance x < q.largest - q.smallest
    let clampedC := ∃ c ∈ raw, 65535 < c
    let clampedX := ∃ d ∈ p.delays.take n, rawX d < 1 ∨ 65535 < rawX d
    ∃ t, exec (.scoringPassEnd e) s = .next t ∧
      t = (s.modEngine e fun g => { g with
        phase := if s.regs.enable then .writing .result else .held .writing
        flags := (t.engine e).flags, figures := (t.engine e).figures }) ∧
      (v < p.minValid.toNat →
        (t.engine e).figures = { Figures.reset with verdict := .inconclusive } ∧
        (t.engine e).flags = if g.ending = some .attemptsSpent then g.flags ||| 0x4000 else g.flags) ∧
      (p.minValid.toNat ≤ v → g.header.kind = 0x03 →
        (t.engine e).figures = { Figures.reset with c := cs } ∧
        (clampedC → (t.engine e).flags = g.flags ||| 0x0800) ∧ (¬clampedC → (t.engine e).flags = g.flags)) ∧
      (p.minValid.toNat ≤ v → g.header.kind ≠ 0x03 →
        (t.engine e).figures.c = cs ∧ (t.engine e).figures.s = qs.sum / n ∧
        (t.engine e).figures.w = qs.foldl max 0 ∧ (t.engine e).figures.error = .none ∧
        (t.engine e).flags &&& 0xE7FF = g.flags &&& 0xE7FF ∧
        ((clampedC ∨ clampedX) → (t.engine e).flags &&& 0x0800 = 0x0800) ∧
        (¬clampedC → ¬clampedX → (t.engine e).flags &&& 0x0800 = g.flags &&& 0x0800) ∧
        (noisy → (t.engine e).flags &&& 0x1000 = 0x1000) ∧
        (¬noisy → (t.engine e).flags &&& 0x1000 = g.flags &&& 0x1000) ∧
        (p.reject.toNat ≤ (t.engine e).figures.w → (t.engine e).figures.verdict = .counterfeit) ∧
        ((t.engine e).figures.w ≤ 256 → (t.engine e).figures.s ≤ p.accept.toNat → ¬noisy →
          (t.engine e).figures.verdict = .genuine) ∧
        ((t.engine e).figures.w < p.reject.toNat →
          (256 < (t.engine e).figures.w ∨ p.accept.toNat < (t.engine e).figures.s ∨ noisy) →
          (t.engine e).figures.verdict = .suspect))

/-! ## Writing the card -/

/-- The result burst writes verdict, reason flags, profile index, V, attempts, S, W, tag record and C1..C8, and nothing else; a
card with a delivery goes on to it, another to its terminal burst. What a card delivers: nothing with an error, for
SURVEY and for INCONCLUSIVE; the identity alone for IDENTIFY; for VERIFY its verdict with score and identity, UNLISTED as
SUSPECT with score 0, UNREADABLE without identity. -/
def Obligations.ResultAndItsDelivery : Prop :=
  (∀ (s : State) (e : EngineId) (j : Job), Memory.wf s.mem = true → s.inReset = false →
      (s.engine e).phase = .writing .result → (s.engine e).job = some j →
      let g := s.engine e
      let base := cardBase j.card
      ∃ t, exec (.resultBurst e) s = .next t ∧
        t = { s.modEngine e (fun g => { g with
          phase := if g.parcel = none then .writing .terminal else .writing .delivery }) with mem := t.mem } ∧
        t.byte (base + 0x11) = g.figures.verdict.code ∧ t.half (base + 0x12) = g.flags ∧
        t.byte (base + 0x17) = indexByte g.profileIndex ∧
        t.byte (base + 0x18) = BitVec.ofNat 8 g.rounds.valid ∧ t.byte (base + 0x19) = BitVec.ofNat 8 g.rounds.attempts ∧
        t.half (base + 0x1A) = BitVec.ofNat 16 g.figures.s ∧ t.half (base + 0x1C) = BitVec.ofNat 16 g.figures.w ∧
        (∀ i, i < 14 → t.byte (base + 0x22 + i) = (g.tagRecord.getD []).getD i 0) ∧
        (∀ i, i < 8 → t.half (base + 0x30 + 2 * i) = BitVec.ofNat 16 (g.figures.c.getD i 0)) ∧
        ∀ a, (a < base + 0x11 ∨ (base + 0x14 ≤ a ∧ a < base + 0x17) ∨ (base + 0x1E ≤ a ∧ a < base + 0x22) ∨
          base + 0x40 ≤ a) → t.byte a = s.byte a) ∧
  (∀ g : Engine,
      let score := BitVec.ofNat 16 g.figures.s
      (g.figures.error ≠ .none → g.parcel = none) ∧
      (g.figures.error = .none →
        (g.header.kind = 0x03 → g.parcel = none) ∧
        (g.header.kind = 0x01 → g.parcel =
          if g.figures.verdict = .none then some { verdict := none, identity := g.tagRecord } else none) ∧
        (g.header.kind = 0x02 → g.parcel = match g.figures.verdict with
          | .genuine => some { verdict := some (0x01, score), identity := g.tagRecord }
          | .suspect => some { verdict := some (0x02, score), identity := g.tagRecord }
          | .counterfeit => some { verdict := some (0x03, score), identity := g.tagRecord }
          | .unlisted => some { verdict := some (0x02, 0), identity := g.tagRecord }
          | .unreadable => some { verdict := some (0x04, 0), identity := none }
          | .inconclusive => none
          | .none => none)))

/-- A delivery is refused with the loss mark, or, with a clear mark, for a station disabled, in FAULT or not present, in
that order, and changes nothing but the engine. An accepted one goes into the slot of the matching active position:
a new serial resets the slot, identity and verdict are taken as delivered, the slot's stamp follows a change, and
the held permit becomes that of the slots. A delivery whose tag address matches no active position is accepted too and
changes no slot; a record and a held permit that agree with the slots stay. The held permit under ADVISE is DEDUCED (log entry 13). -/
def Obligations.DeliveryIsJudged : Prop :=
  (∀ (s : State) (e : EngineId) (j : Job) (l : Loss), s.inReset = false →
      (s.engine e).phase = .writing .delivery → (s.engine e).job = some j → (s.engine e).parcel ≠ none →
      let x := s.station j.station
      (x.lossMark = some l ∨ x.lossMark = none ∧
        ((x.setup.enabled = false ∧ l = .stationOff) ∨
          (x.setup.enabled = true ∧ x.fault = true ∧ l = .lineFault) ∨
          (x.setup.enabled = true ∧ x.fault = false ∧ x.present = false ∧ l = .partRemoved))) →
      exec (.delivery e) s = .next (s.modEngine e fun g => { g with phase := .writing .terminal, answer := some l })) ∧
  (∀ (s : State) (e : EngineId) (j : Job) (d : Parcel) (p : SlotId), Memory.wf s.mem = true → s.inReset = false →
      (s.engine e).phase = .writing .delivery → (s.engine e).job = some j → (s.engine e).parcel = some d →
      let n := j.station
      let x := s.station n
      let old := s.readSlot n p
      x.lossMark = none → x.setup.enabled = true → x.fault = false → x.present = true →
      x.setup.activeAt p = true → x.setup.roster[p.val].setWidth 8 = (s.engine e).header.tagAddress →
      ∃ t, exec (.delivery e) s = .next t ∧
        t = { s with mem := t.mem, engines := t.engines, stations := t.stations, regs := s.flagRaised t n } ∧
        (∀ e', e' ≠ e → t.engine e' = s.engine e') ∧
        t.engine e = { s.engine e with phase := .writing .terminal, answer := none } ∧
        (∀ m, m ≠ n → t.station m = s.station m) ∧
        t.station n = { x with heldPermit := (t.station n).heldPermit, permit := (t.station n).permit } ∧
        (s.held n = false → (t.station n).heldPermit = x.heldPermit) ∧
        (s.held n = true → (t.station n).heldPermit =
          (x.setup.advise || decide (∀ q : SlotId, x.setup.activeAt q = true → t.byte (slotBase n q) = 0x01))) ∧
        s.recordFollows t n ∧
        (∀ r, d.identity = some r → t.readSlot n p = {
          verdict := match d.verdict with
            | some y => y.1 | none => if tagSerial r = old.serial then old.verdict else 0
          score := match d.verdict with
            | some y => y.2 | none => if tagSerial r = old.serial then old.score else 0
          type := tagType r, variant := tagVariant r, serial := tagSerial r, lot := tagLot r, date := tagDate r }) ∧
        (d.identity = none → ∀ y, d.verdict = some y → t.readSlot n p = { old with verdict := y.1, score := y.2 }) ∧
        (t.readSlot n p ≠ old → t.long (slotBase n p + 0x10) = s.tracker.cycles) ∧
        ∀ a, (a < slotBase n p ∨ slotBase n p + 20 ≤ a) → (∀ o, eventOffset o = true → a ≠ stationBase n + o) →
          t.byte a = s.byte a) ∧
  (∀ (s : State) (e : EngineId) (j : Job) (d : Parcel), Memory.wf s.mem = true → s.inReset = false →
      (s.engine e).phase = .writing .delivery → (s.engine e).job = some j → (s.engine e).parcel = some d →
      let n := j.station
      let x := s.station n
      let slotsPermit := x.setup.advise || (decide (x.setup.rosterCount ≠ 0) &&
        decide (∀ q : SlotId, x.setup.activeAt q = true → s.byte (slotBase n q) = 0x01))
      x.lossMark = none → x.setup.enabled = true → x.fault = false → x.present = true →
      (∀ p : SlotId, x.setup.activeAt p = true → x.setup.roster[p.val].setWidth 8 ≠ (s.engine e).header.tagAddress) →
      ∃ t, exec (.delivery e) s = .next t ∧
        t = { s with mem := t.mem, engines := t.engines, stations := t.stations, regs := s.flagRaised t n } ∧
        (∀ e', e' ≠ e → t.engine e' = s.engine e') ∧
        t.engine e = { s.engine e with phase := .writing .terminal, answer := none } ∧
        (∀ m, m ≠ n → t.station m = s.station m) ∧
        t.station n = { x with
          heldPermit := if s.held n then slotsPermit else x.heldPermit, permit := (t.station n).permit } ∧
        s.recordFollows t n ∧
        (∀ a, (∀ o, eventOffset o = true → a ≠ stationBase n + o) → t.byte a = s.byte a) ∧
        (s.byte (stationBase n + stState) = (s.derived n (s.held n)).code → (s.held n = true → x.heldPermit = slotsPermit) →
          x.permit = permitOf (s.derived n (s.held n)) x.setup.advise x.heldPermit →
          t = s.modEngine e fun g => { g with phase := .writing .terminal, answer := none }))

/-- The terminal burst writes error code, stamp and status, DONE without an error and FAILED with one, the answer to the
delivery before the work's own error; then the engine releases its station, and setup that was deferred during the hold
is acted on. That the idle engine is empty is the model's choice (log entry 27). -/
def Obligations.TerminalBurstEndsTheCard : Prop :=
  ∀ (s : State) (e : EngineId) (j : Job) (echo : Levels), Memory.wf s.mem = true → s.inReset = false →
    (s.engine e).phase = .writing .terminal → (s.engine e).job = some j → s.waiting = [] →
    let g := s.engine e
    let n := j.station
    let base := cardBase j.card
    let err : ErrorCode := match g.answer with
      | some .partRemoved => .partRemoved | some .stationOff => .stationOff | some .lineFault => .lineFault
      | none => g.figures.error
    let ended := fun t : State =>
      t.byte (base + 0x10) = err.code ∧ t.cardStatus j.card = (if err = .none then 0x04 else 0x05) ∧
      t.long (base + 0x1E) = s.tracker.cycles ∧
      ∀ o, 0x11 ≤ o → o < 0x40 → (o < 0x1E ∨ 0x22 ≤ o) → t.byte (base + o) = s.byte (base + o)
    ((s.station n).deferred = false →
      ∃ t, exec (.terminalBurst e echo) s = .next t ∧ s.releasedBy t e j echo ∧ ended t) ∧
    (∀ snap, (s.station n).deferred = true → s.regs.snapshot = some snap →
      ∃ u t : State, exec (.terminalBurst e echo) s = .next t ∧
        (s.modStation n fun x => { x with deferred := false }).releasedBy u e j echo ∧
        u.setupActedOn t n (s.readSetup n) false snap echo ∧
        t = { u with
          stations := t.stations, notices := t.notices, mem := t.mem
          regs := { u.regs with causes := t.regs.causes } } ∧
        ended t)

/-- The allocator's choice: an eligible entry, one whose station is not held, of the highest priority, and the first of
those on the list; the engine is the lowest free one. A release by either terminal burst, an accepted ENABLE and the
intake of a card are followed by the grants that this choice gives, one after the other on the state the one before left,
until no engine is free or no entry eligible; each grant leaves the cards and stations it does not name. A station lost
at the grant marks its hold and stops the engine. That the engine then takes the stop before its question is DEDUCED
(log entry 11), and that a released engine is empty is the model's choice (log entry 27). -/
def Obligations.AllocatorChoosesByPriority : Prop :=
  (∀ (s : State) (x : Entry) (e : EngineId),
    (s.chooseEntry = some x ↔ x.isFirst s.waiting fun n => s.holder n ≠ none) ∧
    (s.freeEngine = some e ↔ (s.engine e).job = none ∧ ∀ e', e' < e → (s.engine e').job ≠ none)) ∧
  (∀ (s : State) (e : EngineId) (j : Job) (echo : Levels) (snap : Snapshot) (c : Instr), Memory.wf s.mem = true →
      s.inReset = false → (s.engine e).job = some j → s.regs.enable = true → s.regs.snapshot = some snap →
      (s.station j.station).deferred = false → (s.waiting.map (·.card)).Nodup →
      (c = .terminalBurst e echo ∧ (s.engine e).phase = .writing .terminal ∨
        c = .stopTerminalBurst e echo ∧ (s.engine e).phase = .writing .stopped ∧ (s.engine e).report = none) →
      ∃ u t : State, exec c s = .next t ∧ s.releasedBy u e j echo ∧ State.Allocated snap echo u t) ∧
  (∀ (s : State) (high : Byte) (echo : Levels) (old : Snapshot), Memory.wf s.mem = true → s.writing 1 →
      s.port.lowByte.getLsbD 0 = true → s.port.lowByte.getLsbD 1 = false → s.port.lowByte.getLsbD 2 = false →
      s.regs.enable = false → 16 ≤ (s.half 0x00).toNat → (s.byte 0x0A).toNat ≤ 2 →
      s.regs.snapshot = some old → old.ppc = s.half 0x00 → (∀ e next, (s.engine e).phase ≠ .held next) →
      (s.waiting.map (·.card)).Nodup →
      ∃ (u t : State) (snap : Snapshot), exec (.enable high echo) s = .next t ∧
        u = { s with
          port := s.port.pairWritten, pins := { s.pins with echo := echo }, mem := u.mem
          regs := { s.regs with enable := true, snapshot := some snap }
          sweeper := { s.sweeper with timer := t.sweeper.timer } } ∧
        (∀ a, u.byte a = if a = 0x85 then 0xFF else s.byte a) ∧ State.Allocated snap echo u t) ∧
  (∀ (s : State) (k : CardId) (n : StationId) (bytes : List Byte) (echo : Levels) (snap : Snapshot),
      Memory.wf s.mem = true → s.inReset = false → s.sweeper.visit = some (.intake k bytes) →
      s.port.touched[k.val] = false → s.bytes (cardBase k) 14 = bytes → s.byte (cardBase k + 0x01) = 0 →
      s.byte (cardBase k + 0x02) ∈ [0x01, 0x02, 0x03] → (s.byte (cardBase k + 0x04)).toNat = n.val →
      (s.station n).setup.enabled = true → (s.station n).fault = false → (s.station n).present = true →
      s.rosterHas n (s.byte (cardBase k + 0x05)) → s.regs.enable = true → s.regs.snapshot = some snap →
      (s.waiting.map (·.card)).Nodup → (∀ x ∈ s.waiting, x.card ≠ k) →
      ∃ u t : State, exec (.cardIntake echo) s = .next t ∧
        u = { s with
          pins := { s.pins with echo := echo }, mem := u.mem
          sweeper := { s.sweeper with counter := s.sweeper.counter + 1 }.visited k s.regs.enable
          waiting := s.waiting ++
            [{ card := k, priority := ⟨min (s.byte (cardBase k + 0x03)).toNat 3, by omega⟩, station := n }] } ∧
        u.cardStatus k = 0x02 ∧ u.half (cardBase k + 0x14) = s.sweeper.counter ∧
        (∀ a, outsideResult k a → u.byte a = s.byte a) ∧ State.Allocated snap echo u t)
end

