-- ==== Sys2Proof/Laws/State.lean ====
section
/-! SUPPORT. What every field of the state reads after each named update, one lemma per field per update. -/

namespace Sys2Proof.Machine

@[simp] theorem State.setPort_port (s : State) (p : Port) : (s.setPort p).port = p := rfl
@[simp] theorem State.setPort_pins (s : State) (p : Port) : (s.setPort p).pins = s.pins := rfl
@[simp] theorem State.setPort_regs (s : State) (p : Port) : (s.setPort p).regs = s.regs := rfl
@[simp] theorem State.setPort_mem (s : State) (p : Port) : (s.setPort p).mem = s.mem := rfl
@[simp] theorem State.setPort_sweeper (s : State) (p : Port) : (s.setPort p).sweeper = s.sweeper := rfl
@[simp] theorem State.setPort_waiting (s : State) (p : Port) : (s.setPort p).waiting = s.waiting := rfl
@[simp] theorem State.setPort_notices (s : State) (p : Port) : (s.setPort p).notices = s.notices := rfl
@[simp] theorem State.setPort_stations (s : State) (p : Port) : (s.setPort p).stations = s.stations := rfl
@[simp] theorem State.setPort_holds (s : State) (p : Port) : (s.setPort p).holds = s.holds := rfl
@[simp] theorem State.setPort_crosspoint (s : State) (p : Port) : (s.setPort p).crosspoint = s.crosspoint := rfl
@[simp] theorem State.setPort_overloadHold (s : State) (p : Port) : (s.setPort p).overloadHold = s.overloadHold := rfl
@[simp] theorem State.setPort_tracker (s : State) (p : Port) : (s.setPort p).tracker = s.tracker := rfl
@[simp] theorem State.setPort_engines (s : State) (p : Port) : (s.setPort p).engines = s.engines := rfl
@[simp] theorem State.setPort_cache (s : State) (p : Port) : (s.setPort p).cache = s.cache := rfl
@[simp] theorem State.setPort_msTicks (s : State) (p : Port) : (s.setPort p).msTicks = s.msTicks := rfl
@[simp] theorem State.setPort_freeReads (s : State) (p : Port) : (s.setPort p).freeReads = s.freeReads := rfl
@[simp] theorem State.setPort_pending (s : State) (p : Port) : (s.setPort p).pending = s.pending := rfl

@[simp] theorem State.setPins_port (s : State) (p : Pins) : (s.setPins p).port = s.port := rfl
@[simp] theorem State.setPins_pins (s : State) (p : Pins) : (s.setPins p).pins = p := rfl
@[simp] theorem State.setPins_regs (s : State) (p : Pins) : (s.setPins p).regs = s.regs := rfl
@[simp] theorem State.setPins_mem (s : State) (p : Pins) : (s.setPins p).mem = s.mem := rfl
@[simp] theorem State.setPins_sweeper (s : State) (p : Pins) : (s.setPins p).sweeper = s.sweeper := rfl
@[simp] theorem State.setPins_waiting (s : State) (p : Pins) : (s.setPins p).waiting = s.waiting := rfl
@[simp] theorem State.setPins_notices (s : State) (p : Pins) : (s.setPins p).notices = s.notices := rfl
@[simp] theorem State.setPins_stations (s : State) (p : Pins) : (s.setPins p).stations = s.stations := rfl
@[simp] theorem State.setPins_holds (s : State) (p : Pins) : (s.setPins p).holds = s.holds := rfl
@[simp] theorem State.setPins_crosspoint (s : State) (p : Pins) : (s.setPins p).crosspoint = s.crosspoint := rfl
@[simp] theorem State.setPins_overloadHold (s : State) (p : Pins) : (s.setPins p).overloadHold = s.overloadHold := rfl
@[simp] theorem State.setPins_tracker (s : State) (p : Pins) : (s.setPins p).tracker = s.tracker := rfl
@[simp] theorem State.setPins_engines (s : State) (p : Pins) : (s.setPins p).engines = s.engines := rfl
@[simp] theorem State.setPins_cache (s : State) (p : Pins) : (s.setPins p).cache = s.cache := rfl
@[simp] theorem State.setPins_msTicks (s : State) (p : Pins) : (s.setPins p).msTicks = s.msTicks := rfl
@[simp] theorem State.setPins_freeReads (s : State) (p : Pins) : (s.setPins p).freeReads = s.freeReads := rfl
@[simp] theorem State.setPins_pending (s : State) (p : Pins) : (s.setPins p).pending = s.pending := rfl

@[simp] theorem State.setRegs_port (s : State) (r : Registers) : (s.setRegs r).port = s.port := rfl
@[simp] theorem State.setRegs_pins (s : State) (r : Registers) : (s.setRegs r).pins = s.pins := rfl
@[simp] theorem State.setRegs_regs (s : State) (r : Registers) : (s.setRegs r).regs = r := rfl
@[simp] theorem State.setRegs_mem (s : State) (r : Registers) : (s.setRegs r).mem = s.mem := rfl
@[simp] theorem State.setRegs_sweeper (s : State) (r : Registers) : (s.setRegs r).sweeper = s.sweeper := rfl
@[simp] theorem State.setRegs_waiting (s : State) (r : Registers) : (s.setRegs r).waiting = s.waiting := rfl
@[simp] theorem State.setRegs_notices (s : State) (r : Registers) : (s.setRegs r).notices = s.notices := rfl
@[simp] theorem State.setRegs_stations (s : State) (r : Registers) : (s.setRegs r).stations = s.stations := rfl
@[simp] theorem State.setRegs_holds (s : State) (r : Registers) : (s.setRegs r).holds = s.holds := rfl
@[simp] theorem State.setRegs_crosspoint (s : State) (r : Registers) : (s.setRegs r).crosspoint = s.crosspoint := rfl
@[simp] theorem State.setRegs_overloadHold (s : State) (r : Registers) : (s.setRegs r).overloadHold = s.overloadHold := rfl
@[simp] theorem State.setRegs_tracker (s : State) (r : Registers) : (s.setRegs r).tracker = s.tracker := rfl
@[simp] theorem State.setRegs_engines (s : State) (r : Registers) : (s.setRegs r).engines = s.engines := rfl
@[simp] theorem State.setRegs_cache (s : State) (r : Registers) : (s.setRegs r).cache = s.cache := rfl
@[simp] theorem State.setRegs_msTicks (s : State) (r : Registers) : (s.setRegs r).msTicks = s.msTicks := rfl
@[simp] theorem State.setRegs_freeReads (s : State) (r : Registers) : (s.setRegs r).freeReads = s.freeReads := rfl
@[simp] theorem State.setRegs_pending (s : State) (r : Registers) : (s.setRegs r).pending = s.pending := rfl

@[simp] theorem State.setSweeper_port (s : State) (w : Sweeper) : (s.setSweeper w).port = s.port := rfl
@[simp] theorem State.setSweeper_pins (s : State) (w : Sweeper) : (s.setSweeper w).pins = s.pins := rfl
@[simp] theorem State.setSweeper_regs (s : State) (w : Sweeper) : (s.setSweeper w).regs = s.regs := rfl
@[simp] theorem State.setSweeper_mem (s : State) (w : Sweeper) : (s.setSweeper w).mem = s.mem := rfl
@[simp] theorem State.setSweeper_sweeper (s : State) (w : Sweeper) : (s.setSweeper w).sweeper = w := rfl
@[simp] theorem State.setSweeper_waiting (s : State) (w : Sweeper) : (s.setSweeper w).waiting = s.waiting := rfl
@[simp] theorem State.setSweeper_notices (s : State) (w : Sweeper) : (s.setSweeper w).notices = s.notices := rfl
@[simp] theorem State.setSweeper_stations (s : State) (w : Sweeper) : (s.setSweeper w).stations = s.stations := rfl
@[simp] theorem State.setSweeper_holds (s : State) (w : Sweeper) : (s.setSweeper w).holds = s.holds := rfl
@[simp] theorem State.setSweeper_crosspoint (s : State) (w : Sweeper) : (s.setSweeper w).crosspoint = s.crosspoint := rfl
@[simp] theorem State.setSweeper_overloadHold (s : State) (w : Sweeper) : (s.setSweeper w).overloadHold = s.overloadHold := rfl
@[simp] theorem State.setSweeper_tracker (s : State) (w : Sweeper) : (s.setSweeper w).tracker = s.tracker := rfl
@[simp] theorem State.setSweeper_engines (s : State) (w : Sweeper) : (s.setSweeper w).engines = s.engines := rfl
@[simp] theorem State.setSweeper_cache (s : State) (w : Sweeper) : (s.setSweeper w).cache = s.cache := rfl
@[simp] theorem State.setSweeper_msTicks (s : State) (w : Sweeper) : (s.setSweeper w).msTicks = s.msTicks := rfl
@[simp] theorem State.setSweeper_freeReads (s : State) (w : Sweeper) : (s.setSweeper w).freeReads = s.freeReads := rfl
@[simp] theorem State.setSweeper_pending (s : State) (w : Sweeper) : (s.setSweeper w).pending = s.pending := rfl

@[simp] theorem State.setWaiting_port (s : State) (l : List Entry) : (s.setWaiting l).port = s.port := rfl
@[simp] theorem State.setWaiting_pins (s : State) (l : List Entry) : (s.setWaiting l).pins = s.pins := rfl
@[simp] theorem State.setWaiting_regs (s : State) (l : List Entry) : (s.setWaiting l).regs = s.regs := rfl
@[simp] theorem State.setWaiting_mem (s : State) (l : List Entry) : (s.setWaiting l).mem = s.mem := rfl
@[simp] theorem State.setWaiting_sweeper (s : State) (l : List Entry) : (s.setWaiting l).sweeper = s.sweeper := rfl
@[simp] theorem State.setWaiting_waiting (s : State) (l : List Entry) : (s.setWaiting l).waiting = l := rfl
@[simp] theorem State.setWaiting_notices (s : State) (l : List Entry) : (s.setWaiting l).notices = s.notices := rfl
@[simp] theorem State.setWaiting_stations (s : State) (l : List Entry) : (s.setWaiting l).stations = s.stations := rfl
@[simp] theorem State.setWaiting_holds (s : State) (l : List Entry) : (s.setWaiting l).holds = s.holds := rfl
@[simp] theorem State.setWaiting_crosspoint (s : State) (l : List Entry) : (s.setWaiting l).crosspoint = s.crosspoint := rfl
@[simp] theorem State.setWaiting_overloadHold (s : State) (l : List Entry) : (s.setWaiting l).overloadHold = s.overloadHold := rfl
@[simp] theorem State.setWaiting_tracker (s : State) (l : List Entry) : (s.setWaiting l).tracker = s.tracker := rfl
@[simp] theorem State.setWaiting_engines (s : State) (l : List Entry) : (s.setWaiting l).engines = s.engines := rfl
@[simp] theorem State.setWaiting_cache (s : State) (l : List Entry) : (s.setWaiting l).cache = s.cache := rfl
@[simp] theorem State.setWaiting_msTicks (s : State) (l : List Entry) : (s.setWaiting l).msTicks = s.msTicks := rfl
@[simp] theorem State.setWaiting_freeReads (s : State) (l : List Entry) : (s.setWaiting l).freeReads = s.freeReads := rfl
@[simp] theorem State.setWaiting_pending (s : State) (l : List Entry) : (s.setWaiting l).pending = s.pending := rfl

@[simp] theorem State.setNotices_port (s : State) (l : List Notice) : (s.setNotices l).port = s.port := rfl
@[simp] theorem State.setNotices_pins (s : State) (l : List Notice) : (s.setNotices l).pins = s.pins := rfl
@[simp] theorem State.setNotices_regs (s : State) (l : List Notice) : (s.setNotices l).regs = s.regs := rfl
@[simp] theorem State.setNotices_mem (s : State) (l : List Notice) : (s.setNotices l).mem = s.mem := rfl
@[simp] theorem State.setNotices_sweeper (s : State) (l : List Notice) : (s.setNotices l).sweeper = s.sweeper := rfl
@[simp] theorem State.setNotices_waiting (s : State) (l : List Notice) : (s.setNotices l).waiting = s.waiting := rfl
@[simp] theorem State.setNotices_notices (s : State) (l : List Notice) : (s.setNotices l).notices = l := rfl
@[simp] theorem State.setNotices_stations (s : State) (l : List Notice) : (s.setNotices l).stations = s.stations := rfl
@[simp] theorem State.setNotices_holds (s : State) (l : List Notice) : (s.setNotices l).holds = s.holds := rfl
@[simp] theorem State.setNotices_crosspoint (s : State) (l : List Notice) : (s.setNotices l).crosspoint = s.crosspoint := rfl
@[simp] theorem State.setNotices_overloadHold (s : State) (l : List Notice) : (s.setNotices l).overloadHold = s.overloadHold := rfl
@[simp] theorem State.setNotices_tracker (s : State) (l : List Notice) : (s.setNotices l).tracker = s.tracker := rfl
@[simp] theorem State.setNotices_engines (s : State) (l : List Notice) : (s.setNotices l).engines = s.engines := rfl
@[simp] theorem State.setNotices_cache (s : State) (l : List Notice) : (s.setNotices l).cache = s.cache := rfl
@[simp] theorem State.setNotices_msTicks (s : State) (l : List Notice) : (s.setNotices l).msTicks = s.msTicks := rfl
@[simp] theorem State.setNotices_freeReads (s : State) (l : List Notice) : (s.setNotices l).freeReads = s.freeReads := rfl
@[simp] theorem State.setNotices_pending (s : State) (l : List Notice) : (s.setNotices l).pending = s.pending := rfl

@[simp] theorem State.setTracker_port (s : State) (t : Tracker) : (s.setTracker t).port = s.port := rfl
@[simp] theorem State.setTracker_pins (s : State) (t : Tracker) : (s.setTracker t).pins = s.pins := rfl
@[simp] theorem State.setTracker_regs (s : State) (t : Tracker) : (s.setTracker t).regs = s.regs := rfl
@[simp] theorem State.setTracker_mem (s : State) (t : Tracker) : (s.setTracker t).mem = s.mem := rfl
@[simp] theorem State.setTracker_sweeper (s : State) (t : Tracker) : (s.setTracker t).sweeper = s.sweeper := rfl
@[simp] theorem State.setTracker_waiting (s : State) (t : Tracker) : (s.setTracker t).waiting = s.waiting := rfl
@[simp] theorem State.setTracker_notices (s : State) (t : Tracker) : (s.setTracker t).notices = s.notices := rfl
@[simp] theorem State.setTracker_stations (s : State) (t : Tracker) : (s.setTracker t).stations = s.stations := rfl
@[simp] theorem State.setTracker_holds (s : State) (t : Tracker) : (s.setTracker t).holds = s.holds := rfl
@[simp] theorem State.setTracker_crosspoint (s : State) (t : Tracker) : (s.setTracker t).crosspoint = s.crosspoint := rfl
@[simp] theorem State.setTracker_overloadHold (s : State) (t : Tracker) : (s.setTracker t).overloadHold = s.overloadHold := rfl
@[simp] theorem State.setTracker_tracker (s : State) (t : Tracker) : (s.setTracker t).tracker = t := rfl
@[simp] theorem State.setTracker_engines (s : State) (t : Tracker) : (s.setTracker t).engines = s.engines := rfl
@[simp] theorem State.setTracker_cache (s : State) (t : Tracker) : (s.setTracker t).cache = s.cache := rfl
@[simp] theorem State.setTracker_msTicks (s : State) (t : Tracker) : (s.setTracker t).msTicks = s.msTicks := rfl
@[simp] theorem State.setTracker_freeReads (s : State) (t : Tracker) : (s.setTracker t).freeReads = s.freeReads := rfl
@[simp] theorem State.setTracker_pending (s : State) (t : Tracker) : (s.setTracker t).pending = s.pending := rfl

@[simp] theorem State.setCache_port (s : State) (c : Cache) : (s.setCache c).port = s.port := rfl
@[simp] theorem State.setCache_pins (s : State) (c : Cache) : (s.setCache c).pins = s.pins := rfl
@[simp] theorem State.setCache_regs (s : State) (c : Cache) : (s.setCache c).regs = s.regs := rfl
@[simp] theorem State.setCache_mem (s : State) (c : Cache) : (s.setCache c).mem = s.mem := rfl
@[simp] theorem State.setCache_sweeper (s : State) (c : Cache) : (s.setCache c).sweeper = s.sweeper := rfl
@[simp] theorem State.setCache_waiting (s : State) (c : Cache) : (s.setCache c).waiting = s.waiting := rfl
@[simp] theorem State.setCache_notices (s : State) (c : Cache) : (s.setCache c).notices = s.notices := rfl
@[simp] theorem State.setCache_stations (s : State) (c : Cache) : (s.setCache c).stations = s.stations := rfl
@[simp] theorem State.setCache_holds (s : State) (c : Cache) : (s.setCache c).holds = s.holds := rfl
@[simp] theorem State.setCache_crosspoint (s : State) (c : Cache) : (s.setCache c).crosspoint = s.crosspoint := rfl
@[simp] theorem State.setCache_overloadHold (s : State) (c : Cache) : (s.setCache c).overloadHold = s.overloadHold := rfl
@[simp] theorem State.setCache_tracker (s : State) (c : Cache) : (s.setCache c).tracker = s.tracker := rfl
@[simp] theorem State.setCache_engines (s : State) (c : Cache) : (s.setCache c).engines = s.engines := rfl
@[simp] theorem State.setCache_cache (s : State) (c : Cache) : (s.setCache c).cache = c := rfl
@[simp] theorem State.setCache_msTicks (s : State) (c : Cache) : (s.setCache c).msTicks = s.msTicks := rfl
@[simp] theorem State.setCache_freeReads (s : State) (c : Cache) : (s.setCache c).freeReads = s.freeReads := rfl
@[simp] theorem State.setCache_pending (s : State) (c : Cache) : (s.setCache c).pending = s.pending := rfl

@[simp] theorem State.setOverloadHold_port (s : State) (h : Levels) : (s.setOverloadHold h).port = s.port := rfl
@[simp] theorem State.setOverloadHold_pins (s : State) (h : Levels) : (s.setOverloadHold h).pins = s.pins := rfl
@[simp] theorem State.setOverloadHold_regs (s : State) (h : Levels) : (s.setOverloadHold h).regs = s.regs := rfl
@[simp] theorem State.setOverloadHold_mem (s : State) (h : Levels) : (s.setOverloadHold h).mem = s.mem := rfl
@[simp] theorem State.setOverloadHold_sweeper (s : State) (h : Levels) : (s.setOverloadHold h).sweeper = s.sweeper := rfl
@[simp] theorem State.setOverloadHold_waiting (s : State) (h : Levels) : (s.setOverloadHold h).waiting = s.waiting := rfl
@[simp] theorem State.setOverloadHold_notices (s : State) (h : Levels) : (s.setOverloadHold h).notices = s.notices := rfl
@[simp] theorem State.setOverloadHold_stations (s : State) (h : Levels) : (s.setOverloadHold h).stations = s.stations := rfl
@[simp] theorem State.setOverloadHold_holds (s : State) (h : Levels) : (s.setOverloadHold h).holds = s.holds := rfl
@[simp] theorem State.setOverloadHold_crosspoint (s : State) (h : Levels) : (s.setOverloadHold h).crosspoint = s.crosspoint := rfl
@[simp] theorem State.setOverloadHold_overloadHold (s : State) (h : Levels) : (s.setOverloadHold h).overloadHold = h := rfl
@[simp] theorem State.setOverloadHold_tracker (s : State) (h : Levels) : (s.setOverloadHold h).tracker = s.tracker := rfl
@[simp] theorem State.setOverloadHold_engines (s : State) (h : Levels) : (s.setOverloadHold h).engines = s.engines := rfl
@[simp] theorem State.setOverloadHold_cache (s : State) (h : Levels) : (s.setOverloadHold h).cache = s.cache := rfl
@[simp] theorem State.setOverloadHold_msTicks (s : State) (h : Levels) : (s.setOverloadHold h).msTicks = s.msTicks := rfl
@[simp] theorem State.setOverloadHold_freeReads (s : State) (h : Levels) : (s.setOverloadHold h).freeReads = s.freeReads := rfl
@[simp] theorem State.setOverloadHold_pending (s : State) (h : Levels) : (s.setOverloadHold h).pending = s.pending := rfl

@[simp] theorem State.put_port (s : State) (a : Nat) (bs : List Byte) : (s.put a bs).port = s.port := rfl
@[simp] theorem State.put_pins (s : State) (a : Nat) (bs : List Byte) : (s.put a bs).pins = s.pins := rfl
@[simp] theorem State.put_regs (s : State) (a : Nat) (bs : List Byte) : (s.put a bs).regs = s.regs := rfl
@[simp] theorem State.put_mem (s : State) (a : Nat) (bs : List Byte) : (s.put a bs).mem = Memory.writeBytes s.mem a bs := rfl
@[simp] theorem State.put_sweeper (s : State) (a : Nat) (bs : List Byte) : (s.put a bs).sweeper = s.sweeper := rfl
@[simp] theorem State.put_waiting (s : State) (a : Nat) (bs : List Byte) : (s.put a bs).waiting = s.waiting := rfl
@[simp] theorem State.put_notices (s : State) (a : Nat) (bs : List Byte) : (s.put a bs).notices = s.notices := rfl
@[simp] theorem State.put_stations (s : State) (a : Nat) (bs : List Byte) : (s.put a bs).stations = s.stations := rfl
@[simp] theorem State.put_holds (s : State) (a : Nat) (bs : List Byte) : (s.put a bs).holds = s.holds := rfl
@[simp] theorem State.put_crosspoint (s : State) (a : Nat) (bs : List Byte) : (s.put a bs).crosspoint = s.crosspoint := rfl
@[simp] theorem State.put_overloadHold (s : State) (a : Nat) (bs : List Byte) : (s.put a bs).overloadHold = s.overloadHold := rfl
@[simp] theorem State.put_tracker (s : State) (a : Nat) (bs : List Byte) : (s.put a bs).tracker = s.tracker := rfl
@[simp] theorem State.put_engines (s : State) (a : Nat) (bs : List Byte) : (s.put a bs).engines = s.engines := rfl
@[simp] theorem State.put_cache (s : State) (a : Nat) (bs : List Byte) : (s.put a bs).cache = s.cache := rfl
@[simp] theorem State.put_msTicks (s : State) (a : Nat) (bs : List Byte) : (s.put a bs).msTicks = s.msTicks := rfl
@[simp] theorem State.put_freeReads (s : State) (a : Nat) (bs : List Byte) : (s.put a bs).freeReads = s.freeReads := rfl
@[simp] theorem State.put_pending (s : State) (a : Nat) (bs : List Byte) : (s.put a bs).pending = s.pending := rfl

@[simp] theorem State.modEngine_port (s : State) (e : EngineId) (f : Engine → Engine) : (s.modEngine e f).port = s.port := rfl
@[simp] theorem State.modEngine_pins (s : State) (e : EngineId) (f : Engine → Engine) : (s.modEngine e f).pins = s.pins := rfl
@[simp] theorem State.modEngine_regs (s : State) (e : EngineId) (f : Engine → Engine) : (s.modEngine e f).regs = s.regs := rfl
@[simp] theorem State.modEngine_mem (s : State) (e : EngineId) (f : Engine → Engine) : (s.modEngine e f).mem = s.mem := rfl
@[simp] theorem State.modEngine_sweeper (s : State) (e : EngineId) (f : Engine → Engine) : (s.modEngine e f).sweeper = s.sweeper := rfl
@[simp] theorem State.modEngine_waiting (s : State) (e : EngineId) (f : Engine → Engine) : (s.modEngine e f).waiting = s.waiting := rfl
@[simp] theorem State.modEngine_notices (s : State) (e : EngineId) (f : Engine → Engine) : (s.modEngine e f).notices = s.notices := rfl
@[simp] theorem State.modEngine_stations (s : State) (e : EngineId) (f : Engine → Engine) : (s.modEngine e f).stations = s.stations := rfl
@[simp] theorem State.modEngine_holds (s : State) (e : EngineId) (f : Engine → Engine) : (s.modEngine e f).holds = s.holds := rfl
@[simp] theorem State.modEngine_crosspoint (s : State) (e : EngineId) (f : Engine → Engine) : (s.modEngine e f).crosspoint = s.crosspoint := rfl
@[simp] theorem State.modEngine_overloadHold (s : State) (e : EngineId) (f : Engine → Engine) : (s.modEngine e f).overloadHold = s.overloadHold := rfl
@[simp] theorem State.modEngine_tracker (s : State) (e : EngineId) (f : Engine → Engine) : (s.modEngine e f).tracker = s.tracker := rfl
@[simp] theorem State.modEngine_engines (s : State) (e : EngineId) (f : Engine → Engine) : (s.modEngine e f).engines = s.engines.set e.val (f (s.engine e)) := rfl
@[simp] theorem State.modEngine_cache (s : State) (e : EngineId) (f : Engine → Engine) : (s.modEngine e f).cache = s.cache := rfl
@[simp] theorem State.modEngine_msTicks (s : State) (e : EngineId) (f : Engine → Engine) : (s.modEngine e f).msTicks = s.msTicks := rfl
@[simp] theorem State.modEngine_freeReads (s : State) (e : EngineId) (f : Engine → Engine) : (s.modEngine e f).freeReads = s.freeReads := rfl
@[simp] theorem State.modEngine_pending (s : State) (e : EngineId) (f : Engine → Engine) : (s.modEngine e f).pending = s.pending := rfl

@[simp] theorem State.modStation_port (s : State) (n : StationId) (f : Station → Station) : (s.modStation n f).port = s.port := rfl
@[simp] theorem State.modStation_pins (s : State) (n : StationId) (f : Station → Station) : (s.modStation n f).pins = s.pins := rfl
@[simp] theorem State.modStation_regs (s : State) (n : StationId) (f : Station → Station) : (s.modStation n f).regs = s.regs := rfl
@[simp] theorem State.modStation_mem (s : State) (n : StationId) (f : Station → Station) : (s.modStation n f).mem = s.mem := rfl
@[simp] theorem State.modStation_sweeper (s : State) (n : StationId) (f : Station → Station) : (s.modStation n f).sweeper = s.sweeper := rfl
@[simp] theorem State.modStation_waiting (s : State) (n : StationId) (f : Station → Station) : (s.modStation n f).waiting = s.waiting := rfl
@[simp] theorem State.modStation_notices (s : State) (n : StationId) (f : Station → Station) : (s.modStation n f).notices = s.notices := rfl
@[simp] theorem State.modStation_stations (s : State) (n : StationId) (f : Station → Station) : (s.modStation n f).stations = s.stations.set n.val (f (s.station n)) := rfl
@[simp] theorem State.modStation_holds (s : State) (n : StationId) (f : Station → Station) : (s.modStation n f).holds = s.holds := rfl
@[simp] theorem State.modStation_crosspoint (s : State) (n : StationId) (f : Station → Station) : (s.modStation n f).crosspoint = s.crosspoint := rfl
@[simp] theorem State.modStation_overloadHold (s : State) (n : StationId) (f : Station → Station) : (s.modStation n f).overloadHold = s.overloadHold := rfl
@[simp] theorem State.modStation_tracker (s : State) (n : StationId) (f : Station → Station) : (s.modStation n f).tracker = s.tracker := rfl
@[simp] theorem State.modStation_engines (s : State) (n : StationId) (f : Station → Station) : (s.modStation n f).engines = s.engines := rfl
@[simp] theorem State.modStation_cache (s : State) (n : StationId) (f : Station → Station) : (s.modStation n f).cache = s.cache := rfl
@[simp] theorem State.modStation_msTicks (s : State) (n : StationId) (f : Station → Station) : (s.modStation n f).msTicks = s.msTicks := rfl
@[simp] theorem State.modStation_freeReads (s : State) (n : StationId) (f : Station → Station) : (s.modStation n f).freeReads = s.freeReads := rfl
@[simp] theorem State.modStation_pending (s : State) (n : StationId) (f : Station → Station) : (s.modStation n f).pending = s.pending := rfl

@[simp] theorem State.setHold_port (s : State) (n : StationId) (h : Option EngineId) : (s.setHold n h).port = s.port := rfl
@[simp] theorem State.setHold_pins (s : State) (n : StationId) (h : Option EngineId) : (s.setHold n h).pins = s.pins := rfl
@[simp] theorem State.setHold_regs (s : State) (n : StationId) (h : Option EngineId) : (s.setHold n h).regs = s.regs := rfl
@[simp] theorem State.setHold_mem (s : State) (n : StationId) (h : Option EngineId) : (s.setHold n h).mem = s.mem := rfl
@[simp] theorem State.setHold_sweeper (s : State) (n : StationId) (h : Option EngineId) : (s.setHold n h).sweeper = s.sweeper := rfl
@[simp] theorem State.setHold_waiting (s : State) (n : StationId) (h : Option EngineId) : (s.setHold n h).waiting = s.waiting := rfl
@[simp] theorem State.setHold_notices (s : State) (n : StationId) (h : Option EngineId) : (s.setHold n h).notices = s.notices := rfl
@[simp] theorem State.setHold_stations (s : State) (n : StationId) (h : Option EngineId) : (s.setHold n h).stations = s.stations := rfl
@[simp] theorem State.setHold_holds (s : State) (n : StationId) (h : Option EngineId) : (s.setHold n h).holds = s.holds.set n.val h := rfl
@[simp] theorem State.setHold_crosspoint (s : State) (n : StationId) (h : Option EngineId) : (s.setHold n h).crosspoint = s.crosspoint := rfl
@[simp] theorem State.setHold_overloadHold (s : State) (n : StationId) (h : Option EngineId) : (s.setHold n h).overloadHold = s.overloadHold := rfl
@[simp] theorem State.setHold_tracker (s : State) (n : StationId) (h : Option EngineId) : (s.setHold n h).tracker = s.tracker := rfl
@[simp] theorem State.setHold_engines (s : State) (n : StationId) (h : Option EngineId) : (s.setHold n h).engines = s.engines := rfl
@[simp] theorem State.setHold_cache (s : State) (n : StationId) (h : Option EngineId) : (s.setHold n h).cache = s.cache := rfl
@[simp] theorem State.setHold_msTicks (s : State) (n : StationId) (h : Option EngineId) : (s.setHold n h).msTicks = s.msTicks := rfl
@[simp] theorem State.setHold_freeReads (s : State) (n : StationId) (h : Option EngineId) : (s.setHold n h).freeReads = s.freeReads := rfl
@[simp] theorem State.setHold_pending (s : State) (n : StationId) (h : Option EngineId) : (s.setHold n h).pending = s.pending := rfl

@[simp] theorem State.setPoint_port (s : State) (e : EngineId) (n : Option StationId) : (s.setPoint e n).port = s.port := rfl
@[simp] theorem State.setPoint_pins (s : State) (e : EngineId) (n : Option StationId) : (s.setPoint e n).pins = s.pins := rfl
@[simp] theorem State.setPoint_regs (s : State) (e : EngineId) (n : Option StationId) : (s.setPoint e n).regs = s.regs := rfl
@[simp] theorem State.setPoint_mem (s : State) (e : EngineId) (n : Option StationId) : (s.setPoint e n).mem = s.mem := rfl
@[simp] theorem State.setPoint_sweeper (s : State) (e : EngineId) (n : Option StationId) : (s.setPoint e n).sweeper = s.sweeper := rfl
@[simp] theorem State.setPoint_waiting (s : State) (e : EngineId) (n : Option StationId) : (s.setPoint e n).waiting = s.waiting := rfl
@[simp] theorem State.setPoint_notices (s : State) (e : EngineId) (n : Option StationId) : (s.setPoint e n).notices = s.notices := rfl
@[simp] theorem State.setPoint_stations (s : State) (e : EngineId) (n : Option StationId) : (s.setPoint e n).stations = s.stations := rfl
@[simp] theorem State.setPoint_holds (s : State) (e : EngineId) (n : Option StationId) : (s.setPoint e n).holds = s.holds := rfl
@[simp] theorem State.setPoint_crosspoint (s : State) (e : EngineId) (n : Option StationId) : (s.setPoint e n).crosspoint = s.crosspoint.set e.val n := rfl
@[simp] theorem State.setPoint_overloadHold (s : State) (e : EngineId) (n : Option StationId) : (s.setPoint e n).overloadHold = s.overloadHold := rfl
@[simp] theorem State.setPoint_tracker (s : State) (e : EngineId) (n : Option StationId) : (s.setPoint e n).tracker = s.tracker := rfl
@[simp] theorem State.setPoint_engines (s : State) (e : EngineId) (n : Option StationId) : (s.setPoint e n).engines = s.engines := rfl
@[simp] theorem State.setPoint_cache (s : State) (e : EngineId) (n : Option StationId) : (s.setPoint e n).cache = s.cache := rfl
@[simp] theorem State.setPoint_msTicks (s : State) (e : EngineId) (n : Option StationId) : (s.setPoint e n).msTicks = s.msTicks := rfl
@[simp] theorem State.setPoint_freeReads (s : State) (e : EngineId) (n : Option StationId) : (s.setPoint e n).freeReads = s.freeReads := rfl
@[simp] theorem State.setPoint_pending (s : State) (e : EngineId) (n : Option StationId) : (s.setPoint e n).pending = s.pending := rfl

@[simp] theorem State.setQuestion_port (s : State) (e : EngineId) (q : Option Question) : (s.setQuestion e q).port = s.port := rfl
@[simp] theorem State.setQuestion_pins (s : State) (e : EngineId) (q : Option Question) : (s.setQuestion e q).pins = s.pins := rfl
@[simp] theorem State.setQuestion_regs (s : State) (e : EngineId) (q : Option Question) : (s.setQuestion e q).regs = s.regs := rfl
@[simp] theorem State.setQuestion_mem (s : State) (e : EngineId) (q : Option Question) : (s.setQuestion e q).mem = s.mem := rfl
@[simp] theorem State.setQuestion_sweeper (s : State) (e : EngineId) (q : Option Question) : (s.setQuestion e q).sweeper = s.sweeper := rfl
@[simp] theorem State.setQuestion_waiting (s : State) (e : EngineId) (q : Option Question) : (s.setQuestion e q).waiting = s.waiting := rfl
@[simp] theorem State.setQuestion_notices (s : State) (e : EngineId) (q : Option Question) : (s.setQuestion e q).notices = s.notices := rfl
@[simp] theorem State.setQuestion_stations (s : State) (e : EngineId) (q : Option Question) : (s.setQuestion e q).stations = s.stations := rfl
@[simp] theorem State.setQuestion_holds (s : State) (e : EngineId) (q : Option Question) : (s.setQuestion e q).holds = s.holds := rfl
@[simp] theorem State.setQuestion_crosspoint (s : State) (e : EngineId) (q : Option Question) : (s.setQuestion e q).crosspoint = s.crosspoint := rfl
@[simp] theorem State.setQuestion_overloadHold (s : State) (e : EngineId) (q : Option Question) : (s.setQuestion e q).overloadHold = s.overloadHold := rfl
@[simp] theorem State.setQuestion_tracker (s : State) (e : EngineId) (q : Option Question) : (s.setQuestion e q).tracker = { s.tracker with questions := s.tracker.questions.set e.val q } := rfl
@[simp] theorem State.setQuestion_engines (s : State) (e : EngineId) (q : Option Question) : (s.setQuestion e q).engines = s.engines := rfl
@[simp] theorem State.setQuestion_cache (s : State) (e : EngineId) (q : Option Question) : (s.setQuestion e q).cache = s.cache := rfl
@[simp] theorem State.setQuestion_msTicks (s : State) (e : EngineId) (q : Option Question) : (s.setQuestion e q).msTicks = s.msTicks := rfl
@[simp] theorem State.setQuestion_freeReads (s : State) (e : EngineId) (q : Option Question) : (s.setQuestion e q).freeReads = s.freeReads := rfl
@[simp] theorem State.setQuestion_pending (s : State) (e : EngineId) (q : Option Question) : (s.setQuestion e q).pending = s.pending := rfl

@[simp] theorem State.setWatch_port (s : State) (e : EngineId) (w : Option Watch) : (s.setWatch e w).port = s.port := rfl
@[simp] theorem State.setWatch_pins (s : State) (e : EngineId) (w : Option Watch) : (s.setWatch e w).pins = s.pins := rfl
@[simp] theorem State.setWatch_regs (s : State) (e : EngineId) (w : Option Watch) : (s.setWatch e w).regs = s.regs := rfl
@[simp] theorem State.setWatch_mem (s : State) (e : EngineId) (w : Option Watch) : (s.setWatch e w).mem = s.mem := rfl
@[simp] theorem State.setWatch_sweeper (s : State) (e : EngineId) (w : Option Watch) : (s.setWatch e w).sweeper = s.sweeper := rfl
@[simp] theorem State.setWatch_waiting (s : State) (e : EngineId) (w : Option Watch) : (s.setWatch e w).waiting = s.waiting := rfl
@[simp] theorem State.setWatch_notices (s : State) (e : EngineId) (w : Option Watch) : (s.setWatch e w).notices = s.notices := rfl
@[simp] theorem State.setWatch_stations (s : State) (e : EngineId) (w : Option Watch) : (s.setWatch e w).stations = s.stations := rfl
@[simp] theorem State.setWatch_holds (s : State) (e : EngineId) (w : Option Watch) : (s.setWatch e w).holds = s.holds := rfl
@[simp] theorem State.setWatch_crosspoint (s : State) (e : EngineId) (w : Option Watch) : (s.setWatch e w).crosspoint = s.crosspoint := rfl
@[simp] theorem State.setWatch_overloadHold (s : State) (e : EngineId) (w : Option Watch) : (s.setWatch e w).overloadHold = s.overloadHold := rfl
@[simp] theorem State.setWatch_tracker (s : State) (e : EngineId) (w : Option Watch) : (s.setWatch e w).tracker = { s.tracker with watches := s.tracker.watches.set e.val w } := rfl
@[simp] theorem State.setWatch_engines (s : State) (e : EngineId) (w : Option Watch) : (s.setWatch e w).engines = s.engines := rfl
@[simp] theorem State.setWatch_cache (s : State) (e : EngineId) (w : Option Watch) : (s.setWatch e w).cache = s.cache := rfl
@[simp] theorem State.setWatch_msTicks (s : State) (e : EngineId) (w : Option Watch) : (s.setWatch e w).msTicks = s.msTicks := rfl
@[simp] theorem State.setWatch_freeReads (s : State) (e : EngineId) (w : Option Watch) : (s.setWatch e w).freeReads = s.freeReads := rfl
@[simp] theorem State.setWatch_pending (s : State) (e : EngineId) (w : Option Watch) : (s.setWatch e w).pending = s.pending := rfl

@[simp] theorem State.sampleEcho_port (s : State) (echo : Levels) : (s.sampleEcho echo).port = s.port := rfl
@[simp] theorem State.sampleEcho_regs (s : State) (echo : Levels) : (s.sampleEcho echo).regs = s.regs := rfl
@[simp] theorem State.sampleEcho_mem (s : State) (echo : Levels) : (s.sampleEcho echo).mem = s.mem := rfl
@[simp] theorem State.sampleEcho_sweeper (s : State) (echo : Levels) : (s.sampleEcho echo).sweeper = s.sweeper := rfl
@[simp] theorem State.sampleEcho_waiting (s : State) (echo : Levels) : (s.sampleEcho echo).waiting = s.waiting := rfl
@[simp] theorem State.sampleEcho_notices (s : State) (echo : Levels) : (s.sampleEcho echo).notices = s.notices := rfl
@[simp] theorem State.sampleEcho_stations (s : State) (echo : Levels) : (s.sampleEcho echo).stations = s.stations := rfl
@[simp] theorem State.sampleEcho_holds (s : State) (echo : Levels) : (s.sampleEcho echo).holds = s.holds := rfl
@[simp] theorem State.sampleEcho_crosspoint (s : State) (echo : Levels) : (s.sampleEcho echo).crosspoint = s.crosspoint := rfl
@[simp] theorem State.sampleEcho_overloadHold (s : State) (echo : Levels) : (s.sampleEcho echo).overloadHold = s.overloadHold := rfl
@[simp] theorem State.sampleEcho_tracker (s : State) (echo : Levels) : (s.sampleEcho echo).tracker = s.tracker := rfl
@[simp] theorem State.sampleEcho_engines (s : State) (echo : Levels) : (s.sampleEcho echo).engines = s.engines := rfl
@[simp] theorem State.sampleEcho_cache (s : State) (echo : Levels) : (s.sampleEcho echo).cache = s.cache := rfl
@[simp] theorem State.sampleEcho_msTicks (s : State) (echo : Levels) : (s.sampleEcho echo).msTicks = s.msTicks := rfl
@[simp] theorem State.sampleEcho_freeReads (s : State) (echo : Levels) : (s.sampleEcho echo).freeReads = s.freeReads := rfl
@[simp] theorem State.sampleEcho_pending (s : State) (echo : Levels) : (s.sampleEcho echo).pending = s.pending := rfl
@[simp] theorem State.sampleEcho_pins (s : State) (echo : Levels) :
    (s.sampleEcho echo).pins = { s.pins with echo := echo } := rfl

@[simp] theorem State.countFree_port (s : State) (used : Bool) : (s.countFree used).port = s.port := by
  unfold State.countFree; split <;> rfl
@[simp] theorem State.countFree_pins (s : State) (used : Bool) : (s.countFree used).pins = s.pins := by
  unfold State.countFree; split <;> rfl
@[simp] theorem State.countFree_regs (s : State) (used : Bool) : (s.countFree used).regs = s.regs := by
  unfold State.countFree; split <;> rfl
@[simp] theorem State.countFree_mem (s : State) (used : Bool) : (s.countFree used).mem = s.mem := by
  unfold State.countFree; split <;> rfl
@[simp] theorem State.countFree_sweeper (s : State) (used : Bool) : (s.countFree used).sweeper = s.sweeper := by
  unfold State.countFree; split <;> rfl
@[simp] theorem State.countFree_waiting (s : State) (used : Bool) : (s.countFree used).waiting = s.waiting := by
  unfold State.countFree; split <;> rfl
@[simp] theorem State.countFree_notices (s : State) (used : Bool) : (s.countFree used).notices = s.notices := by
  unfold State.countFree; split <;> rfl
@[simp] theorem State.countFree_stations (s : State) (used : Bool) : (s.countFree used).stations = s.stations := by
  unfold State.countFree; split <;> rfl
@[simp] theorem State.countFree_holds (s : State) (used : Bool) : (s.countFree used).holds = s.holds := by
  unfold State.countFree; split <;> rfl
@[simp] theorem State.countFree_crosspoint (s : State) (used : Bool) : (s.countFree used).crosspoint = s.crosspoint := by
  unfold State.countFree; split <;> rfl
@[simp] theorem State.countFree_overloadHold (s : State) (used : Bool) : (s.countFree used).overloadHold = s.overloadHold := by
  unfold State.countFree; split <;> rfl
@[simp] theorem State.countFree_tracker (s : State) (used : Bool) : (s.countFree used).tracker = s.tracker := by
  unfold State.countFree; split <;> rfl
@[simp] theorem State.countFree_engines (s : State) (used : Bool) : (s.countFree used).engines = s.engines := by
  unfold State.countFree; split <;> rfl
@[simp] theorem State.countFree_cache (s : State) (used : Bool) : (s.countFree used).cache = s.cache := by
  unfold State.countFree; split <;> rfl
@[simp] theorem State.countFree_msTicks (s : State) (used : Bool) : (s.countFree used).msTicks = s.msTicks := by
  unfold State.countFree; split <;> rfl
@[simp] theorem State.countFree_pending (s : State) (used : Bool) : (s.countFree used).pending = s.pending := by
  unfold State.countFree; split <;> rfl
@[simp] theorem State.countFree_freeReads (s : State) (used : Bool) :
    (s.countFree used).freeReads = s.freeReads + used.toNat := by
  cases used <;> rfl

end Sys2Proof.Machine
end

