-- ==== Sys2Proof/Laws/Places.lean ====
section
/-! SUPPORT. What one engine's, station's, point's, question's or watch's place reads after an update of a place. -/

namespace Sys2Proof.Machine

theorem State.engine_modEngine (s : State) (e e' : EngineId) (f : Engine → Engine) :
    (s.modEngine e f).engine e' = if e' = e then f (s.engine e) else s.engine e' := by
  simp only [State.engine, State.modEngine, Vector.getElem_set]
  by_cases h : e' = e
  · subst h; simp
  · have : e.val ≠ e'.val := fun x => h (Fin.ext x.symm)
    simp [h, this]

@[simp] theorem State.engine_modEngine_self (s : State) (e : EngineId) (f : Engine → Engine) :
    (s.modEngine e f).engine e = f (s.engine e) := by simp [State.engine_modEngine]

theorem State.engine_modEngine_other (s : State) (e e' : EngineId) (f : Engine → Engine) (h : e' ≠ e) :
    (s.modEngine e f).engine e' = s.engine e' := by simp [State.engine_modEngine, h]

theorem State.station_modStation (s : State) (n n' : StationId) (f : Station → Station) :
    (s.modStation n f).station n' = if n' = n then f (s.station n) else s.station n' := by
  simp only [State.station, State.modStation, Vector.getElem_set]
  by_cases h : n' = n
  · subst h; simp
  · have : n.val ≠ n'.val := fun x => h (Fin.ext x.symm)
    simp [h, this]

@[simp] theorem State.station_modStation_self (s : State) (n : StationId) (f : Station → Station) :
    (s.modStation n f).station n = f (s.station n) := by simp [State.station_modStation]

theorem State.station_modStation_other (s : State) (n n' : StationId) (f : Station → Station) (h : n' ≠ n) :
    (s.modStation n f).station n' = s.station n' := by simp [State.station_modStation, h]

theorem State.holder_setHold (s : State) (n n' : StationId) (h : Option EngineId) :
    (s.setHold n h).holder n' = if n' = n then h else s.holder n' := by
  simp only [State.holder, State.setHold, Vector.getElem_set]
  by_cases x : n' = n
  · subst x; simp
  · have : n.val ≠ n'.val := fun y => x (Fin.ext y.symm)
    simp [x, this]

theorem State.point_setPoint (s : State) (e e' : EngineId) (n : Option StationId) :
    (s.setPoint e n).point e' = if e' = e then n else s.point e' := by
  simp only [State.point, State.setPoint, Vector.getElem_set]
  by_cases x : e' = e
  · subst x; simp
  · have : e.val ≠ e'.val := fun y => x (Fin.ext y.symm)
    simp [x, this]

theorem State.question_setQuestion (s : State) (e e' : EngineId) (q : Option Question) :
    (s.setQuestion e q).question e' = if e' = e then q else s.question e' := by
  simp only [State.question, State.setQuestion, Vector.getElem_set]
  by_cases x : e' = e
  · subst x; simp
  · have : e.val ≠ e'.val := fun y => x (Fin.ext y.symm)
    simp [x, this]

theorem State.watch_setWatch (s : State) (e e' : EngineId) (w : Option Watch) :
    (s.setWatch e w).watch e' = if e' = e then w else s.watch e' := by
  simp only [State.watch, State.setWatch, Vector.getElem_set]
  by_cases x : e' = e
  · subst x; simp
  · have : e.val ≠ e'.val := fun y => x (Fin.ext y.symm)
    simp [x, this]

end Sys2Proof.Machine
end

