-- ==== Sys2Proof/Laws/Beside.lean ====
section
/-! SUPPORT. What the blocks leave: the queue, the port, the pins and the registers but for the attention causes. -/

namespace Sys2Proof.Machine

/-- Port, pins, the model's own fields and the registers but for the causes are as before. -/
structure Beside (s t : State) : Prop where
  port : t.port = s.port
  pins : t.pins = s.pins
  regs : t.regs = { s.regs with causes := t.regs.causes }
  msTicks : t.msTicks = s.msTicks
  freeReads : t.freeReads = s.freeReads
  pending : t.pending = s.pending

theorem Beside.refl (s : State) : Beside s s := ⟨rfl, rfl, rfl, rfl, rfl, rfl⟩

variable {s t : State}

theorem forAll_beside {α : Type} (h : Beside s t) (act : α → State → State)
    (hk : ∀ x (u : State), Beside s u → Beside s (act x u)) (xs : List α) : Beside s (forAll xs act t) := by
  induction xs generalizing t with
  | nil => exact h
  | cons x xs ih => exact ih (hk x t h)

theorem put_beside (h : Beside s t) (a : Nat) (bs : List Byte) : Beside s (t.put a bs) := ⟨h.port, h.pins, h.regs, h.msTicks, h.freeReads, h.pending⟩
theorem setSweeper_beside (h : Beside s t) (w : Sweeper) : Beside s (t.setSweeper w) := ⟨h.port, h.pins, h.regs, h.msTicks, h.freeReads, h.pending⟩
theorem setWaiting_beside (h : Beside s t) (l : List Entry) : Beside s (t.setWaiting l) := ⟨h.port, h.pins, h.regs, h.msTicks, h.freeReads, h.pending⟩
theorem setNotices_beside (h : Beside s t) (l : List Notice) : Beside s (t.setNotices l) := ⟨h.port, h.pins, h.regs, h.msTicks, h.freeReads, h.pending⟩
theorem setCache_beside (h : Beside s t) (c : Cache) : Beside s (t.setCache c) := ⟨h.port, h.pins, h.regs, h.msTicks, h.freeReads, h.pending⟩
theorem modEngine_beside (h : Beside s t) (e : EngineId) (f : Engine → Engine) : Beside s (t.modEngine e f) := ⟨h.port, h.pins, h.regs, h.msTicks, h.freeReads, h.pending⟩
theorem modStation_beside (h : Beside s t) (n : StationId) (f : Station → Station) : Beside s (t.modStation n f) := ⟨h.port, h.pins, h.regs, h.msTicks, h.freeReads, h.pending⟩
theorem setHold_beside (h : Beside s t) (n : StationId) (x : Option EngineId) : Beside s (t.setHold n x) := ⟨h.port, h.pins, h.regs, h.msTicks, h.freeReads, h.pending⟩
theorem setPoint_beside (h : Beside s t) (e : EngineId) (n : Option StationId) : Beside s (t.setPoint e n) := ⟨h.port, h.pins, h.regs, h.msTicks, h.freeReads, h.pending⟩
theorem setQuestion_beside (h : Beside s t) (e : EngineId) (q : Option Question) : Beside s (t.setQuestion e q) := ⟨h.port, h.pins, h.regs, h.msTicks, h.freeReads, h.pending⟩
theorem setWatch_beside (h : Beside s t) (e : EngineId) (w : Option Watch) : Beside s (t.setWatch e w) := ⟨h.port, h.pins, h.regs, h.msTicks, h.freeReads, h.pending⟩
theorem raise_beside (h : Beside s t) (c : BitVec 5) : Beside s (t.raise c) := ⟨h.port, h.pins, by simp only [State.raise, State.setRegs_regs]; rw [h.regs], h.msTicks, h.freeReads, h.pending⟩
theorem setTracker_beside (h : Beside s t) (k : Tracker) : Beside s (t.setTracker k) := ⟨h.port, h.pins, h.regs, h.msTicks, h.freeReads, h.pending⟩

/-! ## Derived updates -/

theorem setPhase_beside (h : Beside s t) (e : EngineId) (p : Phase) : Beside s (t.setPhase e p) := by
  unfold State.setPhase
  repeat' first
    | with_reducible assumption | intro _ | with_reducible apply modEngine_beside | (dsimp only) | split

theorem closeWatch_beside (h : Beside s t) (e : EngineId) : Beside s (t.closeWatch e) := by
  unfold State.closeWatch
  repeat' first
    | with_reducible assumption | intro _ | with_reducible apply setWatch_beside | (dsimp only) | split

theorem withdrawQuestion_beside (h : Beside s t) (e : EngineId) : Beside s (t.withdrawQuestion e) := by
  unfold State.withdrawQuestion
  repeat' first
    | with_reducible assumption | intro _ | with_reducible apply setQuestion_beside | (dsimp only) | split

theorem addFlag_beside (h : Beside s t) (e : EngineId) (f : Half) : Beside s (t.addFlag e f) := by
  unfold State.addFlag
  repeat' first
    | with_reducible assumption | intro _ | with_reducible apply modEngine_beside | (dsimp only) | split

theorem setVerdict_beside (h : Beside s t) (e : EngineId) (v : Verdict) : Beside s (t.setVerdict e v) := by
  unfold State.setVerdict
  repeat' first
    | with_reducible assumption | intro _ | with_reducible apply modEngine_beside | (dsimp only) | split

theorem toWriting_beside (h : Beside s t) (e : EngineId) : Beside s (t.toWriting e) := by
  unfold State.toWriting
  repeat' first
    | with_reducible assumption | intro _ | with_reducible apply setPhase_beside | (dsimp only) | split

theorem stopNow_beside (h : Beside s t) (e : EngineId) : Beside s (t.stopNow e) := by
  unfold State.stopNow
  repeat' first
    | with_reducible assumption | intro _ | with_reducible apply modEngine_beside
    | with_reducible apply closeWatch_beside | with_reducible apply withdrawQuestion_beside
    | (dsimp only) | split

theorem faultStop_beside (h : Beside s t) (e : EngineId) (c : FaultCause) : Beside s (t.faultStop e c) := by
  unfold State.faultStop
  repeat' first
    | with_reducible assumption | intro _ | with_reducible apply modEngine_beside
    | with_reducible apply stopNow_beside | (dsimp only) | split

theorem beginSettling_beside (h : Beside s t) (e : EngineId) : Beside s (t.beginSettling e) := by
  unfold State.beginSettling
  repeat' first
    | with_reducible assumption | intro _ | with_reducible apply modEngine_beside | (dsimp only) | split

theorem beginScoring_beside (h : Beside s t) (e : EngineId) : Beside s (t.beginScoring e) := by
  unfold State.beginScoring
  repeat' first
    | with_reducible assumption | intro _ | with_reducible apply modEngine_beside | (dsimp only) | split

theorem evaluatePermit_beside (h : Beside s t) (n : StationId) : Beside s (t.evaluatePermit n) := by
  unfold State.evaluatePermit
  repeat' first
    | with_reducible assumption | intro _ | with_reducible apply modStation_beside | (dsimp only) | split

theorem tellList_beside (h : Beside s t) (n : StationId) (ev : StationEvent) : Beside s (t.tellList n ev) := by
  unfold State.tellList
  repeat' first
    | with_reducible assumption | intro _ | with_reducible apply setNotices_beside | (dsimp only) | split

theorem disturb_beside (h : Beside s t) (e : EngineId) (w : Watch) : Beside s (t.disturb e w) := by
  unfold State.disturb
  repeat' first
    | with_reducible assumption | intro _ | with_reducible apply modEngine_beside
    | with_reducible apply setWatch_beside | (dsimp only) | split

theorem raiseIf_beside (h : Beside s t) (b : Bool) (c : BitVec 5) : Beside s (t.raiseIf b c) := by
  unfold State.raiseIf
  repeat' first
    | with_reducible assumption | intro _ | with_reducible apply raise_beside | (dsimp only) | split

/-! ## Stations (03) -/

theorem writeSlot_beside (h : Beside s t) (n : StationId) (p : SlotId) (f : SlotFields) : Beside s (t.writeSlot n p f) := by
  unfold State.writeSlot
  repeat' first
    | with_reducible assumption | intro _ | with_reducible apply put_beside | (dsimp only) | split

theorem resetSlot_beside (h : Beside s t) (n : StationId) (p : SlotId) : Beside s (t.resetSlot n p) := by
  unfold State.resetSlot
  repeat' first
    | with_reducible assumption | intro _ | with_reducible apply writeSlot_beside | (dsimp only) | split

theorem resetSlots_beside (h : Beside s t) (n : StationId) (ps : List SlotId) : Beside s (t.resetSlots n ps) := by
  unfold State.resetSlots
  repeat' first
    | with_reducible assumption | intro _ | with_reducible apply resetSlot_beside
    | with_reducible apply forAll_beside | (dsimp only) | split

theorem refreshHeldPermit_beside (h : Beside s t) (n : StationId) : Beside s (t.refreshHeldPermit n) := by
  unfold State.refreshHeldPermit
  repeat' first
    | with_reducible assumption | intro _ | with_reducible apply modStation_beside | (dsimp only) | split

theorem stampAndFlag_beside (h : Beside s t) (n : StationId) : Beside s (t.stampAndFlag n) := by
  unfold State.stampAndFlag
  repeat' first
    | with_reducible assumption | intro _ | with_reducible apply put_beside
    | with_reducible apply raiseIf_beside | (dsimp only) | split

theorem settleRecord_beside (h : Beside s t) (n : StationId) (b : Byte × Byte × Byte) : Beside s (t.settleRecord n b) := by
  unfold State.settleRecord
  repeat' first
    | with_reducible assumption | intro _ | with_reducible apply put_beside
    | with_reducible apply evaluatePermit_beside | with_reducible apply stampAndFlag_beside
    | (dsimp only) | split

theorem stationEvent_beside (h : Beside s t) (n : StationId) (act : State → State)
    (ha : ∀ u : State, Beside s u → Beside s (act u)) : Beside s (t.stationEvent n act) := settleRecord_beside (ha t h) n _

theorem markLoss_beside (h : Beside s t) (n : StationId) (l : Loss) : Beside s (t.markLoss n l) := by
  unfold State.markLoss
  repeat' first
    | with_reducible assumption | intro _ | with_reducible apply modStation_beside | (dsimp only) | split

theorem sendStop_beside (h : Beside s t) (n : StationId) (x : Stop) : Beside s (t.sendStop n x) := by
  unfold State.sendStop
  repeat' first
    | with_reducible assumption | intro _ | with_reducible apply modEngine_beside | (dsimp only) | split

theorem clearFault_beside (h : Beside s t) (n : StationId) : Beside s (t.clearFault n) := by
  unfold State.clearFault
  repeat' first
    | with_reducible assumption | intro _ | with_reducible apply put_beside
    | with_reducible apply modStation_beside | with_reducible apply stationEvent_beside | (dsimp only) | split

theorem takeFault_beside (h : Beside s t) (n : StationId) (c : FaultCause) : Beside s (t.takeFault n c) := by
  unfold State.takeFault
  repeat' first
    | with_reducible assumption | intro _ | with_reducible apply put_beside
    | with_reducible apply modStation_beside | with_reducible apply tellList_beside
    | with_reducible apply resetSlots_beside | with_reducible apply refreshHeldPermit_beside
    | with_reducible apply stationEvent_beside | with_reducible apply markLoss_beside | (dsimp only) | split

theorem takeFit_beside (h : Beside s t) (n : StationId) : Beside s (t.takeFit n) := by
  unfold State.takeFit
  repeat' first
    | with_reducible assumption | intro _ | with_reducible apply put_beside
    | with_reducible apply modStation_beside | with_reducible apply stationEvent_beside | (dsimp only) | split

theorem takeRemoval_beside (h : Beside s t) (n : StationId) : Beside s (t.takeRemoval n) := by
  unfold State.takeRemoval
  repeat' first
    | with_reducible assumption | intro _ | with_reducible apply put_beside
    | with_reducible apply modStation_beside | with_reducible apply tellList_beside
    | with_reducible apply resetSlots_beside | with_reducible apply refreshHeldPermit_beside
    | with_reducible apply stationEvent_beside | with_reducible apply markLoss_beside
    | with_reducible apply sendStop_beside | (dsimp only) | split

/-! ## Engines and tracker (05, 04) -/

theorem takeStop_beside (h : Beside s t) (e : EngineId) (x : Stop) : Beside s (t.takeStop e x) := by
  unfold State.takeStop
  repeat' first
    | with_reducible assumption | intro _ | with_reducible apply modEngine_beside
    | with_reducible apply stopNow_beside | (dsimp only) | split

theorem startRound_beside (h : Beside s t) (e : EngineId) : Beside s (t.startRound e) := by
  unfold State.startRound
  repeat' first
    | with_reducible assumption | intro _ | with_reducible apply modEngine_beside
    | with_reducible apply addFlag_beside | (dsimp only) | split

theorem startFrame_beside (h : Beside s t) (e : EngineId) : Beside s (t.startFrame e) := by
  unfold State.startFrame
  repeat' first
    | with_reducible assumption | intro _ | with_reducible apply modEngine_beside | (dsimp only) | split

theorem startWork_beside (h : Beside s t) (e : EngineId) (w : Work) : Beside s (t.startWork e w) := by
  unfold State.startWork
  repeat' first
    | with_reducible assumption | intro _ | with_reducible apply faultStop_beside
    | with_reducible apply startRound_beside | with_reducible apply startFrame_beside | (dsimp only) | split

theorem judgeQuestion_beside (h : Beside s t) (e : EngineId) : Beside s (t.judgeQuestion e) := by
  unfold State.judgeQuestion
  repeat' first
    | with_reducible assumption | intro _ | with_reducible apply setQuestion_beside
    | with_reducible apply setWatch_beside | with_reducible apply startWork_beside | (dsimp only) | split

theorem judgeQuestions_beside (h : Beside s t) : Beside s (t.judgeQuestions) := by
  unfold State.judgeQuestions
  repeat' first
    | with_reducible assumption | intro _ | with_reducible apply judgeQuestion_beside
    | with_reducible apply forAll_beside | (dsimp only) | split

theorem askQuestion_beside (h : Beside s t) (e : EngineId) (w : Work) : Beside s (t.askQuestion e w) := by
  unfold State.askQuestion
  repeat' first
    | with_reducible assumption | intro _ | with_reducible apply setQuestion_beside
    | with_reducible apply setPhase_beside | with_reducible apply judgeQuestion_beside | (dsimp only) | split

theorem judgeWatch_beside (h : Beside s t) (e : EngineId) : Beside s (t.judgeWatch e) := by
  unfold State.judgeWatch
  repeat' first
    | with_reducible assumption | intro _ | with_reducible apply disturb_beside | (dsimp only) | split

theorem judgeWatches_beside (h : Beside s t) : Beside s (t.judgeWatches) := by
  unfold State.judgeWatches
  repeat' first
    | with_reducible assumption | intro _ | with_reducible apply judgeWatch_beside
    | with_reducible apply forAll_beside | (dsimp only) | split

theorem writeTracker_beside (h : Beside s t) : Beside s (t.writeTracker) := by
  unfold State.writeTracker
  repeat' first
    | with_reducible assumption | intro _ | with_reducible apply put_beside | (dsimp only) | split

theorem updateTracker_beside (h : Beside s t) (k : Tracker) (b : Bool) : Beside s (t.updateTracker k b) := by
  unfold State.updateTracker
  repeat' first
    | with_reducible assumption | intro _ | with_reducible apply raiseIf_beside
    | with_reducible apply setTracker_beside | with_reducible apply writeTracker_beside | (dsimp only) | split

theorem takeMclk_beside (h : Beside s t) (x : Half) : Beside s (t.takeMclk x) := by
  unfold State.takeMclk
  repeat' first
    | with_reducible assumption | intro _ | with_reducible apply judgeQuestions_beside
    | with_reducible apply judgeWatches_beside | with_reducible apply updateTracker_beside
    | (dsimp only) | split

theorem takeMidx_beside (h : Beside s t) (x : Half) : Beside s (t.takeMidx x) := by
  unfold State.takeMidx
  repeat' first
    | with_reducible assumption | intro _ | with_reducible apply judgeQuestions_beside
    | with_reducible apply judgeWatches_beside | with_reducible apply updateTracker_beside
    | (dsimp only) | split

theorem takeStopTimeout_beside (h : Beside s t) (b : Byte) : Beside s (t.takeStopTimeout b) := by
  unfold State.takeStopTimeout
  repeat' first
    | with_reducible assumption | intro _ | with_reducible apply judgeQuestions_beside
    | with_reducible apply updateTracker_beside | (dsimp only) | split

theorem restartTracker_beside (h : Beside s t) : Beside s (t.restartTracker) := by
  unfold State.restartTracker
  repeat' first
    | with_reducible assumption | intro _ | with_reducible apply judgeQuestions_beside
    | with_reducible apply judgeWatches_beside | with_reducible apply updateTracker_beside
    | (dsimp only) | split

/-! ## Steps of an engine (05, 08) -/

theorem toGating_beside (h : Beside s t) (e : EngineId) (w : Work) : Beside s (t.toGating e w) := by
  unfold State.toGating
  repeat' first
    | with_reducible assumption | intro _ | with_reducible apply setPhase_beside
    | with_reducible apply askQuestion_beside | (dsimp only) | split

theorem toSettling_beside (h : Beside s t) (e : EngineId) : Beside s (t.toSettling e) := by
  unfold State.toSettling
  repeat' first
    | with_reducible assumption | intro _ | with_reducible apply setPhase_beside
    | with_reducible apply beginSettling_beside | (dsimp only) | split

theorem toScoring_beside (h : Beside s t) (e : EngineId) : Beside s (t.toScoring e) := by
  unfold State.toScoring
  repeat' first
    | with_reducible assumption | intro _ | with_reducible apply setPhase_beside
    | with_reducible apply beginScoring_beside | (dsimp only) | split

theorem lookupUnlisted_beside (h : Beside s t) (e : EngineId) : Beside s (t.lookupUnlisted e) := by
  unfold State.lookupUnlisted
  repeat' first
    | with_reducible assumption | intro _ | with_reducible apply modEngine_beside
    | with_reducible apply setVerdict_beside | with_reducible apply toWriting_beside | (dsimp only) | split

theorem lookupFailed_beside (h : Beside s t) (e : EngineId) (i : ShelfId) (x : ErrorCode) : Beside s (t.lookupFailed e i x) := by
  unfold State.lookupFailed
  repeat' first
    | with_reducible assumption | intro _ | with_reducible apply modEngine_beside
    | with_reducible apply toWriting_beside | (dsimp only) | split

theorem lookupFound_beside (h : Beside s t) (e : EngineId) (i : ShelfId) (p : Profile) : Beside s (t.lookupFound e i p) := by
  unfold State.lookupFound
  repeat' first
    | with_reducible assumption | intro _ | with_reducible apply modEngine_beside
    | with_reducible apply addFlag_beside | with_reducible apply setVerdict_beside
    | with_reducible apply toWriting_beside | with_reducible apply toGating_beside | (dsimp only) | split

theorem beginLookup_beside (h : Beside s t) (e : EngineId) : Beside s (t.beginLookup e) := by
  unfold State.beginLookup
  repeat' first
    | with_reducible assumption | intro _ | with_reducible apply setCache_beside
    | with_reducible apply modEngine_beside | with_reducible apply addFlag_beside
    | with_reducible apply lookupFound_beside | (dsimp only) | split

theorem toLookup_beside (h : Beside s t) (e : EngineId) : Beside s (t.toLookup e) := by
  unfold State.toLookup
  repeat' first
    | with_reducible assumption | intro _ | with_reducible apply setPhase_beside
    | with_reducible apply beginLookup_beside | (dsimp only) | split

theorem offerRecord_beside (h : Beside s t) (e : EngineId) (i : ShelfId) (r : List Byte) : Beside s (t.offerRecord e i r) := by
  unfold State.offerRecord
  repeat' first
    | with_reducible assumption | intro _ | with_reducible apply setCache_beside | (dsimp only) | split

theorem passOver_beside (h : Beside s t) (e : EngineId) : Beside s (t.passOver e) := by
  unfold State.passOver
  repeat' first
    | with_reducible assumption | intro _ | with_reducible apply modEngine_beside
    | with_reducible apply lookupUnlisted_beside | (dsimp only) | split

theorem damagedCandidate_beside (h : Beside s t) (e : EngineId) : Beside s (t.damagedCandidate e) := by
  unfold State.damagedCandidate
  repeat' first
    | with_reducible assumption | intro _ | with_reducible apply modEngine_beside
    | with_reducible apply lookupFailed_beside | (dsimp only) | split

theorem readShelf_beside (h : Beside s t) (e : EngineId) : Beside s (t.readShelf e) := by
  unfold State.readShelf
  repeat' first
    | with_reducible assumption | intro _ | with_reducible apply modEngine_beside
    | with_reducible apply lookupFailed_beside | with_reducible apply lookupFound_beside
    | with_reducible apply offerRecord_beside | with_reducible apply passOver_beside
    | with_reducible apply damagedCandidate_beside | (dsimp only) | split

/-! ## Setup (03) -/

theorem disableStation_beside (h : Beside s t) (n : StationId) : Beside s (t.disableStation n) := by
  unfold State.disableStation
  repeat' first
    | with_reducible assumption | intro _ | with_reducible apply put_beside
    | with_reducible apply modStation_beside | with_reducible apply tellList_beside
    | with_reducible apply resetSlots_beside | with_reducible apply refreshHeldPermit_beside
    | with_reducible apply stationEvent_beside | with_reducible apply markLoss_beside
    | with_reducible apply sendStop_beside | (dsimp only) | split

theorem enableStation_beside (h : Beside s t) (n : StationId) : Beside s (t.enableStation n) := by
  unfold State.enableStation
  repeat' first
    | with_reducible assumption | intro _ | with_reducible apply modStation_beside
    | with_reducible apply stationEvent_beside | (dsimp only) | split

theorem changeRoster_beside (h : Beside s t) (n : StationId) (c : Setup) : Beside s (t.changeRoster n c) := by
  unfold State.changeRoster
  repeat' first
    | with_reducible assumption | intro _ | with_reducible apply modStation_beside
    | with_reducible apply tellList_beside | with_reducible apply resetSlots_beside
    | with_reducible apply stationEvent_beside | (dsimp only) | split

theorem changePolicy_beside (h : Beside s t) (n : StationId) (b : Bool) : Beside s (t.changePolicy n b) := by
  unfold State.changePolicy
  repeat' first
    | with_reducible assumption | intro _ | with_reducible apply modStation_beside
    | with_reducible apply evaluatePermit_beside | (dsimp only) | split

theorem changeRestart_beside (h : Beside s t) (n : StationId) (b : Bool) : Beside s (t.changeRestart n b) := by
  unfold State.changeRestart
  repeat' first
    | with_reducible assumption | intro _ | with_reducible apply modStation_beside | (dsimp only) | split

theorem changeArcs_beside (h : Beside s t) (n : StationId) (a b : Half) : Beside s (t.changeArcs n a b) := by
  unfold State.changeArcs
  repeat' first
    | with_reducible assumption | intro _ | with_reducible apply modStation_beside
    | with_reducible apply judgeQuestion_beside | (dsimp only) | split

theorem actOnSetup_beside (h : Beside s t) (n : StationId) (c : Setup) (b : Bool) : Beside s (t.actOnSetup n c b) := by
  unfold State.actOnSetup
  repeat' first
    | with_reducible assumption | intro _ | with_reducible apply disableStation_beside
    | with_reducible apply enableStation_beside | with_reducible apply changeRoster_beside
    | with_reducible apply changePolicy_beside | with_reducible apply changeRestart_beside
    | with_reducible apply changeArcs_beside | (dsimp only) | split

theorem setupNotice_beside (h : Beside s t) (n : StationId) : Beside s (t.setupNotice n) := by
  unfold State.setupNotice
  repeat' first
    | with_reducible assumption | intro _ | with_reducible apply modStation_beside
    | with_reducible apply actOnSetup_beside | (dsimp only) | split

theorem activateStation_beside (h : Beside s t) (n : StationId) : Beside s (t.activateStation n) := by
  unfold State.activateStation
  repeat' first
    | with_reducible assumption | intro _ | with_reducible apply modStation_beside
    | with_reducible apply stationEvent_beside | (dsimp only) | split

theorem activateSupervisor_beside (h : Beside s t) : Beside s (t.activateSupervisor) := by
  unfold State.activateSupervisor
  repeat' first
    | with_reducible assumption | intro _ | with_reducible apply activateStation_beside
    | with_reducible apply forAll_beside | (dsimp only) | split

/-! ## Allocator (05) -/

theorem holdBegin_beside (h : Beside s t) (n : StationId) (e : EngineId) : Beside s (t.holdBegin n e) := by
  unfold State.holdBegin
  repeat' first
    | with_reducible assumption | intro _ | with_reducible apply put_beside
    | with_reducible apply modEngine_beside | with_reducible apply modStation_beside
    | with_reducible apply stationEvent_beside | (dsimp only) | split

theorem grant_beside (h : Beside s t) (x : Entry) (e : EngineId) : Beside s (t.grant x e) := by
  unfold State.grant
  repeat' first
    | with_reducible assumption | intro _ | with_reducible apply put_beside
    | with_reducible apply setWaiting_beside | with_reducible apply modEngine_beside
    | with_reducible apply setHold_beside | with_reducible apply setPoint_beside
    | with_reducible apply askQuestion_beside | with_reducible apply holdBegin_beside | (dsimp only) | split

theorem grantAll_beside (k : Nat) (h : Beside s t) : Beside s (State.grantAll k t) := by
  induction k generalizing t with
  | zero => exact h
  | succ k ih =>
    unfold State.grantAll
    split
    · exact ih (grant_beside h _ _)
    · exact h

theorem allocate_beside (h : Beside s t) : Beside s (t.allocate) := by
  unfold State.allocate
  repeat' first
    | with_reducible assumption | intro _ | with_reducible apply grantAll_beside | (dsimp only) | split

theorem holdEnd_beside (h : Beside s t) (n : StationId) : Beside s (t.holdEnd n) := by
  unfold State.holdEnd
  repeat' first
    | with_reducible assumption | intro _ | with_reducible apply put_beside
    | with_reducible apply modStation_beside | with_reducible apply stationEvent_beside
    | with_reducible apply setupNotice_beside | (dsimp only) | split

theorem release_beside (h : Beside s t) (e : EngineId) (n : StationId) : Beside s (t.release e n) := by
  unfold State.release
  repeat' first
    | with_reducible assumption | intro _ | with_reducible apply modEngine_beside
    | with_reducible apply setHold_beside | with_reducible apply setPoint_beside
    | with_reducible apply allocate_beside | with_reducible apply holdEnd_beside | (dsimp only) | split

/-! ## Cards (02) -/

theorem finishCard_beside (h : Beside s t) (k : CardId) (b : Byte) (x : Bool) : Beside s (t.finishCard k b x) := by
  unfold State.finishCard
  repeat' first
    | with_reducible assumption | intro _ | with_reducible apply put_beside
    | with_reducible apply raiseIf_beside | (dsimp only) | split

theorem endCard_beside (h : Beside s t) (k : CardId) (b : Byte) (x : ErrorCode) (y : Bool) : Beside s (t.endCard k b x y) := by
  unfold State.endCard
  repeat' first
    | with_reducible assumption | intro _ | with_reducible apply put_beside
    | with_reducible apply finishCard_beside | (dsimp only) | split

theorem blankCard_beside (h : Beside s t) (k : CardId) : Beside s (t.blankCard k) := by
  unfold State.blankCard
  repeat' first
    | with_reducible assumption | intro _ | with_reducible apply put_beside | (dsimp only) | split

theorem endBlank_beside (h : Beside s t) (k : CardId) (b : Byte) (x : ErrorCode) : Beside s (t.endBlank k b x) := by
  unfold State.endBlank
  repeat' first
    | with_reducible assumption | intro _ | with_reducible apply endCard_beside
    | with_reducible apply blankCard_beside | (dsimp only) | split

theorem cancelPending_beside (h : Beside s t) (k : CardId) : Beside s (t.cancelPending k) := by
  unfold State.cancelPending
  repeat' first
    | with_reducible assumption | intro _ | with_reducible apply setWaiting_beside
    | with_reducible apply finishCard_beside | (dsimp only) | split

theorem failEntry_beside (h : Beside s t) (x : ErrorCode) (y : Entry) : Beside s (t.failEntry x y) := by
  unfold State.failEntry
  repeat' first
    | with_reducible assumption | intro _ | with_reducible apply setWaiting_beside
    | with_reducible apply endCard_beside | (dsimp only) | split

theorem takeNotice_beside (h : Beside s t) (m : Notice) : Beside s (t.takeNotice m) := by
  unfold State.takeNotice
  repeat' first
    | with_reducible assumption | intro _ | with_reducible apply failEntry_beside
    | with_reducible apply forAll_beside | (dsimp only) | split

theorem requestSweep_beside (h : Beside s t) : Beside s (t.requestSweep) := by
  unfold State.requestSweep
  repeat' first
    | with_reducible assumption | intro _ | with_reducible apply setSweeper_beside | (dsimp only) | split

theorem endSweep_beside (h : Beside s t) : Beside s (t.endSweep) := by
  unfold State.endSweep
  repeat' first
    | with_reducible assumption | intro _ | with_reducible apply setSweeper_beside | (dsimp only) | split

theorem nextVisit_beside (h : Beside s t) (k : CardId) : Beside s (t.nextVisit k) := by
  unfold State.nextVisit
  repeat' first
    | with_reducible assumption | intro _ | with_reducible apply setSweeper_beside
    | with_reducible apply endSweep_beside | (dsimp only) | split

theorem visitCard_beside (h : Beside s t) (k : CardId) : Beside s (t.visitCard k) := by
  unfold State.visitCard
  repeat' first
    | with_reducible assumption | intro _ | with_reducible apply setSweeper_beside
    | with_reducible apply endBlank_beside | with_reducible apply nextVisit_beside | (dsimp only) | split

theorem endStray_beside (h : Beside s t) (k : CardId) : Beside s (t.endStray k) := by
  unfold State.endStray
  repeat' first
    | with_reducible assumption | intro _ | with_reducible apply endBlank_beside
    | with_reducible apply nextVisit_beside | (dsimp only) | split

theorem intakeClearFault_beside (h : Beside s t) (k : CardId) (n : StationId) : Beside s (t.intakeClearFault k n) := by
  unfold State.intakeClearFault
  repeat' first
    | with_reducible assumption | intro _ | with_reducible apply clearFault_beside
    | with_reducible apply endBlank_beside | (dsimp only) | split

theorem forgetSlots_beside (h : Beside s t) (n : StationId) : Beside s (t.forgetSlots n) := by
  unfold State.forgetSlots
  repeat' first
    | with_reducible assumption | intro _ | with_reducible apply writeSlot_beside
    | with_reducible apply stationEvent_beside | with_reducible apply forAll_beside | (dsimp only) | split

theorem intakeForget_beside (h : Beside s t) (k : CardId) (n : StationId) : Beside s (t.intakeForget k n) := by
  unfold State.intakeForget
  repeat' first
    | with_reducible assumption | intro _ | with_reducible apply endBlank_beside
    | with_reducible apply forgetSlots_beside | (dsimp only) | split

theorem takeCard_beside (h : Beside s t) (k : CardId) (x : Header) (n : StationId) : Beside s (t.takeCard k x n) := by
  unfold State.takeCard
  repeat' first
    | with_reducible assumption | intro _ | with_reducible apply put_beside
    | with_reducible apply setSweeper_beside | with_reducible apply setWaiting_beside
    | with_reducible apply allocate_beside | with_reducible apply blankCard_beside | (dsimp only) | split

theorem intakeCard_beside (h : Beside s t) (k : CardId) : Beside s (t.intakeCard k) := by
  unfold State.intakeCard
  repeat' first
    | with_reducible assumption | intro _ | with_reducible apply endBlank_beside
    | with_reducible apply intakeClearFault_beside | with_reducible apply intakeForget_beside
    | with_reducible apply takeCard_beside | (dsimp only) | split

theorem intakeVisit_beside (h : Beside s t) (k : CardId) (l : List Byte) : Beside s (t.intakeVisit k l) := by
  unfold State.intakeVisit
  repeat' first
    | with_reducible assumption | intro _ | with_reducible apply nextVisit_beside
    | with_reducible apply intakeCard_beside | (dsimp only) | split

theorem expireSweepTimer_beside (h : Beside s t) (p : Half) : Beside s (t.expireSweepTimer p) := by
  unfold State.expireSweepTimer
  repeat' first
    | with_reducible assumption | intro _ | with_reducible apply setSweeper_beside
    | with_reducible apply requestSweep_beside | (dsimp only) | split

theorem noticePeriod_beside (h : Beside s t) : Beside s (t.noticePeriod) := by
  unfold State.noticePeriod
  repeat' first
    | with_reducible assumption | intro _ | with_reducible apply setSweeper_beside | (dsimp only) | split

/-! ## Enable and disable (01) -/

theorem resumeEngine_beside (h : Beside s t) (e : EngineId) : Beside s (t.resumeEngine e) := by
  unfold State.resumeEngine
  repeat' first
    | with_reducible assumption | intro _ | with_reducible apply setQuestion_beside
    | with_reducible apply setPhase_beside | with_reducible apply beginSettling_beside
    | with_reducible apply beginScoring_beside | with_reducible apply judgeQuestion_beside
    | with_reducible apply askQuestion_beside | with_reducible apply beginLookup_beside | (dsimp only) | split

theorem holdEngine_beside (h : Beside s t) (e : EngineId) : Beside s (t.holdEngine e) := by
  unfold State.holdEngine
  repeat' first
    | with_reducible assumption | intro _ | with_reducible apply setQuestion_beside
    | with_reducible apply setPhase_beside | (dsimp only) | split

theorem passCancel_beside (h : Beside s t) (k : CardId) : Beside s (t.passCancel k) := by
  unfold State.passCancel
  repeat' first
    | with_reducible assumption | intro _ | with_reducible apply modEngine_beside
    | with_reducible apply cancelPending_beside | (dsimp only) | split

/-! ## Frames, rounds, writing (07, 06, 10) -/

theorem endLevel_beside (h : Beside s t) (e : EngineId) : Beside s (t.endLevel e) := by
  unfold State.endLevel
  repeat' first
    | with_reducible assumption | intro _ | with_reducible apply modEngine_beside
    | with_reducible apply stopNow_beside | (dsimp only) | split

theorem goodFrame_beside (h : Beside s t) (e : EngineId) (r : List Byte) : Beside s (t.goodFrame e r) := by
  unfold State.goodFrame
  repeat' first
    | with_reducible assumption | intro _ | with_reducible apply modEngine_beside
    | with_reducible apply toWriting_beside | with_reducible apply toLookup_beside | (dsimp only) | split

theorem failedFrame_beside (h : Beside s t) (e : EngineId) (c : FrameCause) : Beside s (t.failedFrame e c) := by
  unfold State.failedFrame
  repeat' first
    | with_reducible assumption | intro _ | with_reducible apply modEngine_beside
    | with_reducible apply addFlag_beside | with_reducible apply setVerdict_beside
    | with_reducible apply toWriting_beside | with_reducible apply toGating_beside | (dsimp only) | split

theorem endTail_beside (h : Beside s t) (e : EngineId) : Beside s (t.endTail e) := by
  unfold State.endTail
  repeat' first
    | with_reducible assumption | intro _ | with_reducible apply modEngine_beside
    | with_reducible apply closeWatch_beside | with_reducible apply goodFrame_beside
    | with_reducible apply failedFrame_beside | (dsimp only) | split

theorem endPulse_beside (h : Beside s t) (e : EngineId) : Beside s (t.endPulse e) := by
  unfold State.endPulse
  repeat' first
    | with_reducible assumption | intro _ | with_reducible apply modEngine_beside
    | with_reducible apply stopNow_beside | (dsimp only) | split

theorem setOverloadHold_beside (h : Beside s t) (x : Levels) : Beside s (t.setOverloadHold x) := ⟨h.port, h.pins, h.regs, h.msTicks, h.freeReads, h.pending⟩

theorem tripDriver_beside (h : Beside s t) (n : StationId) : Beside s (t.tripDriver n) := by
  unfold State.tripDriver
  repeat' first
    | with_reducible assumption | intro _ | with_reducible apply setOverloadHold_beside | (dsimp only) | split

theorem releaseDriver_beside (h : Beside s t) (n : StationId) : Beside s (t.releaseDriver n) := by
  unfold State.releaseDriver
  repeat' first
    | with_reducible assumption | intro _ | with_reducible apply setOverloadHold_beside | (dsimp only) | split

theorem windowEdge_beside (h : Beside s t) (e : EngineId) (x : Nat) (b : Bool) (f : Engine → Bool) (c : Capture → Nat → Capture) : Beside s (t.windowEdge e x b f c) := by
  unfold State.windowEdge
  repeat' first
    | with_reducible assumption | intro _ | with_reducible apply modEngine_beside | (dsimp only) | split

theorem closeWindow_beside (h : Beside s t) (e : EngineId) (n : Nat) : Beside s (t.closeWindow e n) := by
  unfold State.closeWindow
  repeat' first
    | with_reducible assumption | intro _ | with_reducible apply modEngine_beside
    | with_reducible apply closeWatch_beside | with_reducible apply toSettling_beside
    | with_reducible apply toScoring_beside | (dsimp only) | split

theorem expireGate_beside (h : Beside s t) (e : EngineId) (w : Work) : Beside s (t.expireGate e w) := by
  unfold State.expireGate
  repeat' first
    | with_reducible assumption | intro _ | with_reducible apply modEngine_beside
    | with_reducible apply withdrawQuestion_beside | with_reducible apply addFlag_beside
    | with_reducible apply setVerdict_beside | with_reducible apply toWriting_beside
    | with_reducible apply toScoring_beside | (dsimp only) | split

theorem writeResult_beside (h : Beside s t) (k : CardId) (g : Engine) : Beside s (t.writeResult k g) := by
  unfold State.writeResult
  repeat' first
    | with_reducible assumption | intro _ | with_reducible apply put_beside | (dsimp only) | split

theorem resetOnSerial_beside (h : Beside s t) (n : StationId) (p : SlotId) (d : Parcel) : Beside s (t.resetOnSerial n p d) := by
  unfold State.resetOnSerial
  repeat' first
    | with_reducible assumption | intro _ | with_reducible apply resetSlot_beside | (dsimp only) | split

theorem acceptDelivery_beside (h : Beside s t) (n : StationId) (x : Byte) (d : Parcel) : Beside s (t.acceptDelivery n x d) := by
  unfold State.acceptDelivery
  repeat' first
    | with_reducible assumption | intro _ | with_reducible apply writeSlot_beside
    | with_reducible apply refreshHeldPermit_beside | with_reducible apply stationEvent_beside
    | with_reducible apply resetOnSerial_beside | (dsimp only) | split

theorem deliver_beside (h : Beside s t) (e : EngineId) (n : StationId) (d : Parcel) : Beside s (t.deliver e n d) := by
  unfold State.deliver
  repeat' first
    | with_reducible assumption | intro _ | with_reducible apply modEngine_beside
    | with_reducible apply acceptDelivery_beside | (dsimp only) | split

theorem endOnEngine_beside (h : Beside s t) (e : EngineId) (j : Job) : Beside s (t.endOnEngine e j) := by
  unfold State.endOnEngine
  repeat' first
    | with_reducible assumption | intro _ | with_reducible apply release_beside
    | with_reducible apply endCard_beside | (dsimp only) | split

theorem writeStopped_beside (h : Beside s t) (k : CardId) (g : Engine) (x : ErrorCode) : Beside s (t.writeStopped k g x) := by
  unfold State.writeStopped
  repeat' first
    | with_reducible assumption | intro _ | with_reducible apply put_beside | (dsimp only) | split

theorem endStopped_beside (h : Beside s t) (e : EngineId) (j : Job) : Beside s (t.endStopped e j) := by
  unfold State.endStopped
  repeat' first
    | with_reducible assumption | intro _ | with_reducible apply release_beside
    | with_reducible apply finishCard_beside | with_reducible apply writeStopped_beside | (dsimp only) | split

theorem stopReaches_beside (h : Beside s t) (e : EngineId) (x : Stop) : Beside s (t.stopReaches e x) := by
  unfold State.stopReaches
  repeat' first
    | with_reducible assumption | intro _ | with_reducible apply modEngine_beside
    | with_reducible apply takeStop_beside | (dsimp only) | split

theorem endScoring_beside (h : Beside s t) (e : EngineId) (p : Profile) : Beside s (t.endScoring e p) := by
  unfold State.endScoring
  repeat' first
    | with_reducible assumption | intro _ | with_reducible apply modEngine_beside
    | with_reducible apply addFlag_beside | with_reducible apply toWriting_beside | (dsimp only) | split

end Sys2Proof.Machine
end

