-- ==== Sys2Proof/Laws/Core.lean ====
section
/-! SUPPORT. What the blocks leave of the Machine Cycle Tracker: all but its questions and watches. -/

namespace Sys2Proof.Machine

/-- Angle, validity, count, STOPPED, INDEX_MISSED and the stop timer are as before. -/
def SameCore (s t : State) : Prop :=
  t.tracker = { s.tracker with questions := t.tracker.questions, watches := t.tracker.watches }

theorem SameCore.refl (s : State) : SameCore s s := rfl

variable {s t : State}

theorem forAll_core {α : Type} (h : SameCore s t) (act : α → State → State)
    (hk : ∀ x (u : State), SameCore s u → SameCore s (act x u)) (xs : List α) : SameCore s (forAll xs act t) := by
  induction xs generalizing t with
  | nil => exact h
  | cons x xs ih => exact ih (hk x t h)

theorem put_core (h : SameCore s t) (a : Nat) (bs : List Byte) : SameCore s (t.put a bs) := h
theorem setSweeper_core (h : SameCore s t) (w : Sweeper) : SameCore s (t.setSweeper w) := h
theorem setWaiting_core (h : SameCore s t) (l : List Entry) : SameCore s (t.setWaiting l) := h
theorem setNotices_core (h : SameCore s t) (l : List Notice) : SameCore s (t.setNotices l) := h
theorem setCache_core (h : SameCore s t) (c : Cache) : SameCore s (t.setCache c) := h
theorem modEngine_core (h : SameCore s t) (e : EngineId) (f : Engine → Engine) : SameCore s (t.modEngine e f) := h
theorem modStation_core (h : SameCore s t) (n : StationId) (f : Station → Station) : SameCore s (t.modStation n f) := h
theorem setHold_core (h : SameCore s t) (n : StationId) (x : Option EngineId) : SameCore s (t.setHold n x) := h
theorem setPoint_core (h : SameCore s t) (e : EngineId) (n : Option StationId) : SameCore s (t.setPoint e n) := h
theorem setQuestion_core (h : SameCore s t) (e : EngineId) (q : Option Question) : SameCore s (t.setQuestion e q) := by
  unfold SameCore at *; simp only [State.setQuestion_tracker, State.setWatch_tracker]; rw [h]
theorem setWatch_core (h : SameCore s t) (e : EngineId) (w : Option Watch) : SameCore s (t.setWatch e w) := by
  unfold SameCore at *; simp only [State.setQuestion_tracker, State.setWatch_tracker]; rw [h]
theorem raise_core (h : SameCore s t) (c : BitVec 5) : SameCore s (t.raise c) := h

/-! ## Derived updates -/

theorem setPhase_core (h : SameCore s t) (e : EngineId) (p : Phase) : SameCore s (t.setPhase e p) := by
  unfold State.setPhase
  repeat' first
    | with_reducible assumption | intro _ | with_reducible apply modEngine_core | (dsimp only) | split

theorem closeWatch_core (h : SameCore s t) (e : EngineId) : SameCore s (t.closeWatch e) := by
  unfold State.closeWatch
  repeat' first
    | with_reducible assumption | intro _ | with_reducible apply setWatch_core | (dsimp only) | split

theorem withdrawQuestion_core (h : SameCore s t) (e : EngineId) : SameCore s (t.withdrawQuestion e) := by
  unfold State.withdrawQuestion
  repeat' first
    | with_reducible assumption | intro _ | with_reducible apply setQuestion_core | (dsimp only) | split

theorem addFlag_core (h : SameCore s t) (e : EngineId) (f : Half) : SameCore s (t.addFlag e f) := by
  unfold State.addFlag
  repeat' first
    | with_reducible assumption | intro _ | with_reducible apply modEngine_core | (dsimp only) | split

theorem setVerdict_core (h : SameCore s t) (e : EngineId) (v : Verdict) : SameCore s (t.setVerdict e v) := by
  unfold State.setVerdict
  repeat' first
    | with_reducible assumption | intro _ | with_reducible apply modEngine_core | (dsimp only) | split

theorem toWriting_core (h : SameCore s t) (e : EngineId) : SameCore s (t.toWriting e) := by
  unfold State.toWriting
  repeat' first
    | with_reducible assumption | intro _ | with_reducible apply setPhase_core | (dsimp only) | split

theorem stopNow_core (h : SameCore s t) (e : EngineId) : SameCore s (t.stopNow e) := by
  unfold State.stopNow
  repeat' first
    | with_reducible assumption | intro _ | with_reducible apply modEngine_core
    | with_reducible apply closeWatch_core | with_reducible apply withdrawQuestion_core | (dsimp only) | split

theorem faultStop_core (h : SameCore s t) (e : EngineId) (c : FaultCause) : SameCore s (t.faultStop e c) := by
  unfold State.faultStop
  repeat' first
    | with_reducible assumption | intro _ | with_reducible apply modEngine_core
    | with_reducible apply stopNow_core | (dsimp only) | split

theorem beginSettling_core (h : SameCore s t) (e : EngineId) : SameCore s (t.beginSettling e) := by
  unfold State.beginSettling
  repeat' first
    | with_reducible assumption | intro _ | with_reducible apply modEngine_core | (dsimp only) | split

theorem beginScoring_core (h : SameCore s t) (e : EngineId) : SameCore s (t.beginScoring e) := by
  unfold State.beginScoring
  repeat' first
    | with_reducible assumption | intro _ | with_reducible apply modEngine_core | (dsimp only) | split

theorem evaluatePermit_core (h : SameCore s t) (n : StationId) : SameCore s (t.evaluatePermit n) := by
  unfold State.evaluatePermit
  repeat' first
    | with_reducible assumption | intro _ | with_reducible apply modStation_core | (dsimp only) | split

theorem tellList_core (h : SameCore s t) (n : StationId) (ev : StationEvent) : SameCore s (t.tellList n ev) := by
  unfold State.tellList
  repeat' first
    | with_reducible assumption | intro _ | with_reducible apply setNotices_core | (dsimp only) | split

theorem disturb_core (h : SameCore s t) (e : EngineId) (w : Watch) : SameCore s (t.disturb e w) := by
  unfold State.disturb
  repeat' first
    | with_reducible assumption | intro _ | with_reducible apply modEngine_core
    | with_reducible apply setWatch_core | (dsimp only) | split

theorem raiseIf_core (h : SameCore s t) (b : Bool) (c : BitVec 5) : SameCore s (t.raiseIf b c) := by
  unfold State.raiseIf
  repeat' first
    | with_reducible assumption | intro _ | with_reducible apply raise_core | (dsimp only) | split

/-! ## Stations (03) -/

theorem writeSlot_core (h : SameCore s t) (n : StationId) (p : SlotId) (f : SlotFields) : SameCore s (t.writeSlot n p f) := by
  unfold State.writeSlot
  repeat' first
    | with_reducible assumption | intro _ | with_reducible apply put_core | (dsimp only) | split

theorem resetSlot_core (h : SameCore s t) (n : StationId) (p : SlotId) : SameCore s (t.resetSlot n p) := by
  unfold State.resetSlot
  repeat' first
    | with_reducible assumption | intro _ | with_reducible apply writeSlot_core | (dsimp only) | split

theorem resetSlots_core (h : SameCore s t) (n : StationId) (ps : List SlotId) : SameCore s (t.resetSlots n ps) := by
  unfold State.resetSlots
  repeat' first
    | with_reducible assumption | intro _ | with_reducible apply resetSlot_core
    | with_reducible apply forAll_core | (dsimp only) | split

theorem refreshHeldPermit_core (h : SameCore s t) (n : StationId) : SameCore s (t.refreshHeldPermit n) := by
  unfold State.refreshHeldPermit
  repeat' first
    | with_reducible assumption | intro _ | with_reducible apply modStation_core | (dsimp only) | split

theorem stampAndFlag_core (h : SameCore s t) (n : StationId) : SameCore s (t.stampAndFlag n) := by
  unfold State.stampAndFlag
  repeat' first
    | with_reducible assumption | intro _ | with_reducible apply put_core | with_reducible apply raiseIf_core
    | (dsimp only) | split

theorem settleRecord_core (h : SameCore s t) (n : StationId) (b : Byte × Byte × Byte) : SameCore s (t.settleRecord n b) := by
  unfold State.settleRecord
  repeat' first
    | with_reducible assumption | intro _ | with_reducible apply put_core
    | with_reducible apply evaluatePermit_core | with_reducible apply stampAndFlag_core | (dsimp only) | split

theorem stationEvent_core (h : SameCore s t) (n : StationId) (act : State → State)
    (ha : ∀ u : State, SameCore s u → SameCore s (act u)) : SameCore s (t.stationEvent n act) := settleRecord_core (ha t h) n _

theorem markLoss_core (h : SameCore s t) (n : StationId) (l : Loss) : SameCore s (t.markLoss n l) := by
  unfold State.markLoss
  repeat' first
    | with_reducible assumption | intro _ | with_reducible apply modStation_core | (dsimp only) | split

theorem sendStop_core (h : SameCore s t) (n : StationId) (x : Stop) : SameCore s (t.sendStop n x) := by
  unfold State.sendStop
  repeat' first
    | with_reducible assumption | intro _ | with_reducible apply modEngine_core | (dsimp only) | split

theorem clearFault_core (h : SameCore s t) (n : StationId) : SameCore s (t.clearFault n) := by
  unfold State.clearFault
  repeat' first
    | with_reducible assumption | intro _ | with_reducible apply put_core | with_reducible apply modStation_core
    | with_reducible apply stationEvent_core | (dsimp only) | split

theorem takeFault_core (h : SameCore s t) (n : StationId) (c : FaultCause) : SameCore s (t.takeFault n c) := by
  unfold State.takeFault
  repeat' first
    | with_reducible assumption | intro _ | with_reducible apply put_core | with_reducible apply modStation_core
    | with_reducible apply tellList_core | with_reducible apply resetSlots_core
    | with_reducible apply refreshHeldPermit_core | with_reducible apply stationEvent_core
    | with_reducible apply markLoss_core | (dsimp only) | split

theorem takeFit_core (h : SameCore s t) (n : StationId) : SameCore s (t.takeFit n) := by
  unfold State.takeFit
  repeat' first
    | with_reducible assumption | intro _ | with_reducible apply put_core | with_reducible apply modStation_core
    | with_reducible apply stationEvent_core | (dsimp only) | split

theorem takeRemoval_core (h : SameCore s t) (n : StationId) : SameCore s (t.takeRemoval n) := by
  unfold State.takeRemoval
  repeat' first
    | with_reducible assumption | intro _ | with_reducible apply put_core | with_reducible apply modStation_core
    | with_reducible apply tellList_core | with_reducible apply resetSlots_core
    | with_reducible apply refreshHeldPermit_core | with_reducible apply stationEvent_core
    | with_reducible apply markLoss_core | with_reducible apply sendStop_core | (dsimp only) | split

/-! ## Engines and tracker (05, 04) -/

theorem takeStop_core (h : SameCore s t) (e : EngineId) (x : Stop) : SameCore s (t.takeStop e x) := by
  unfold State.takeStop
  repeat' first
    | with_reducible assumption | intro _ | with_reducible apply modEngine_core
    | with_reducible apply stopNow_core | (dsimp only) | split

theorem startRound_core (h : SameCore s t) (e : EngineId) : SameCore s (t.startRound e) := by
  unfold State.startRound
  repeat' first
    | with_reducible assumption | intro _ | with_reducible apply modEngine_core
    | with_reducible apply addFlag_core | (dsimp only) | split

theorem startFrame_core (h : SameCore s t) (e : EngineId) : SameCore s (t.startFrame e) := by
  unfold State.startFrame
  repeat' first
    | with_reducible assumption | intro _ | with_reducible apply modEngine_core | (dsimp only) | split

theorem startWork_core (h : SameCore s t) (e : EngineId) (w : Work) : SameCore s (t.startWork e w) := by
  unfold State.startWork
  repeat' first
    | with_reducible assumption | intro _ | with_reducible apply faultStop_core
    | with_reducible apply startRound_core | with_reducible apply startFrame_core | (dsimp only) | split

theorem judgeQuestion_core (h : SameCore s t) (e : EngineId) : SameCore s (t.judgeQuestion e) := by
  unfold State.judgeQuestion
  repeat' first
    | with_reducible assumption | intro _ | with_reducible apply setQuestion_core
    | with_reducible apply setWatch_core | with_reducible apply startWork_core | (dsimp only) | split

theorem judgeQuestions_core (h : SameCore s t) : SameCore s (t.judgeQuestions) := by
  unfold State.judgeQuestions
  repeat' first
    | with_reducible assumption | intro _ | with_reducible apply judgeQuestion_core
    | with_reducible apply forAll_core | (dsimp only) | split

theorem askQuestion_core (h : SameCore s t) (e : EngineId) (w : Work) : SameCore s (t.askQuestion e w) := by
  unfold State.askQuestion
  repeat' first
    | with_reducible assumption | intro _ | with_reducible apply setQuestion_core
    | with_reducible apply setPhase_core | with_reducible apply judgeQuestion_core | (dsimp only) | split

theorem judgeWatch_core (h : SameCore s t) (e : EngineId) : SameCore s (t.judgeWatch e) := by
  unfold State.judgeWatch
  repeat' first
    | with_reducible assumption | intro _ | with_reducible apply disturb_core | (dsimp only) | split

theorem judgeWatches_core (h : SameCore s t) : SameCore s (t.judgeWatches) := by
  unfold State.judgeWatches
  repeat' first
    | with_reducible assumption | intro _ | with_reducible apply judgeWatch_core
    | with_reducible apply forAll_core | (dsimp only) | split

/-! ## Steps of an engine (05, 08) -/

theorem toGating_core (h : SameCore s t) (e : EngineId) (w : Work) : SameCore s (t.toGating e w) := by
  unfold State.toGating
  repeat' first
    | with_reducible assumption | intro _ | with_reducible apply setPhase_core
    | with_reducible apply askQuestion_core | (dsimp only) | split

theorem toSettling_core (h : SameCore s t) (e : EngineId) : SameCore s (t.toSettling e) := by
  unfold State.toSettling
  repeat' first
    | with_reducible assumption | intro _ | with_reducible apply setPhase_core
    | with_reducible apply beginSettling_core | (dsimp only) | split

theorem toScoring_core (h : SameCore s t) (e : EngineId) : SameCore s (t.toScoring e) := by
  unfold State.toScoring
  repeat' first
    | with_reducible assumption | intro _ | with_reducible apply setPhase_core
    | with_reducible apply beginScoring_core | (dsimp only) | split

theorem lookupUnlisted_core (h : SameCore s t) (e : EngineId) : SameCore s (t.lookupUnlisted e) := by
  unfold State.lookupUnlisted
  repeat' first
    | with_reducible assumption | intro _ | with_reducible apply modEngine_core
    | with_reducible apply setVerdict_core | with_reducible apply toWriting_core | (dsimp only) | split

theorem lookupFailed_core (h : SameCore s t) (e : EngineId) (i : ShelfId) (x : ErrorCode) : SameCore s (t.lookupFailed e i x) := by
  unfold State.lookupFailed
  repeat' first
    | with_reducible assumption | intro _ | with_reducible apply modEngine_core
    | with_reducible apply toWriting_core | (dsimp only) | split

theorem lookupFound_core (h : SameCore s t) (e : EngineId) (i : ShelfId) (p : Profile) : SameCore s (t.lookupFound e i p) := by
  unfold State.lookupFound
  repeat' first
    | with_reducible assumption | intro _ | with_reducible apply modEngine_core
    | with_reducible apply addFlag_core | with_reducible apply setVerdict_core
    | with_reducible apply toWriting_core | with_reducible apply toGating_core | (dsimp only) | split

theorem beginLookup_core (h : SameCore s t) (e : EngineId) : SameCore s (t.beginLookup e) := by
  unfold State.beginLookup
  repeat' first
    | with_reducible assumption | intro _ | with_reducible apply setCache_core
    | with_reducible apply modEngine_core | with_reducible apply addFlag_core
    | with_reducible apply lookupFound_core | (dsimp only) | split

theorem toLookup_core (h : SameCore s t) (e : EngineId) : SameCore s (t.toLookup e) := by
  unfold State.toLookup
  repeat' first
    | with_reducible assumption | intro _ | with_reducible apply setPhase_core
    | with_reducible apply beginLookup_core | (dsimp only) | split

theorem offerRecord_core (h : SameCore s t) (e : EngineId) (i : ShelfId) (r : List Byte) : SameCore s (t.offerRecord e i r) := by
  unfold State.offerRecord
  repeat' first
    | with_reducible assumption | intro _ | with_reducible apply setCache_core | (dsimp only) | split

theorem passOver_core (h : SameCore s t) (e : EngineId) : SameCore s (t.passOver e) := by
  unfold State.passOver
  repeat' first
    | with_reducible assumption | intro _ | with_reducible apply modEngine_core
    | with_reducible apply lookupUnlisted_core | (dsimp only) | split

theorem damagedCandidate_core (h : SameCore s t) (e : EngineId) : SameCore s (t.damagedCandidate e) := by
  unfold State.damagedCandidate
  repeat' first
    | with_reducible assumption | intro _ | with_reducible apply modEngine_core
    | with_reducible apply lookupFailed_core | (dsimp only) | split

theorem readShelf_core (h : SameCore s t) (e : EngineId) : SameCore s (t.readShelf e) := by
  unfold State.readShelf
  repeat' first
    | with_reducible assumption | intro _ | with_reducible apply modEngine_core
    | with_reducible apply lookupFailed_core | with_reducible apply lookupFound_core
    | with_reducible apply offerRecord_core | with_reducible apply passOver_core
    | with_reducible apply damagedCandidate_core | (dsimp only) | split

/-! ## Setup (03) -/

theorem disableStation_core (h : SameCore s t) (n : StationId) : SameCore s (t.disableStation n) := by
  unfold State.disableStation
  repeat' first
    | with_reducible assumption | intro _ | with_reducible apply put_core | with_reducible apply modStation_core
    | with_reducible apply tellList_core | with_reducible apply resetSlots_core
    | with_reducible apply refreshHeldPermit_core | with_reducible apply stationEvent_core
    | with_reducible apply markLoss_core | with_reducible apply sendStop_core | (dsimp only) | split

theorem enableStation_core (h : SameCore s t) (n : StationId) : SameCore s (t.enableStation n) := by
  unfold State.enableStation
  repeat' first
    | with_reducible assumption | intro _ | with_reducible apply modStation_core
    | with_reducible apply stationEvent_core | (dsimp only) | split

theorem changeRoster_core (h : SameCore s t) (n : StationId) (c : Setup) : SameCore s (t.changeRoster n c) := by
  unfold State.changeRoster
  repeat' first
    | with_reducible assumption | intro _ | with_reducible apply modStation_core
    | with_reducible apply tellList_core | with_reducible apply resetSlots_core
    | with_reducible apply stationEvent_core | (dsimp only) | split

theorem changePolicy_core (h : SameCore s t) (n : StationId) (b : Bool) : SameCore s (t.changePolicy n b) := by
  unfold State.changePolicy
  repeat' first
    | with_reducible assumption | intro _ | with_reducible apply modStation_core
    | with_reducible apply evaluatePermit_core | (dsimp only) | split

theorem changeRestart_core (h : SameCore s t) (n : StationId) (b : Bool) : SameCore s (t.changeRestart n b) := by
  unfold State.changeRestart
  repeat' first
    | with_reducible assumption | intro _ | with_reducible apply modStation_core | (dsimp only) | split

theorem changeArcs_core (h : SameCore s t) (n : StationId) (a b : Half) : SameCore s (t.changeArcs n a b) := by
  unfold State.changeArcs
  repeat' first
    | with_reducible assumption | intro _ | with_reducible apply modStation_core
    | with_reducible apply judgeQuestion_core | (dsimp only) | split

theorem actOnSetup_core (h : SameCore s t) (n : StationId) (c : Setup) (b : Bool) : SameCore s (t.actOnSetup n c b) := by
  unfold State.actOnSetup
  repeat' first
    | with_reducible assumption | intro _ | with_reducible apply disableStation_core
    | with_reducible apply enableStation_core | with_reducible apply changeRoster_core
    | with_reducible apply changePolicy_core | with_reducible apply changeRestart_core
    | with_reducible apply changeArcs_core | (dsimp only) | split

theorem setupNotice_core (h : SameCore s t) (n : StationId) : SameCore s (t.setupNotice n) := by
  unfold State.setupNotice
  repeat' first
    | with_reducible assumption | intro _ | with_reducible apply modStation_core
    | with_reducible apply actOnSetup_core | (dsimp only) | split

theorem activateStation_core (h : SameCore s t) (n : StationId) : SameCore s (t.activateStation n) := by
  unfold State.activateStation
  repeat' first
    | with_reducible assumption | intro _ | with_reducible apply modStation_core
    | with_reducible apply stationEvent_core | (dsimp only) | split

theorem activateSupervisor_core (h : SameCore s t) : SameCore s (t.activateSupervisor) := by
  unfold State.activateSupervisor
  repeat' first
    | with_reducible assumption | intro _ | with_reducible apply activateStation_core
    | with_reducible apply forAll_core | (dsimp only) | split

/-! ## Allocator (05) -/

theorem holdBegin_core (h : SameCore s t) (n : StationId) (e : EngineId) : SameCore s (t.holdBegin n e) := by
  unfold State.holdBegin
  repeat' first
    | with_reducible assumption | intro _ | with_reducible apply put_core | with_reducible apply modEngine_core
    | with_reducible apply modStation_core | with_reducible apply stationEvent_core | (dsimp only) | split

theorem grant_core (h : SameCore s t) (x : Entry) (e : EngineId) : SameCore s (t.grant x e) := by
  unfold State.grant
  repeat' first
    | with_reducible assumption | intro _ | with_reducible apply put_core | with_reducible apply setWaiting_core
    | with_reducible apply modEngine_core | with_reducible apply setHold_core
    | with_reducible apply setPoint_core | with_reducible apply askQuestion_core
    | with_reducible apply holdBegin_core | (dsimp only) | split

theorem grantAll_core (k : Nat) (h : SameCore s t) : SameCore s (State.grantAll k t) := by
  induction k generalizing t with
  | zero => exact h
  | succ k ih =>
    unfold State.grantAll
    split
    · exact ih (grant_core h _ _)
    · exact h

theorem allocate_core (h : SameCore s t) : SameCore s (t.allocate) := by
  unfold State.allocate
  repeat' first
    | with_reducible assumption | intro _ | with_reducible apply grantAll_core | (dsimp only) | split

theorem holdEnd_core (h : SameCore s t) (n : StationId) : SameCore s (t.holdEnd n) := by
  unfold State.holdEnd
  repeat' first
    | with_reducible assumption | intro _ | with_reducible apply put_core | with_reducible apply modStation_core
    | with_reducible apply stationEvent_core | with_reducible apply setupNotice_core | (dsimp only) | split

theorem release_core (h : SameCore s t) (e : EngineId) (n : StationId) : SameCore s (t.release e n) := by
  unfold State.release
  repeat' first
    | with_reducible assumption | intro _ | with_reducible apply modEngine_core
    | with_reducible apply setHold_core | with_reducible apply setPoint_core
    | with_reducible apply allocate_core | with_reducible apply holdEnd_core | (dsimp only) | split

/-! ## Cards (02) -/

theorem finishCard_core (h : SameCore s t) (k : CardId) (b : Byte) (x : Bool) : SameCore s (t.finishCard k b x) := by
  unfold State.finishCard
  repeat' first
    | with_reducible assumption | intro _ | with_reducible apply put_core | with_reducible apply raiseIf_core
    | (dsimp only) | split

theorem endCard_core (h : SameCore s t) (k : CardId) (b : Byte) (x : ErrorCode) (y : Bool) : SameCore s (t.endCard k b x y) := by
  unfold State.endCard
  repeat' first
    | with_reducible assumption | intro _ | with_reducible apply put_core | with_reducible apply finishCard_core
    | (dsimp only) | split

theorem blankCard_core (h : SameCore s t) (k : CardId) : SameCore s (t.blankCard k) := by
  unfold State.blankCard
  repeat' first
    | with_reducible assumption | intro _ | with_reducible apply put_core | (dsimp only) | split

theorem endBlank_core (h : SameCore s t) (k : CardId) (b : Byte) (x : ErrorCode) : SameCore s (t.endBlank k b x) := by
  unfold State.endBlank
  repeat' first
    | with_reducible assumption | intro _ | with_reducible apply endCard_core
    | with_reducible apply blankCard_core | (dsimp only) | split

theorem cancelPending_core (h : SameCore s t) (k : CardId) : SameCore s (t.cancelPending k) := by
  unfold State.cancelPending
  repeat' first
    | with_reducible assumption | intro _ | with_reducible apply setWaiting_core
    | with_reducible apply finishCard_core | (dsimp only) | split

theorem failEntry_core (h : SameCore s t) (x : ErrorCode) (y : Entry) : SameCore s (t.failEntry x y) := by
  unfold State.failEntry
  repeat' first
    | with_reducible assumption | intro _ | with_reducible apply setWaiting_core
    | with_reducible apply endCard_core | (dsimp only) | split

theorem takeNotice_core (h : SameCore s t) (m : Notice) : SameCore s (t.takeNotice m) := by
  unfold State.takeNotice
  repeat' first
    | with_reducible assumption | intro _ | with_reducible apply failEntry_core
    | with_reducible apply forAll_core | (dsimp only) | split

theorem requestSweep_core (h : SameCore s t) : SameCore s (t.requestSweep) := by
  unfold State.requestSweep
  repeat' first
    | with_reducible assumption | intro _ | with_reducible apply setSweeper_core | (dsimp only) | split

theorem endSweep_core (h : SameCore s t) : SameCore s (t.endSweep) := by
  unfold State.endSweep
  repeat' first
    | with_reducible assumption | intro _ | with_reducible apply setSweeper_core | (dsimp only) | split

theorem nextVisit_core (h : SameCore s t) (k : CardId) : SameCore s (t.nextVisit k) := by
  unfold State.nextVisit
  repeat' first
    | with_reducible assumption | intro _ | with_reducible apply setSweeper_core
    | with_reducible apply endSweep_core | (dsimp only) | split

theorem visitCard_core (h : SameCore s t) (k : CardId) : SameCore s (t.visitCard k) := by
  unfold State.visitCard
  repeat' first
    | with_reducible assumption | intro _ | with_reducible apply setSweeper_core
    | with_reducible apply endBlank_core | with_reducible apply nextVisit_core | (dsimp only) | split

theorem endStray_core (h : SameCore s t) (k : CardId) : SameCore s (t.endStray k) := by
  unfold State.endStray
  repeat' first
    | with_reducible assumption | intro _ | with_reducible apply endBlank_core
    | with_reducible apply nextVisit_core | (dsimp only) | split

theorem intakeClearFault_core (h : SameCore s t) (k : CardId) (n : StationId) : SameCore s (t.intakeClearFault k n) := by
  unfold State.intakeClearFault
  repeat' first
    | with_reducible assumption | intro _ | with_reducible apply clearFault_core
    | with_reducible apply endBlank_core | (dsimp only) | split

theorem forgetSlots_core (h : SameCore s t) (n : StationId) : SameCore s (t.forgetSlots n) := by
  unfold State.forgetSlots
  repeat' first
    | with_reducible assumption | intro _ | with_reducible apply writeSlot_core
    | with_reducible apply stationEvent_core | with_reducible apply forAll_core | (dsimp only) | split

theorem intakeForget_core (h : SameCore s t) (k : CardId) (n : StationId) : SameCore s (t.intakeForget k n) := by
  unfold State.intakeForget
  repeat' first
    | with_reducible assumption | intro _ | with_reducible apply endBlank_core
    | with_reducible apply forgetSlots_core | (dsimp only) | split

theorem takeCard_core (h : SameCore s t) (k : CardId) (x : Header) (n : StationId) : SameCore s (t.takeCard k x n) := by
  unfold State.takeCard
  repeat' first
    | with_reducible assumption | intro _ | with_reducible apply put_core | with_reducible apply setSweeper_core
    | with_reducible apply setWaiting_core | with_reducible apply allocate_core
    | with_reducible apply blankCard_core | (dsimp only) | split

theorem intakeCard_core (h : SameCore s t) (k : CardId) : SameCore s (t.intakeCard k) := by
  unfold State.intakeCard
  repeat' first
    | with_reducible assumption | intro _ | with_reducible apply endBlank_core
    | with_reducible apply intakeClearFault_core | with_reducible apply intakeForget_core
    | with_reducible apply takeCard_core | (dsimp only) | split

theorem intakeVisit_core (h : SameCore s t) (k : CardId) (l : List Byte) : SameCore s (t.intakeVisit k l) := by
  unfold State.intakeVisit
  repeat' first
    | with_reducible assumption | intro _ | with_reducible apply nextVisit_core
    | with_reducible apply intakeCard_core | (dsimp only) | split

theorem expireSweepTimer_core (h : SameCore s t) (p : Half) : SameCore s (t.expireSweepTimer p) := by
  unfold State.expireSweepTimer
  repeat' first
    | with_reducible assumption | intro _ | with_reducible apply setSweeper_core
    | with_reducible apply requestSweep_core | (dsimp only) | split

theorem noticePeriod_core (h : SameCore s t) : SameCore s (t.noticePeriod) := by
  unfold State.noticePeriod
  repeat' first
    | with_reducible assumption | intro _ | with_reducible apply setSweeper_core | (dsimp only) | split

/-! ## Enable and disable (01) -/

theorem resumeEngine_core (h : SameCore s t) (e : EngineId) : SameCore s (t.resumeEngine e) := by
  unfold State.resumeEngine
  repeat' first
    | with_reducible assumption | intro _ | with_reducible apply setQuestion_core
    | with_reducible apply setPhase_core | with_reducible apply beginSettling_core
    | with_reducible apply beginScoring_core | with_reducible apply judgeQuestion_core
    | with_reducible apply askQuestion_core | with_reducible apply beginLookup_core | (dsimp only) | split

theorem holdEngine_core (h : SameCore s t) (e : EngineId) : SameCore s (t.holdEngine e) := by
  unfold State.holdEngine
  repeat' first
    | with_reducible assumption | intro _ | with_reducible apply setQuestion_core
    | with_reducible apply setPhase_core | (dsimp only) | split

theorem passCancel_core (h : SameCore s t) (k : CardId) : SameCore s (t.passCancel k) := by
  unfold State.passCancel
  repeat' first
    | with_reducible assumption | intro _ | with_reducible apply modEngine_core
    | with_reducible apply cancelPending_core | (dsimp only) | split

/-! ## Frames, rounds, writing (07, 06, 10) -/

theorem endLevel_core (h : SameCore s t) (e : EngineId) : SameCore s (t.endLevel e) := by
  unfold State.endLevel
  repeat' first
    | with_reducible assumption | intro _ | with_reducible apply modEngine_core
    | with_reducible apply stopNow_core | (dsimp only) | split

theorem goodFrame_core (h : SameCore s t) (e : EngineId) (r : List Byte) : SameCore s (t.goodFrame e r) := by
  unfold State.goodFrame
  repeat' first
    | with_reducible assumption | intro _ | with_reducible apply modEngine_core
    | with_reducible apply toWriting_core | with_reducible apply toLookup_core | (dsimp only) | split

theorem failedFrame_core (h : SameCore s t) (e : EngineId) (c : FrameCause) : SameCore s (t.failedFrame e c) := by
  unfold State.failedFrame
  repeat' first
    | with_reducible assumption | intro _ | with_reducible apply modEngine_core
    | with_reducible apply addFlag_core | with_reducible apply setVerdict_core
    | with_reducible apply toWriting_core | with_reducible apply toGating_core | (dsimp only) | split

theorem endTail_core (h : SameCore s t) (e : EngineId) : SameCore s (t.endTail e) := by
  unfold State.endTail
  repeat' first
    | with_reducible assumption | intro _ | with_reducible apply modEngine_core
    | with_reducible apply closeWatch_core | with_reducible apply goodFrame_core
    | with_reducible apply failedFrame_core | (dsimp only) | split

theorem endPulse_core (h : SameCore s t) (e : EngineId) : SameCore s (t.endPulse e) := by
  unfold State.endPulse
  repeat' first
    | with_reducible assumption | intro _ | with_reducible apply modEngine_core
    | with_reducible apply stopNow_core | (dsimp only) | split

theorem setOverloadHold_core (h : SameCore s t) (x : Levels) : SameCore s (t.setOverloadHold x) := h

theorem tripDriver_core (h : SameCore s t) (n : StationId) : SameCore s (t.tripDriver n) := by
  unfold State.tripDriver
  repeat' first
    | with_reducible assumption | intro _ | with_reducible apply setOverloadHold_core | (dsimp only) | split

theorem releaseDriver_core (h : SameCore s t) (n : StationId) : SameCore s (t.releaseDriver n) := by
  unfold State.releaseDriver
  repeat' first
    | with_reducible assumption | intro _ | with_reducible apply setOverloadHold_core | (dsimp only) | split

theorem windowEdge_core (h : SameCore s t) (e : EngineId) (x : Nat) (b : Bool) (f : Engine → Bool) (c : Capture → Nat → Capture) : SameCore s (t.windowEdge e x b f c) := by
  unfold State.windowEdge
  repeat' first
    | with_reducible assumption | intro _ | with_reducible apply modEngine_core | (dsimp only) | split

theorem closeWindow_core (h : SameCore s t) (e : EngineId) (n : Nat) : SameCore s (t.closeWindow e n) := by
  unfold State.closeWindow
  repeat' first
    | with_reducible assumption | intro _ | with_reducible apply modEngine_core
    | with_reducible apply closeWatch_core | with_reducible apply toSettling_core
    | with_reducible apply toScoring_core | (dsimp only) | split

theorem expireGate_core (h : SameCore s t) (e : EngineId) (w : Work) : SameCore s (t.expireGate e w) := by
  unfold State.expireGate
  repeat' first
    | with_reducible assumption | intro _ | with_reducible apply modEngine_core
    | with_reducible apply withdrawQuestion_core | with_reducible apply addFlag_core
    | with_reducible apply setVerdict_core | with_reducible apply toWriting_core
    | with_reducible apply toScoring_core | (dsimp only) | split

theorem writeResult_core (h : SameCore s t) (k : CardId) (g : Engine) : SameCore s (t.writeResult k g) := by
  unfold State.writeResult
  repeat' first
    | with_reducible assumption | intro _ | with_reducible apply put_core | (dsimp only) | split

theorem resetOnSerial_core (h : SameCore s t) (n : StationId) (p : SlotId) (d : Parcel) : SameCore s (t.resetOnSerial n p d) := by
  unfold State.resetOnSerial
  repeat' first
    | with_reducible assumption | intro _ | with_reducible apply resetSlot_core | (dsimp only) | split

theorem acceptDelivery_core (h : SameCore s t) (n : StationId) (x : Byte) (d : Parcel) : SameCore s (t.acceptDelivery n x d) := by
  unfold State.acceptDelivery
  repeat' first
    | with_reducible assumption | intro _ | with_reducible apply writeSlot_core
    | with_reducible apply refreshHeldPermit_core | with_reducible apply stationEvent_core
    | with_reducible apply resetOnSerial_core | (dsimp only) | split

theorem deliver_core (h : SameCore s t) (e : EngineId) (n : StationId) (d : Parcel) : SameCore s (t.deliver e n d) := by
  unfold State.deliver
  repeat' first
    | with_reducible assumption | intro _ | with_reducible apply modEngine_core
    | with_reducible apply acceptDelivery_core | (dsimp only) | split

theorem endOnEngine_core (h : SameCore s t) (e : EngineId) (j : Job) : SameCore s (t.endOnEngine e j) := by
  unfold State.endOnEngine
  repeat' first
    | with_reducible assumption | intro _ | with_reducible apply release_core
    | with_reducible apply endCard_core | (dsimp only) | split

theorem writeStopped_core (h : SameCore s t) (k : CardId) (g : Engine) (x : ErrorCode) : SameCore s (t.writeStopped k g x) := by
  unfold State.writeStopped
  repeat' first
    | with_reducible assumption | intro _ | with_reducible apply put_core | (dsimp only) | split

theorem endStopped_core (h : SameCore s t) (e : EngineId) (j : Job) : SameCore s (t.endStopped e j) := by
  unfold State.endStopped
  repeat' first
    | with_reducible assumption | intro _ | with_reducible apply release_core
    | with_reducible apply finishCard_core | with_reducible apply writeStopped_core | (dsimp only) | split

theorem stopReaches_core (h : SameCore s t) (e : EngineId) (x : Stop) : SameCore s (t.stopReaches e x) := by
  unfold State.stopReaches
  repeat' first
    | with_reducible assumption | intro _ | with_reducible apply modEngine_core
    | with_reducible apply takeStop_core | (dsimp only) | split

theorem endScoring_core (h : SameCore s t) (e : EngineId) (p : Profile) : SameCore s (t.endScoring e p) := by
  unfold State.endScoring
  repeat' first
    | with_reducible assumption | intro _ | with_reducible apply modEngine_core
    | with_reducible apply addFlag_core | with_reducible apply toWriting_core | (dsimp only) | split

end Sys2Proof.Machine
end

