-- ==== Sys2Proof/Laws/Memory.lean ====
section
/-! SUPPORT. Exchange memory: reading after writing, and the canonical form kept by every memory operation. -/

namespace Sys2Proof.Machine

/-! ## Canonical form -/

theorem Memory.wfFrom_cons (low k : Nat) (v : Byte) (m : Memory) :
    Memory.wfFrom low ((k, v) :: m) = true ↔ low ≤ k ∧ v ≠ 0 ∧ Memory.wfFrom (k + 1) m = true := by
  simp [Memory.wfFrom, and_assoc]

/-- A lower bound may be lowered. -/
theorem Memory.wfFrom_mono {low low' : Nat} {m : Memory} (h : low' ≤ low) (w : Memory.wfFrom low m = true) :
    Memory.wfFrom low' m = true := by
  cases m with
  | nil => rfl
  | cons c m =>
    obtain ⟨k, v⟩ := c
    rw [Memory.wfFrom_cons] at w ⊢
    exact ⟨by omega, w.2⟩

/-- Writing at or above the bound keeps the form with its bound. -/
theorem Memory.wfFrom_write (m : Memory) (low a : Nat) (v : Byte) (h : low ≤ a) (w : Memory.wfFrom low m = true) :
    Memory.wfFrom low (Memory.write m a v) = true := by
  induction m generalizing low with
  | nil =>
    unfold Memory.write
    split
    · rfl
    · rw [Memory.wfFrom_cons]; exact ⟨h, ‹_›, rfl⟩
  | cons c m ih =>
    obtain ⟨k, x⟩ := c
    rw [Memory.wfFrom_cons] at w
    obtain ⟨w1, w2, w3⟩ := w
    unfold Memory.write
    split
    · split
      · rw [Memory.wfFrom_cons]; exact ⟨w1, w2, w3⟩
      · rw [Memory.wfFrom_cons, Memory.wfFrom_cons]; exact ⟨h, ‹_›, by omega, w2, w3⟩
    · split
      · split
        · exact Memory.wfFrom_mono (by omega) w3
        · rw [Memory.wfFrom_cons]; exact ⟨h, ‹_›, by subst a; exact w3⟩
      · rw [Memory.wfFrom_cons]; exact ⟨w1, w2, ih (k + 1) (by omega) w3⟩

/-- A write keeps the canonical form. -/
theorem Memory.wf_write {m : Memory} (a : Nat) (v : Byte) (w : Memory.wf m = true) :
    Memory.wf (Memory.write m a v) = true := Memory.wfFrom_write m 0 a v (Nat.zero_le a) w

/-- A run of writes keeps the canonical form. -/
theorem Memory.wf_writeBytes {m : Memory} (a : Nat) (bs : List Byte) (w : Memory.wf m = true) :
    Memory.wf (Memory.writeBytes m a bs) = true := by
  induction bs generalizing m a with
  | nil => exact w
  | cons b bs ih => exact ih (a + 1) (Memory.wf_write a b w)

/-! ## Reading after writing -/

/-- Below the bound of the canonical form every address reads 0x00. -/
theorem Memory.read_of_wfFrom {m : Memory} {low a : Nat} (w : Memory.wfFrom low m = true) (h : a < low) :
    Memory.read m a = 0 := by
  induction m generalizing low with
  | nil => rfl
  | cons c m ih =>
    obtain ⟨k, v⟩ := c
    rw [Memory.wfFrom_cons] at w
    have hk : k ≠ a := by omega
    simp [Memory.read, hk, ih w.2.2 (by omega)]

theorem Memory.read_write_from (m : Memory) (low a b : Nat) (v : Byte) (w : Memory.wfFrom low m = true) :
    Memory.read (Memory.write m a v) b = if b = a then v else Memory.read m b := by
  induction m generalizing low with
  | nil =>
    unfold Memory.write
    split
    · rename_i hv; subst hv; simp [Memory.read]
    · by_cases hb : b = a
      · simp [Memory.read, hb]
      · have hab : a ≠ b := fun h => hb h.symm
        simp [Memory.read, hb, hab]
  | cons c m ih =>
    obtain ⟨k, x⟩ := c
    rw [Memory.wfFrom_cons] at w
    obtain ⟨w1, w2, w3⟩ := w
    have hz : ∀ b, b < k + 1 → Memory.read m b = 0 := fun b h => Memory.read_of_wfFrom w3 h
    unfold Memory.write
    split
    · rename_i hak
      split
      · rename_i hv
        subst hv
        by_cases hb : b = a
        · subst hb
          have hkb : k ≠ b := by omega
          simp [Memory.read, hkb, hz b (by omega)]
        · simp [hb]
      · by_cases hb : b = a
        · simp [Memory.read, hb]
        · have hab : a ≠ b := fun h => hb h.symm
          simp [Memory.read, hb, hab]
    · split
      · rename_i hak
        subst hak
        split
        · rename_i hv
          subst hv
          by_cases hb : b = a
          · subst hb; simp [hz b (by omega)]
          · have hab : a ≠ b := fun h => hb h.symm
            simp [Memory.read, hb, hab]
        · by_cases hb : b = a
          · simp [Memory.read, hb]
          · have hab : a ≠ b := fun h => hb h.symm
            simp [Memory.read, hb, hab]
      · rename_i h1 h2
        by_cases hb : b = a
        · subst hb
          have hkb : k ≠ b := fun h => h2 h.symm
          simp [Memory.read, hkb, ih (k + 1) w3]
        · by_cases hk : k = b
          · simp [Memory.read, hk, hb]
          · simp [Memory.read, hk, hb, ih (k + 1) w3]

/-- Reading after a write of one byte. -/
theorem Memory.read_write {m : Memory} (w : Memory.wf m = true) (a b : Nat) (v : Byte) :
    Memory.read (Memory.write m a v) b = if b = a then v else Memory.read m b :=
  Memory.read_write_from m 0 a b v w

/-- A write leaves every other address. The canonical form is not needed. -/
theorem Memory.read_write_other (m : Memory) (a b : Nat) (v : Byte) (h : b ≠ a) :
    Memory.read (Memory.write m a v) b = Memory.read m b := by
  have hab : a ≠ b := fun x => h x.symm
  induction m with
  | nil =>
    unfold Memory.write
    split <;> simp [Memory.read, hab]
  | cons c m ih =>
    obtain ⟨k, x⟩ := c
    unfold Memory.write
    split
    · split
      · rfl
      · simp [Memory.read, hab]
    · split
      · rename_i hak
        subst hak
        split <;> simp [Memory.read, hab]
      · simp [Memory.read, ih]

/-- Reading after a run of writes. -/
theorem Memory.read_writeBytes {m : Memory} (w : Memory.wf m = true) (a b : Nat) (bs : List Byte) :
    Memory.read (Memory.writeBytes m a bs) b =
      if h : a ≤ b ∧ b - a < bs.length then bs[b - a]'h.2 else Memory.read m b := by
  induction bs generalizing m a with
  | nil => simp [Memory.writeBytes]
  | cons x bs ih =>
    rw [Memory.writeBytes, ih (Memory.wf_write a x w), Memory.read_write w]
    by_cases hb : b = a
    · subst hb; simp
    · by_cases h : a + 1 ≤ b
      · obtain ⟨d, rfl⟩ : ∃ d, b = a + 1 + d := ⟨b - (a + 1), by omega⟩
        have e1 : a + 1 + d - (a + 1) = d := by omega
        have e2 : a + 1 + d - a = d + 1 := by omega
        simp only [e1, e2, List.length_cons, List.getElem_cons_succ]
        by_cases hd : d < bs.length
        · rw [dif_pos ⟨by omega, hd⟩, dif_pos ⟨by omega, by omega⟩]
        · rw [dif_neg (by omega), dif_neg (by omega), if_neg (by omega)]
      · rw [dif_neg (by omega), dif_neg (by omega), if_neg hb]

/-- A run of writes leaves every address outside the run. -/
theorem Memory.read_writeBytes_other (m : Memory) (a b : Nat) (bs : List Byte) (h : b < a ∨ a + bs.length ≤ b) :
    Memory.read (Memory.writeBytes m a bs) b = Memory.read m b := by
  induction bs generalizing m a with
  | nil => rfl
  | cons x bs ih =>
    rw [List.length_cons] at h
    rw [Memory.writeBytes, ih _ _ (by omega), Memory.read_write_other _ _ _ _ (by omega)]

/-- The byte read after part-side writes. -/
theorem State.byte_put {s : State} (w : Memory.wf s.mem = true) (a b : Nat) (bs : List Byte) :
    (s.put a bs).byte b = if h : a ≤ b ∧ b - a < bs.length then bs[b - a]'h.2 else s.byte b :=
  Memory.read_writeBytes w a b bs

/-- The bytes outside the run put keep their values. -/
theorem State.byte_put_other (s : State) (a b : Nat) (bs : List Byte) (h : b < a ∨ a + bs.length ≤ b) :
    (s.put a bs).byte b = s.byte b := Memory.read_writeBytes_other s.mem a b bs h

/-- A put keeps the canonical form. -/
theorem State.wf_put {s : State} (a : Nat) (bs : List Byte) (w : Memory.wf s.mem = true) :
    Memory.wf (s.put a bs).mem = true := Memory.wf_writeBytes a bs w

/-- The memory of State.reset has the canonical form. -/
theorem resetMemory_wf : Memory.wf State.reset.mem = true := by decide

end Sys2Proof.Machine
end

