-- ==== Sys2Proof/Laws/Ownership.lean ====
section
/-! SUPPORT. What each shared operation can do to exchange memory: it writes bytes the part owns, and no others. -/

namespace Sys2Proof.Machine

/-- Memory t comes from memory s by runs of bytes written at addresses the part owns. -/
inductive PartWrites : Memory → Memory → Prop where
  | same (m : Memory) : PartWrites m m
  | write {m m' : Memory} (a : Nat) (bs : List Byte) : PartWrites m m' → (∀ i, i < bs.length → partOwns (a + i) = true) →
      PartWrites m (Memory.writeBytes m' a bs)

/-- The canonical form is kept. -/
theorem PartWrites.wf {m m' : Memory} (h : PartWrites m m') (w : Memory.wf m = true) : Memory.wf m' = true := by
  induction h with
  | same => exact w
  | write a bs _ _ ih => exact Memory.wf_writeBytes a bs ih

/-- A byte the part does not own keeps its value. -/
theorem PartWrites.read {m m' : Memory} (h : PartWrites m m') {a : Nat} (ha : partOwns a = false) :
    Memory.read m' a = Memory.read m a := by
  induction h with
  | same => rfl
  | @write m' b bs _ ho ih =>
    rw [Memory.read_writeBytes_other, ih]
    by_contra hc
    have hlt : b ≤ a ∧ a < b + bs.length := by omega
    have := ho (a - b) (by omega)
    rw [show b + (a - b) = a by omega, ha] at this
    exact Bool.noConfusion this

/-- One after the other. -/
theorem PartWrites.trans {m m' m'' : Memory} (h : PartWrites m m') (k : PartWrites m' m'') : PartWrites m m'' := by
  induction k with
  | same => exact h
  | write a bs _ ho ih => exact .write a bs ih ho

/-- State t comes from state s with part-side writes only. -/
def Keeps (s t : State) : Prop := PartWrites s.mem t.mem

variable {s t : State}

theorem put_keeps (h : Keeps s t) (a : Nat) (bs : List Byte) (ho : ∀ i, i < bs.length → partOwns (a + i) = true) :
    Keeps s (t.put a bs) := .write a bs h ho

theorem forAll_keeps {α : Type} (act : α → State → State) (hk : ∀ x (u : State), Keeps s u → Keeps s (act x u))
    (xs : List α) (h : Keeps s t) : Keeps s (forAll xs act t) := by
  induction xs generalizing t with
  | nil => exact h
  | cons x xs ih => exact ih (hk x t h)

/-! ## Which addresses are the part's -/

theorem owns_status (a len : Nat) (lo : 0x80 ≤ a) (hi : a + len ≤ 0xA0) : ∀ i, i < len → partOwns (a + i) = true := by
  intro i hi'
  have : 0x80 ≤ a + i ∧ a + i < 0xA0 := by omega
  simp [partOwns, this]

theorem owns_station (n : StationId) (o len : Nat) (lo : 0x10 ≤ o) (hi : o + len ≤ 0x19) :
    ∀ i, i < len → partOwns (stationBase n + o + i) = true := by
  intro i hi'
  have hn := n.isLt
  have h1 : ¬ (0x80 ≤ stationBase n + o + i ∧ stationBase n + o + i < 0xA0) := by unfold stationBase; omega
  have h2 : 0x100 ≤ stationBase n + o + i ∧ stationBase n + o + i < 0x700 := by unfold stationBase; omega
  have h3 : (stationBase n + o + i - 0x100) % 128 = o + i := by unfold stationBase; omega
  simp only [partOwns, if_neg h1, if_pos h2, h3]
  have h4 : 0x10 ≤ o + i ∧ o + i < 0x19 := by omega
  simp [h4]

theorem owns_slot (n : StationId) (p : SlotId) (o len : Nat)
    (ho : (o = 0 ∧ len = 1) ∨ (2 ≤ o ∧ o + len ≤ 7) ∨ (8 ≤ o ∧ o + len ≤ 20)) :
    ∀ i, i < len → partOwns (slotBase n p + o + i) = true := by
  intro i hi'
  have hn := n.isLt
  have hp := p.isLt
  have h1 : ¬ (0x80 ≤ slotBase n p + o + i ∧ slotBase n p + o + i < 0xA0) := by unfold slotBase stationBase; omega
  have h2 : 0x100 ≤ slotBase n p + o + i ∧ slotBase n p + o + i < 0x700 := by unfold slotBase stationBase; omega
  have h3 : (slotBase n p + o + i - 0x100) % 128 = 0x20 + 20 * p.val + o + i := by unfold slotBase stationBase; omega
  simp only [partOwns, if_neg h1, if_pos h2, h3]
  have h4 : 0x20 ≤ 0x20 + 20 * p.val + o + i ∧ 0x20 + 20 * p.val + o + i < 0x70 := by omega
  have h5 : (0x20 + 20 * p.val + o + i - 0x20) % 20 = o + i := by omega
  have h6 : o + i ≠ 1 ∧ o + i ≠ 7 := by omega
  simp [h4, h5, h6]

theorem owns_card (k : CardId) (o len : Nat) (ho : (o = 0 ∧ len = 1) ∨ (0x10 ≤ o ∧ o + len ≤ 64)) :
    ∀ i, i < len → partOwns (cardBase k + o + i) = true := by
  intro i hi'
  have hk := k.isLt
  have h1 : ¬ (0x80 ≤ cardBase k + o + i ∧ cardBase k + o + i < 0xA0) := by unfold cardBase; omega
  have h2 : ¬ (0x100 ≤ cardBase k + o + i ∧ cardBase k + o + i < 0x700) := by unfold cardBase; omega
  have h3 : 0x800 ≤ cardBase k + o + i ∧ cardBase k + o + i < 0x1000 := by unfold cardBase; omega
  have h4 : (cardBase k + o + i - 0x800) % 64 = o + i := by unfold cardBase; omega
  simp only [partOwns, if_neg h1, if_neg h2, if_pos h3, h4]
  have h5 : o + i = 0 ∨ 0x10 ≤ o + i := by omega
  rcases h5 with h5 | h5 <;> simp [h5]

theorem putStatus_keeps (h : Keeps s t) (a : Nat) (bs : List Byte) (lo : 0x80 ≤ a) (hi : a + bs.length ≤ 0xA0) :
    Keeps s (t.put a bs) := put_keeps h a bs (owns_status a bs.length lo hi)

theorem putStation_keeps (h : Keeps s t) (n : StationId) (o : Nat) (bs : List Byte) (lo : 0x10 ≤ o)
    (hi : o + bs.length ≤ 0x19) : Keeps s (t.put (stationBase n + o) bs) :=
  put_keeps h _ bs (owns_station n o bs.length lo hi)

theorem putSlot_keeps (h : Keeps s t) (n : StationId) (p : SlotId) (o : Nat) (bs : List Byte)
    (ho : (o = 0 ∧ bs.length = 1) ∨ (2 ≤ o ∧ o + bs.length ≤ 7) ∨ (8 ≤ o ∧ o + bs.length ≤ 20)) :
    Keeps s (t.put (slotBase n p + o) bs) := put_keeps h _ bs (owns_slot n p o bs.length ho)

theorem putCard_keeps (h : Keeps s t) (k : CardId) (o : Nat) (bs : List Byte)
    (ho : (o = 0 ∧ bs.length = 1) ∨ (0x10 ≤ o ∧ o + bs.length ≤ 64)) :
    Keeps s (t.put (cardBase k + o) bs) := put_keeps h _ bs (owns_card k o bs.length ho)

/-! ## Updates that leave exchange memory -/

theorem setPort_keeps (h : Keeps s t) (p : Port) : Keeps s (t.setPort p) := h
theorem setPins_keeps (h : Keeps s t) (p : Pins) : Keeps s (t.setPins p) := h
theorem setRegs_keeps (h : Keeps s t) (r : Registers) : Keeps s (t.setRegs r) := h
theorem setSweeper_keeps (h : Keeps s t) (w : Sweeper) : Keeps s (t.setSweeper w) := h
theorem setWaiting_keeps (h : Keeps s t) (l : List Entry) : Keeps s (t.setWaiting l) := h
theorem setNotices_keeps (h : Keeps s t) (l : List Notice) : Keeps s (t.setNotices l) := h
theorem setTracker_keeps (h : Keeps s t) (k : Tracker) : Keeps s (t.setTracker k) := h
theorem setCache_keeps (h : Keeps s t) (c : Cache) : Keeps s (t.setCache c) := h
theorem modEngine_keeps (h : Keeps s t) (e : EngineId) (f : Engine → Engine) : Keeps s (t.modEngine e f) := h
theorem modStation_keeps (h : Keeps s t) (n : StationId) (f : Station → Station) : Keeps s (t.modStation n f) := h
theorem setHold_keeps (h : Keeps s t) (n : StationId) (x : Option EngineId) : Keeps s (t.setHold n x) := h
theorem setPoint_keeps (h : Keeps s t) (e : EngineId) (n : Option StationId) : Keeps s (t.setPoint e n) := h
theorem setQuestion_keeps (h : Keeps s t) (e : EngineId) (q : Option Question) : Keeps s (t.setQuestion e q) := h
theorem setWatch_keeps (h : Keeps s t) (e : EngineId) (w : Option Watch) : Keeps s (t.setWatch e w) := h
theorem sampleEcho_keeps (h : Keeps s t) (l : Levels) : Keeps s (t.sampleEcho l) := h
theorem setPhase_keeps (h : Keeps s t) (e : EngineId) (p : Phase) : Keeps s (t.setPhase e p) := h
theorem closeWatch_keeps (h : Keeps s t) (e : EngineId) : Keeps s (t.closeWatch e) := h
theorem withdrawQuestion_keeps (h : Keeps s t) (e : EngineId) : Keeps s (t.withdrawQuestion e) := h
theorem raise_keeps (h : Keeps s t) (c : BitVec 5) : Keeps s (t.raise c) := h
theorem addFlag_keeps (h : Keeps s t) (e : EngineId) (f : Half) : Keeps s (t.addFlag e f) := h
theorem setVerdict_keeps (h : Keeps s t) (e : EngineId) (v : Verdict) : Keeps s (t.setVerdict e v) := h
theorem toWriting_keeps (h : Keeps s t) (e : EngineId) : Keeps s (t.toWriting e) := h
theorem stopNow_keeps (h : Keeps s t) (e : EngineId) : Keeps s (t.stopNow e) := h
theorem faultStop_keeps (h : Keeps s t) (e : EngineId) (c : FaultCause) : Keeps s (t.faultStop e c) := h
theorem beginSettling_keeps (h : Keeps s t) (e : EngineId) : Keeps s (t.beginSettling e) := h
theorem beginScoring_keeps (h : Keeps s t) (e : EngineId) : Keeps s (t.beginScoring e) := h
theorem evaluatePermit_keeps (h : Keeps s t) (n : StationId) : Keeps s (t.evaluatePermit n) := h
theorem tellList_keeps (h : Keeps s t) (n : StationId) (ev : StationEvent) : Keeps s (t.tellList n ev) := h
theorem disturb_keeps (h : Keeps s t) (e : EngineId) (w : Watch) : Keeps s (t.disturb e w) := h
theorem resetBlocks_keeps (h : Keeps s t) : Keeps s (t.resetBlocks) := h

/-! ## Causes and flags -/

theorem raiseIf_keeps (h : Keeps s t) (b : Bool) (c : BitVec 5) : Keeps s (t.raiseIf b c) := by
  unfold State.raiseIf
  repeat' first
    | with_reducible assumption | intro _ | with_reducible apply raise_keeps | (dsimp only) | split

/-! ## Stations (03) -/

theorem putStation1_keeps (h : Keeps s t) (n : StationId) (o : Nat) (b : Byte) (ho : 0x10 ≤ o ∧ o < 0x19) :
    Keeps s (t.put (stationBase n + o) [b]) := by
  refine putStation_keeps h n o [b] ho.1 ?_
  simp only [List.length_cons, List.length_nil]; omega

theorem putCard1_keeps (h : Keeps s t) (k : CardId) (o : Nat) (b : Byte) (ho : 0x10 ≤ o ∧ o < 64) :
    Keeps s (t.put (cardBase k + o) [b]) := by
  refine putCard_keeps h k o [b] (.inr ⟨ho.1, ?_⟩)
  simp only [List.length_cons, List.length_nil]; omega

theorem putCardStatus_keeps (h : Keeps s t) (k : CardId) (b : Byte) : Keeps s (t.put (cardBase k) [b]) :=
  putCard_keeps h k 0 [b] (.inl ⟨rfl, rfl⟩)

theorem writeSlot_keeps (h : Keeps s t) (n : StationId) (p : SlotId) (f : SlotFields) : Keeps s (t.writeSlot n p f) := by
  unfold State.writeSlot
  split
  · exact h
  · refine putSlot_keeps (putSlot_keeps (putSlot_keeps (putSlot_keeps h n p 0 [f.verdict] ?_) n p 2 _ ?_) n p 8 _ ?_)
      n p 0x10 _ ?_ <;> simp [halfBytes, longBytes]

theorem resetSlot_keeps (h : Keeps s t) (n : StationId) (p : SlotId) : Keeps s (t.resetSlot n p) := by
  unfold State.resetSlot
  repeat' first
    | with_reducible assumption | intro _ | with_reducible apply writeSlot_keeps | (dsimp only) | split

theorem resetSlots_keeps (h : Keeps s t) (n : StationId) (ps : List SlotId) : Keeps s (t.resetSlots n ps) := by
  unfold State.resetSlots
  repeat' first
    | with_reducible assumption | intro _ | with_reducible apply resetSlot_keeps
    | with_reducible apply forAll_keeps | (dsimp only) | split

theorem refreshHeldPermit_keeps (h : Keeps s t) (n : StationId) : Keeps s (t.refreshHeldPermit n) := by
  unfold State.refreshHeldPermit
  repeat' first
    | with_reducible assumption | intro _ | with_reducible apply modStation_keeps | (dsimp only) | split

theorem stampAndFlag_keeps (h : Keeps s t) (n : StationId) : Keeps s (t.stampAndFlag n) := by
  refine raiseIf_keeps (putStation_keeps (putStation_keeps h n stStamp _ ?_ ?_) n stChangeFlag _ ?_ ?_) _ _ <;>
    simp [stStamp, stChangeFlag, longBytes]

theorem settleRecord_keeps (h : Keeps s t) (n : StationId) (b : Byte × Byte × Byte) : Keeps s (t.settleRecord n b) := by
  unfold State.settleRecord
  repeat' first
    | with_reducible assumption | intro _ | with_reducible apply evaluatePermit_keeps
    | with_reducible apply stampAndFlag_keeps | with_reducible apply putStation1_keeps
    | (dsimp only) | split | decide

theorem stationEvent_keeps (h : Keeps s t) (n : StationId) (act : State → State)
    (ha : ∀ u : State, Keeps s u → Keeps s (act u)) : Keeps s (t.stationEvent n act) := settleRecord_keeps (ha t h) n _

theorem markLoss_keeps (h : Keeps s t) (n : StationId) (l : Loss) : Keeps s (t.markLoss n l) := by
  unfold State.markLoss
  repeat' first
    | with_reducible assumption | intro _ | with_reducible apply modStation_keeps | (dsimp only) | split

theorem sendStop_keeps (h : Keeps s t) (n : StationId) (x : Stop) : Keeps s (t.sendStop n x) := by
  unfold State.sendStop
  repeat' first
    | with_reducible assumption | intro _ | with_reducible apply modEngine_keeps | (dsimp only) | split

theorem clearFault_keeps (h : Keeps s t) (n : StationId) : Keeps s (t.clearFault n) := by
  unfold State.clearFault
  repeat' first
    | with_reducible assumption | intro _ | with_reducible apply modStation_keeps
    | with_reducible apply stationEvent_keeps | with_reducible apply putStation1_keeps
    | (dsimp only) | split | decide

theorem takeFault_keeps (h : Keeps s t) (n : StationId) (c : FaultCause) : Keeps s (t.takeFault n c) := by
  unfold State.takeFault
  repeat' first
    | with_reducible assumption | intro _ | with_reducible apply modStation_keeps
    | with_reducible apply tellList_keeps | with_reducible apply resetSlots_keeps
    | with_reducible apply refreshHeldPermit_keeps | with_reducible apply stationEvent_keeps
    | with_reducible apply markLoss_keeps | with_reducible apply putStation1_keeps
    | (dsimp only) | split | decide

theorem takeFit_keeps (h : Keeps s t) (n : StationId) : Keeps s (t.takeFit n) := by
  unfold State.takeFit
  repeat' first
    | with_reducible assumption | intro _ | with_reducible apply modStation_keeps
    | with_reducible apply stationEvent_keeps | with_reducible apply putStation1_keeps
    | (dsimp only) | split | decide

theorem takeRemoval_keeps (h : Keeps s t) (n : StationId) : Keeps s (t.takeRemoval n) := by
  unfold State.takeRemoval
  repeat' first
    | with_reducible assumption | intro _ | with_reducible apply modStation_keeps
    | with_reducible apply tellList_keeps | with_reducible apply resetSlots_keeps
    | with_reducible apply refreshHeldPermit_keeps | with_reducible apply stationEvent_keeps
    | with_reducible apply markLoss_keeps | with_reducible apply sendStop_keeps
    | with_reducible apply putStation1_keeps | (dsimp only) | split | decide

/-! ## Engines (05) -/

theorem takeStop_keeps (h : Keeps s t) (e : EngineId) (x : Stop) : Keeps s (t.takeStop e x) := by
  unfold State.takeStop
  repeat' first
    | with_reducible assumption | intro _ | with_reducible apply modEngine_keeps
    | with_reducible apply stopNow_keeps | (dsimp only) | split

theorem startRound_keeps (h : Keeps s t) (e : EngineId) : Keeps s (t.startRound e) := by
  unfold State.startRound
  repeat' first
    | with_reducible assumption | intro _ | with_reducible apply modEngine_keeps
    | with_reducible apply addFlag_keeps | (dsimp only) | split

theorem startFrame_keeps (h : Keeps s t) (e : EngineId) : Keeps s (t.startFrame e) := by
  unfold State.startFrame
  repeat' first
    | with_reducible assumption | intro _ | with_reducible apply modEngine_keeps | (dsimp only) | split

theorem startWork_keeps (h : Keeps s t) (e : EngineId) (w : Work) : Keeps s (t.startWork e w) := by
  unfold State.startWork
  repeat' first
    | with_reducible assumption | intro _ | with_reducible apply faultStop_keeps
    | with_reducible apply startRound_keeps | with_reducible apply startFrame_keeps | (dsimp only) | split

/-! ## Tracker (04) -/

theorem writeTracker_keeps (h : Keeps s t) : Keeps s t.writeTracker := by
  refine putStatus_keeps (putStatus_keeps h msAngle _ ?_ ?_) msCycles _ ?_ ?_ <;>
    simp [msAngle, msCycles, halfBytes, longBytes]

theorem updateTracker_keeps (h : Keeps s t) (k : Tracker) (b : Bool) : Keeps s (t.updateTracker k b) := by
  unfold State.updateTracker
  repeat' first
    | with_reducible assumption | intro _ | with_reducible apply setTracker_keeps
    | with_reducible apply raiseIf_keeps | with_reducible apply writeTracker_keeps | (dsimp only) | split

theorem judgeQuestion_keeps (h : Keeps s t) (e : EngineId) : Keeps s (t.judgeQuestion e) := by
  unfold State.judgeQuestion
  repeat' first
    | with_reducible assumption | intro _ | with_reducible apply setQuestion_keeps
    | with_reducible apply setWatch_keeps | with_reducible apply startWork_keeps | (dsimp only) | split

theorem judgeQuestions_keeps (h : Keeps s t) : Keeps s (t.judgeQuestions) := by
  unfold State.judgeQuestions
  repeat' first
    | with_reducible assumption | intro _ | with_reducible apply judgeQuestion_keeps
    | with_reducible apply forAll_keeps | (dsimp only) | split

theorem askQuestion_keeps (h : Keeps s t) (e : EngineId) (w : Work) : Keeps s (t.askQuestion e w) := by
  unfold State.askQuestion
  repeat' first
    | with_reducible assumption | intro _ | with_reducible apply setQuestion_keeps
    | with_reducible apply setPhase_keeps | with_reducible apply judgeQuestion_keeps | (dsimp only) | split

theorem judgeWatch_keeps (h : Keeps s t) (e : EngineId) : Keeps s (t.judgeWatch e) := by
  unfold State.judgeWatch
  repeat' first
    | with_reducible assumption | intro _ | with_reducible apply disturb_keeps | (dsimp only) | split

theorem judgeWatches_keeps (h : Keeps s t) : Keeps s (t.judgeWatches) := by
  unfold State.judgeWatches
  repeat' first
    | with_reducible assumption | intro _ | with_reducible apply judgeWatch_keeps
    | with_reducible apply forAll_keeps | (dsimp only) | split

theorem takeMclk_keeps (h : Keeps s t) (ppc : Half) : Keeps s (t.takeMclk ppc) := by
  unfold State.takeMclk
  repeat' first
    | with_reducible assumption | intro _ | with_reducible apply updateTracker_keeps
    | with_reducible apply judgeQuestions_keeps | with_reducible apply judgeWatches_keeps | (dsimp only) | split

theorem takeMidx_keeps (h : Keeps s t) (ppc : Half) : Keeps s (t.takeMidx ppc) := by
  unfold State.takeMidx
  repeat' first
    | with_reducible assumption | intro _ | with_reducible apply updateTracker_keeps
    | with_reducible apply judgeQuestions_keeps | with_reducible apply judgeWatches_keeps | (dsimp only) | split

theorem takeStopTimeout_keeps (h : Keeps s t) (b : Byte) : Keeps s (t.takeStopTimeout b) := by
  unfold State.takeStopTimeout
  repeat' first
    | with_reducible assumption | intro _ | with_reducible apply updateTracker_keeps
    | with_reducible apply judgeQuestions_keeps | (dsimp only) | split

theorem restartTracker_keeps (h : Keeps s t) : Keeps s (t.restartTracker) := by
  unfold State.restartTracker
  repeat' first
    | with_reducible assumption | intro _ | with_reducible apply updateTracker_keeps
    | with_reducible apply judgeQuestions_keeps | with_reducible apply judgeWatches_keeps | (dsimp only) | split

/-! ## Steps of an engine (05, 08) -/

theorem toGating_keeps (h : Keeps s t) (e : EngineId) (w : Work) : Keeps s (t.toGating e w) := by
  unfold State.toGating
  repeat' first
    | with_reducible assumption | intro _ | with_reducible apply setPhase_keeps
    | with_reducible apply askQuestion_keeps | (dsimp only) | split

theorem toSettling_keeps (h : Keeps s t) (e : EngineId) : Keeps s (t.toSettling e) := by
  unfold State.toSettling
  repeat' first
    | with_reducible assumption | intro _ | with_reducible apply setPhase_keeps
    | with_reducible apply beginSettling_keeps | (dsimp only) | split

theorem toScoring_keeps (h : Keeps s t) (e : EngineId) : Keeps s (t.toScoring e) := by
  unfold State.toScoring
  repeat' first
    | with_reducible assumption | intro _ | with_reducible apply setPhase_keeps
    | with_reducible apply beginScoring_keeps | (dsimp only) | split

theorem lookupUnlisted_keeps (h : Keeps s t) (e : EngineId) : Keeps s (t.lookupUnlisted e) := by
  unfold State.lookupUnlisted
  repeat' first
    | with_reducible assumption | intro _ | with_reducible apply modEngine_keeps
    | with_reducible apply setVerdict_keeps | with_reducible apply toWriting_keeps | (dsimp only) | split

theorem lookupFailed_keeps (h : Keeps s t) (e : EngineId) (i : ShelfId) (x : ErrorCode) : Keeps s (t.lookupFailed e i x) := by
  unfold State.lookupFailed
  repeat' first
    | with_reducible assumption | intro _ | with_reducible apply modEngine_keeps
    | with_reducible apply toWriting_keeps | (dsimp only) | split

theorem lookupFound_keeps (h : Keeps s t) (e : EngineId) (i : ShelfId) (p : Profile) : Keeps s (t.lookupFound e i p) := by
  unfold State.lookupFound
  repeat' first
    | with_reducible assumption | intro _ | with_reducible apply modEngine_keeps
    | with_reducible apply addFlag_keeps | with_reducible apply setVerdict_keeps
    | with_reducible apply toWriting_keeps | with_reducible apply toGating_keeps | (dsimp only) | split

theorem beginLookup_keeps (h : Keeps s t) (e : EngineId) : Keeps s (t.beginLookup e) := by
  unfold State.beginLookup
  repeat' first
    | with_reducible assumption | intro _ | with_reducible apply setCache_keeps
    | with_reducible apply modEngine_keeps | with_reducible apply addFlag_keeps
    | with_reducible apply lookupFound_keeps | (dsimp only) | split

theorem toLookup_keeps (h : Keeps s t) (e : EngineId) : Keeps s (t.toLookup e) := by
  unfold State.toLookup
  repeat' first
    | with_reducible assumption | intro _ | with_reducible apply setPhase_keeps
    | with_reducible apply beginLookup_keeps | (dsimp only) | split

theorem offerRecord_keeps (h : Keeps s t) (e : EngineId) (i : ShelfId) (r : List Byte) : Keeps s (t.offerRecord e i r) := by
  unfold State.offerRecord
  repeat' first
    | with_reducible assumption | intro _ | with_reducible apply setCache_keeps | (dsimp only) | split

theorem passOver_keeps (h : Keeps s t) (e : EngineId) : Keeps s (t.passOver e) := by
  unfold State.passOver
  repeat' first
    | with_reducible assumption | intro _ | with_reducible apply modEngine_keeps
    | with_reducible apply lookupUnlisted_keeps | (dsimp only) | split

theorem damagedCandidate_keeps (h : Keeps s t) (e : EngineId) : Keeps s (t.damagedCandidate e) := by
  unfold State.damagedCandidate
  repeat' first
    | with_reducible assumption | intro _ | with_reducible apply modEngine_keeps
    | with_reducible apply lookupFailed_keeps | (dsimp only) | split

theorem readShelf_keeps (h : Keeps s t) (e : EngineId) : Keeps s (t.readShelf e) := by
  unfold State.readShelf
  repeat' first
    | with_reducible assumption | intro _ | with_reducible apply modEngine_keeps
    | with_reducible apply lookupFailed_keeps | with_reducible apply lookupFound_keeps
    | with_reducible apply offerRecord_keeps | with_reducible apply passOver_keeps
    | with_reducible apply damagedCandidate_keeps | (dsimp only) | split

/-! ## Setup (03) -/

theorem disableStation_keeps (h : Keeps s t) (n : StationId) : Keeps s (t.disableStation n) := by
  unfold State.disableStation
  repeat' first
    | with_reducible assumption | intro _ | with_reducible apply modStation_keeps
    | with_reducible apply tellList_keeps | with_reducible apply resetSlots_keeps
    | with_reducible apply refreshHeldPermit_keeps | with_reducible apply stationEvent_keeps
    | with_reducible apply markLoss_keeps | with_reducible apply sendStop_keeps
    | with_reducible apply putStation1_keeps | (dsimp only) | split | decide

theorem enableStation_keeps (h : Keeps s t) (n : StationId) : Keeps s (t.enableStation n) := by
  unfold State.enableStation
  repeat' first
    | with_reducible assumption | intro _ | with_reducible apply modStation_keeps
    | with_reducible apply stationEvent_keeps | (dsimp only) | split

theorem changeRoster_keeps (h : Keeps s t) (n : StationId) (c : Setup) : Keeps s (t.changeRoster n c) := by
  unfold State.changeRoster
  repeat' first
    | with_reducible assumption | intro _ | with_reducible apply modStation_keeps
    | with_reducible apply tellList_keeps | with_reducible apply resetSlots_keeps
    | with_reducible apply stationEvent_keeps | (dsimp only) | split

theorem changePolicy_keeps (h : Keeps s t) (n : StationId) (b : Bool) : Keeps s (t.changePolicy n b) := by
  unfold State.changePolicy
  repeat' first
    | with_reducible assumption | intro _ | with_reducible apply modStation_keeps
    | with_reducible apply evaluatePermit_keeps | (dsimp only) | split

theorem changeRestart_keeps (h : Keeps s t) (n : StationId) (b : Bool) : Keeps s (t.changeRestart n b) := by
  unfold State.changeRestart
  repeat' first
    | with_reducible assumption | intro _ | with_reducible apply modStation_keeps | (dsimp only) | split

theorem changeArcs_keeps (h : Keeps s t) (n : StationId) (a b : Half) : Keeps s (t.changeArcs n a b) := by
  unfold State.changeArcs
  repeat' first
    | with_reducible assumption | intro _ | with_reducible apply modStation_keeps
    | with_reducible apply judgeQuestion_keeps | (dsimp only) | split

theorem actOnSetup_keeps (h : Keeps s t) (n : StationId) (c : Setup) (b : Bool) : Keeps s (t.actOnSetup n c b) := by
  unfold State.actOnSetup
  repeat' first
    | with_reducible assumption | intro _ | with_reducible apply disableStation_keeps
    | with_reducible apply enableStation_keeps | with_reducible apply changeRoster_keeps
    | with_reducible apply changePolicy_keeps | with_reducible apply changeRestart_keeps
    | with_reducible apply changeArcs_keeps | (dsimp only) | split

theorem setupNotice_keeps (h : Keeps s t) (n : StationId) : Keeps s (t.setupNotice n) := by
  unfold State.setupNotice
  repeat' first
    | with_reducible assumption | intro _ | with_reducible apply modStation_keeps
    | with_reducible apply actOnSetup_keeps | (dsimp only) | split

theorem activateStation_keeps (h : Keeps s t) (n : StationId) : Keeps s (t.activateStation n) := by
  unfold State.activateStation
  repeat' first
    | with_reducible assumption | intro _ | with_reducible apply modStation_keeps
    | with_reducible apply stationEvent_keeps | (dsimp only) | split

theorem activateSupervisor_keeps (h : Keeps s t) : Keeps s (t.activateSupervisor) := by
  unfold State.activateSupervisor
  repeat' first
    | with_reducible assumption | intro _ | with_reducible apply activateStation_keeps
    | with_reducible apply forAll_keeps | (dsimp only) | split

/-! ## Allocator (05) -/

theorem holdBegin_keeps (h : Keeps s t) (n : StationId) (e : EngineId) : Keeps s (t.holdBegin n e) := by
  unfold State.holdBegin
  repeat' first
    | with_reducible assumption | intro _ | with_reducible apply modEngine_keeps
    | with_reducible apply modStation_keeps | with_reducible apply stationEvent_keeps
    | with_reducible apply putStation1_keeps | (dsimp only) | split | decide

theorem grant_keeps (h : Keeps s t) (x : Entry) (e : EngineId) : Keeps s (t.grant x e) := by
  unfold State.grant
  repeat' first
    | with_reducible assumption | intro _ | with_reducible apply setWaiting_keeps
    | with_reducible apply modEngine_keeps | with_reducible apply setHold_keeps
    | with_reducible apply setPoint_keeps | with_reducible apply askQuestion_keeps
    | with_reducible apply holdBegin_keeps | with_reducible apply putCard1_keeps
    | with_reducible apply putCardStatus_keeps | (dsimp only) | split | decide

theorem grantAll_keeps (k : Nat) (h : Keeps s t) : Keeps s (State.grantAll k t) := by
  induction k generalizing t with
  | zero => exact h
  | succ k ih =>
    unfold State.grantAll
    split
    · exact ih (grant_keeps h _ _)
    · exact h

theorem allocate_keeps (h : Keeps s t) : Keeps s (t.allocate) := by
  unfold State.allocate
  repeat' first
    | with_reducible assumption | intro _ | with_reducible apply grantAll_keeps | (dsimp only) | split

theorem holdEnd_keeps (h : Keeps s t) (n : StationId) : Keeps s (t.holdEnd n) := by
  unfold State.holdEnd
  repeat' first
    | with_reducible assumption | intro _ | with_reducible apply modStation_keeps
    | with_reducible apply stationEvent_keeps | with_reducible apply setupNotice_keeps
    | with_reducible apply putStation1_keeps | (dsimp only) | split | decide

theorem release_keeps (h : Keeps s t) (e : EngineId) (n : StationId) : Keeps s (t.release e n) := by
  unfold State.release
  repeat' first
    | with_reducible assumption | intro _ | with_reducible apply modEngine_keeps
    | with_reducible apply setHold_keeps | with_reducible apply setPoint_keeps
    | with_reducible apply allocate_keeps | with_reducible apply holdEnd_keeps | (dsimp only) | split

/-! ## Cards (02) -/

theorem finishCard_keeps (h : Keeps s t) (k : CardId) (b : Byte) (n : Bool) : Keeps s (t.finishCard k b n) :=
  raiseIf_keeps (putCardStatus_keeps (putCard_keeps h k cdStamp _ (by simp [cdStamp, longBytes])) k b) n _

theorem blankCard_keeps (h : Keeps s t) (k : CardId) : Keeps s (t.blankCard k) :=
  putCard_keeps h k cdError _ (by simp [cdError, blankResult])

theorem putIntakeNumber_keeps (h : Keeps s t) (k : CardId) (x : Half) :
    Keeps s (t.put (cardBase k + cdIntakeNumber) (halfBytes x)) :=
  putCard_keeps h k cdIntakeNumber _ (by simp [cdIntakeNumber, halfBytes])

theorem endCard_keeps (h : Keeps s t) (k : CardId) (b : Byte) (x : ErrorCode) (y : Bool) : Keeps s (t.endCard k b x y) := by
  unfold State.endCard
  repeat' first
    | with_reducible assumption | intro _ | with_reducible apply finishCard_keeps
    | with_reducible apply putCard1_keeps | (dsimp only) | split | decide

theorem endBlank_keeps (h : Keeps s t) (k : CardId) (b : Byte) (x : ErrorCode) : Keeps s (t.endBlank k b x) := by
  unfold State.endBlank
  repeat' first
    | with_reducible assumption | intro _ | with_reducible apply blankCard_keeps
    | with_reducible apply endCard_keeps | (dsimp only) | split

theorem cancelPending_keeps (h : Keeps s t) (k : CardId) : Keeps s (t.cancelPending k) := by
  unfold State.cancelPending
  repeat' first
    | with_reducible assumption | intro _ | with_reducible apply setWaiting_keeps
    | with_reducible apply finishCard_keeps | (dsimp only) | split

theorem failEntry_keeps (h : Keeps s t) (x : ErrorCode) (y : Entry) : Keeps s (t.failEntry x y) := by
  unfold State.failEntry
  repeat' first
    | with_reducible assumption | intro _ | with_reducible apply setWaiting_keeps
    | with_reducible apply endCard_keeps | (dsimp only) | split

theorem takeNotice_keeps (h : Keeps s t) (m : Notice) : Keeps s (t.takeNotice m) := by
  unfold State.takeNotice
  repeat' first
    | with_reducible assumption | intro _ | with_reducible apply failEntry_keeps
    | with_reducible apply forAll_keeps | (dsimp only) | split

theorem requestSweep_keeps (h : Keeps s t) : Keeps s (t.requestSweep) := by
  unfold State.requestSweep
  repeat' first
    | with_reducible assumption | intro _ | with_reducible apply setSweeper_keeps | (dsimp only) | split

theorem endSweep_keeps (h : Keeps s t) : Keeps s (t.endSweep) := by
  unfold State.endSweep
  repeat' first
    | with_reducible assumption | intro _ | with_reducible apply setSweeper_keeps | (dsimp only) | split

theorem nextVisit_keeps (h : Keeps s t) (k : CardId) : Keeps s (t.nextVisit k) := by
  unfold State.nextVisit
  repeat' first
    | with_reducible assumption | intro _ | with_reducible apply setSweeper_keeps
    | with_reducible apply endSweep_keeps | (dsimp only) | split

theorem visitCard_keeps (h : Keeps s t) (k : CardId) : Keeps s (t.visitCard k) := by
  unfold State.visitCard
  repeat' first
    | with_reducible assumption | intro _ | with_reducible apply setSweeper_keeps
    | with_reducible apply endBlank_keeps | with_reducible apply nextVisit_keeps | (dsimp only) | split

theorem endStray_keeps (h : Keeps s t) (k : CardId) : Keeps s (t.endStray k) := by
  unfold State.endStray
  repeat' first
    | with_reducible assumption | intro _ | with_reducible apply endBlank_keeps
    | with_reducible apply nextVisit_keeps | (dsimp only) | split

theorem intakeClearFault_keeps (h : Keeps s t) (k : CardId) (n : StationId) : Keeps s (t.intakeClearFault k n) := by
  unfold State.intakeClearFault
  repeat' first
    | with_reducible assumption | intro _ | with_reducible apply clearFault_keeps
    | with_reducible apply endBlank_keeps | (dsimp only) | split

theorem forgetSlots_keeps (h : Keeps s t) (n : StationId) : Keeps s (t.forgetSlots n) := by
  unfold State.forgetSlots
  repeat' first
    | with_reducible assumption | intro _ | with_reducible apply writeSlot_keeps
    | with_reducible apply stationEvent_keeps | with_reducible apply forAll_keeps | (dsimp only) | split

theorem intakeForget_keeps (h : Keeps s t) (k : CardId) (n : StationId) : Keeps s (t.intakeForget k n) := by
  unfold State.intakeForget
  repeat' first
    | with_reducible assumption | intro _ | with_reducible apply endBlank_keeps
    | with_reducible apply forgetSlots_keeps | (dsimp only) | split

theorem takeCard_keeps (h : Keeps s t) (k : CardId) (x : Header) (n : StationId) : Keeps s (t.takeCard k x n) := by
  unfold State.takeCard
  repeat' first
    | with_reducible assumption | intro _ | with_reducible apply setSweeper_keeps
    | with_reducible apply setWaiting_keeps | with_reducible apply allocate_keeps
    | with_reducible apply blankCard_keeps | with_reducible apply putIntakeNumber_keeps
    | with_reducible apply putCardStatus_keeps | (dsimp only) | split | decide

theorem intakeCard_keeps (h : Keeps s t) (k : CardId) : Keeps s (t.intakeCard k) := by
  unfold State.intakeCard
  repeat' first
    | with_reducible assumption | intro _ | with_reducible apply endBlank_keeps
    | with_reducible apply intakeClearFault_keeps | with_reducible apply intakeForget_keeps
    | with_reducible apply takeCard_keeps | (dsimp only) | split

theorem intakeVisit_keeps (h : Keeps s t) (k : CardId) (l : List Byte) : Keeps s (t.intakeVisit k l) := by
  unfold State.intakeVisit
  repeat' first
    | with_reducible assumption | intro _ | with_reducible apply nextVisit_keeps
    | with_reducible apply intakeCard_keeps | (dsimp only) | split

theorem expireSweepTimer_keeps (h : Keeps s t) (p : Half) : Keeps s (t.expireSweepTimer p) := by
  unfold State.expireSweepTimer
  repeat' first
    | with_reducible assumption | intro _ | with_reducible apply setSweeper_keeps
    | with_reducible apply requestSweep_keeps | (dsimp only) | split

theorem noticePeriod_keeps (h : Keeps s t) : Keeps s (t.noticePeriod) := by
  unfold State.noticePeriod
  repeat' first
    | with_reducible assumption | intro _ | with_reducible apply setSweeper_keeps | (dsimp only) | split

/-! ## Enable, disable, resets (01) -/

theorem putConfigFault_keeps (h : Keeps s t) (b : Byte) : Keeps s (t.put msConfigFault [b]) := by
  refine putStatus_keeps h msConfigFault [b] ?_ ?_ <;> simp [msConfigFault]

theorem resumeEngine_keeps (h : Keeps s t) (e : EngineId) : Keeps s (t.resumeEngine e) := by
  unfold State.resumeEngine
  repeat' first
    | with_reducible assumption | intro _ | with_reducible apply setQuestion_keeps
    | with_reducible apply setPhase_keeps | with_reducible apply beginSettling_keeps
    | with_reducible apply beginScoring_keeps | with_reducible apply judgeQuestion_keeps
    | with_reducible apply askQuestion_keeps | with_reducible apply beginLookup_keeps | (dsimp only) | split

theorem rejectConfiguration_keeps (h : Keeps s t) (b : Byte) : Keeps s (t.rejectConfiguration b) := by
  unfold State.rejectConfiguration
  repeat' first
    | with_reducible assumption | intro _ | with_reducible apply raise_keeps
    | with_reducible apply putConfigFault_keeps | (dsimp only) | split

theorem acceptConfiguration_keeps (h : Keeps s t) (x : Snapshot) : Keeps s (t.acceptConfiguration x) := by
  unfold State.acceptConfiguration
  repeat' first
    | with_reducible assumption | intro _ | with_reducible apply setRegs_keeps
    | with_reducible apply setSweeper_keeps | with_reducible apply setTracker_keeps
    | with_reducible apply restartTracker_keeps | with_reducible apply activateSupervisor_keeps
    | with_reducible apply allocate_keeps | with_reducible apply resumeEngine_keeps
    | with_reducible apply putConfigFault_keeps | with_reducible apply forAll_keeps | (dsimp only) | split

theorem enablePart_keeps (h : Keeps s t) : Keeps s (t.enablePart) := by
  unfold State.enablePart
  repeat' first
    | with_reducible assumption | intro _ | with_reducible apply rejectConfiguration_keeps
    | with_reducible apply acceptConfiguration_keeps | (dsimp only) | split

theorem holdEngine_keeps (h : Keeps s t) (e : EngineId) : Keeps s (t.holdEngine e) := by
  unfold State.holdEngine
  repeat' first
    | with_reducible assumption | intro _ | with_reducible apply setQuestion_keeps
    | with_reducible apply setPhase_keeps | (dsimp only) | split

theorem disablePart_keeps (h : Keeps s t) : Keeps s (t.disablePart) := by
  unfold State.disablePart
  repeat' first
    | with_reducible assumption | intro _ | with_reducible apply setRegs_keeps
    | with_reducible apply setSweeper_keeps | with_reducible apply holdEngine_keeps
    | with_reducible apply forAll_keeps | (dsimp only) | split

theorem resetRecord_keeps (h : Keeps s t) (n : StationId) : Keeps s (t.resetRecord n) := by
  unfold State.resetRecord
  refine forAll_keeps _ (fun p u hu => ?_) _ ?_
  · refine putSlot_keeps (putSlot_keeps (putSlot_keeps hu n p 0 [0] ?_) n p 2 _ ?_) n p 8 _ ?_ <;> simp
  · refine putStation_keeps h n stState _ ?_ ?_ <;> simp [stState]

theorem resetStatusRecord_keeps (h : Keeps s t) : Keeps s t.resetStatusRecord := by
  refine putStatus_keeps h msAngle _ ?_ ?_ <;> simp [msAngle]

theorem recoverCard_keeps (h : Keeps s t) (k : CardId) : Keeps s (t.recoverCard k) := by
  unfold State.recoverCard
  repeat' first
    | with_reducible assumption | intro _ | with_reducible apply raiseIf_keeps
    | with_reducible apply blankCard_keeps | with_reducible apply putCard1_keeps
    | with_reducible apply putCardStatus_keeps | (dsimp only) | split | decide

theorem recover_keeps (h : Keeps s t) : Keeps s (t.recover) := by
  unfold State.recover
  repeat' first
    | with_reducible assumption | intro _ | with_reducible apply recoverCard_keeps
    | with_reducible apply forAll_keeps | (dsimp only) | split

theorem finishReset_keeps (h : Keeps s t) : Keeps s (t.finishReset) := by
  unfold State.finishReset
  repeat' first
    | with_reducible assumption | intro _ | with_reducible apply resetBlocks_keeps
    | with_reducible apply resetRecord_keeps | with_reducible apply resetStatusRecord_keeps
    | with_reducible apply recover_keeps | with_reducible apply forAll_keeps | (dsimp only) | split

theorem beginReset_keeps (h : Keeps s t) : Keeps s t.beginReset := h

theorem countFree_keeps (h : Keeps s t) (x : Bool) : Keeps s (t.countFree x) := by
  unfold State.countFree
  split <;> exact h

theorem assertReset_keeps (h : Keeps s t) (x : Nat) : Keeps s (t.assertReset x) := by
  unfold State.assertReset
  repeat' first
    | with_reducible assumption | intro _ | with_reducible apply setPins_keeps
    | with_reducible apply beginReset_keeps | with_reducible apply countFree_keeps | (dsimp only) | split

theorem releaseReset_keeps (h : Keeps s t) : Keeps s (t.releaseReset) := by
  unfold State.releaseReset
  repeat' first
    | with_reducible assumption | intro _ | with_reducible apply finishReset_keeps
    | with_reducible apply setPins_keeps | (dsimp only) | split

/-! ## Port, but for the bytes of a memory write (01) -/

theorem startTransaction_keeps (h : Keeps s t) : Keeps s (t.startTransaction) := by
  unfold State.startTransaction
  repeat' first
    | with_reducible assumption | intro _ | with_reducible apply setPort_keeps
    | with_reducible apply setPins_keeps | (dsimp only) | split

theorem softReset_keeps (h : Keeps s t) : Keeps s (t.softReset) := by
  unfold State.softReset
  repeat' first
    | with_reducible assumption | intro _ | with_reducible apply setPort_keeps
    | with_reducible apply finishReset_keeps | (dsimp only) | split

theorem writeRunControl_keeps (h : Keeps s t) (v : Half) : Keeps s (t.writeRunControl v) := by
  unfold State.writeRunControl
  repeat' first
    | with_reducible assumption | intro _ | with_reducible apply requestSweep_keeps
    | with_reducible apply enablePart_keeps | with_reducible apply disablePart_keeps
    | with_reducible apply softReset_keeps | (dsimp only) | split

theorem clearAttention_keeps (h : Keeps s t) (v : Half) : Keeps s (t.clearAttention v) := by
  unfold State.clearAttention
  repeat' first
    | with_reducible assumption | intro _ | with_reducible apply setRegs_keeps | (dsimp only) | split

theorem writeMask_keeps (h : Keeps s t) (v : Half) : Keeps s (t.writeMask v) := by
  unfold State.writeMask
  repeat' first
    | with_reducible assumption | intro _ | with_reducible apply setRegs_keeps | (dsimp only) | split

theorem writeRegister_keeps (h : Keeps s t) (i : Byte) (v : Half) : Keeps s (t.writeRegister i v) := by
  unfold State.writeRegister
  repeat' first
    | with_reducible assumption | intro _ | with_reducible apply writeRunControl_keeps
    | with_reducible apply clearAttention_keeps | with_reducible apply writeMask_keeps | (dsimp only) | split

theorem commandByte_keeps (h : Keeps s t) (b : Byte) : Keeps s (t.commandByte b) := by
  unfold State.commandByte
  repeat' first
    | with_reducible assumption | intro _ | with_reducible apply setPort_keeps | (dsimp only) | split

theorem fetchRead_keeps (h : Keeps s t) (a : Address) : Keeps s (t.fetchRead a) := by
  unfold State.fetchRead
  repeat' first
    | with_reducible assumption | intro _ | with_reducible apply setPort_keeps | (dsimp only) | split

theorem memoryReadByte_keeps (h : Keeps s t) (c : Nat) (b : Byte) : Keeps s (t.memoryReadByte c b) := by
  unfold State.memoryReadByte
  repeat' first
    | with_reducible assumption | intro _ | with_reducible apply setPort_keeps
    | with_reducible apply fetchRead_keeps | (dsimp only) | split

theorem fetchRegister_keeps (h : Keeps s t) (i : Byte) : Keeps s (t.fetchRegister i) := by
  unfold State.fetchRegister
  repeat' first
    | with_reducible assumption | intro _ | with_reducible apply setPort_keeps | (dsimp only) | split

theorem registerReadByte_keeps (h : Keeps s t) (c : Nat) (b : Byte) : Keeps s (t.registerReadByte c b) := by
  unfold State.registerReadByte
  repeat' first
    | with_reducible assumption | intro _ | with_reducible apply setPort_keeps
    | with_reducible apply fetchRegister_keeps | (dsimp only) | split

theorem registerWriteByte_keeps (h : Keeps s t) (c : Nat) (b : Byte) : Keeps s (t.registerWriteByte c b) := by
  unfold State.registerWriteByte
  repeat' first
    | with_reducible assumption | intro _ | with_reducible apply setPort_keeps
    | with_reducible apply writeRegister_keeps | (dsimp only) | split

/-- A byte of any transaction but a memory write. -/
theorem portByte_keeps (h : Keeps s t) (b : Byte) (hk : t.port.command ≠ some .memoryWrite) :
    Keeps s (t.portByte b) := by
  unfold State.portByte
  repeat' first
    | with_reducible assumption | exact absurd ‹_› hk | intro _ | with_reducible apply setPort_keeps
    | with_reducible apply commandByte_keeps | with_reducible apply memoryReadByte_keeps
    | with_reducible apply registerReadByte_keeps | with_reducible apply registerWriteByte_keeps
    | (dsimp only) | split

theorem passCancel_keeps (h : Keeps s t) (k : CardId) : Keeps s (t.passCancel k) := by
  unfold State.passCancel
  repeat' first
    | with_reducible assumption | intro _ | with_reducible apply modEngine_keeps
    | with_reducible apply cancelPending_keeps | (dsimp only) | split

theorem takeShelfFixed_keeps (h : Keeps s t) : Keeps s (t.takeShelfFixed) := by
  unfold State.takeShelfFixed
  repeat' first
    | with_reducible assumption | intro _ | with_reducible apply setRegs_keeps
    | with_reducible apply setCache_keeps | with_reducible apply modEngine_keeps
    | with_reducible apply forAll_keeps | (dsimp only) | split

theorem endTransaction_keeps (h : Keeps s t) : Keeps s (t.endTransaction) := by
  unfold State.endTransaction
  repeat' first
    | with_reducible assumption | intro _ | with_reducible apply setPort_keeps
    | with_reducible apply modEngine_keeps | with_reducible apply setupNotice_keeps
    | with_reducible apply noticePeriod_keeps | with_reducible apply passCancel_keeps
    | with_reducible apply takeShelfFixed_keeps | with_reducible apply forAll_keeps | (dsimp only) | split

theorem releaseSelect_keeps (h : Keeps s t) : Keeps s (t.releaseSelect) := by
  unfold State.releaseSelect
  repeat' first
    | with_reducible assumption | intro _ | with_reducible apply setPort_keeps
    | with_reducible apply setPins_keeps | with_reducible apply endTransaction_keeps | (dsimp only) | split

/-! ## Frames, rounds, writing (07, 06, 10) -/

theorem endLevel_keeps (h : Keeps s t) (e : EngineId) : Keeps s (t.endLevel e) := by
  unfold State.endLevel
  repeat' first
    | with_reducible assumption | intro _ | with_reducible apply modEngine_keeps
    | with_reducible apply stopNow_keeps | (dsimp only) | split

theorem setEchoLevel_keeps (h : Keeps s t) (e : EngineId) (b : Bool) : Keeps s (t.setEchoLevel e b) := by
  unfold State.setEchoLevel
  repeat' first
    | with_reducible assumption | intro _ | with_reducible apply sampleEcho_keeps | (dsimp only) | split

theorem answerEdge_keeps (h : Keeps s t) (e : EngineId) (b : Bool) (f : Option Frame) : Keeps s (t.answerEdge e b f) := by
  unfold State.answerEdge
  repeat' first
    | with_reducible assumption | intro _ | with_reducible apply modEngine_keeps
    | with_reducible apply setEchoLevel_keeps | (dsimp only) | split

theorem goodFrame_keeps (h : Keeps s t) (e : EngineId) (r : List Byte) : Keeps s (t.goodFrame e r) := by
  unfold State.goodFrame
  repeat' first
    | with_reducible assumption | intro _ | with_reducible apply modEngine_keeps
    | with_reducible apply toWriting_keeps | with_reducible apply toLookup_keeps | (dsimp only) | split

theorem failedFrame_keeps (h : Keeps s t) (e : EngineId) (c : FrameCause) : Keeps s (t.failedFrame e c) := by
  unfold State.failedFrame
  repeat' first
    | with_reducible assumption | intro _ | with_reducible apply modEngine_keeps
    | with_reducible apply addFlag_keeps | with_reducible apply setVerdict_keeps
    | with_reducible apply toWriting_keeps | with_reducible apply toGating_keeps | (dsimp only) | split

theorem endTail_keeps (h : Keeps s t) (e : EngineId) : Keeps s (t.endTail e) := by
  unfold State.endTail
  repeat' first
    | with_reducible assumption | intro _ | with_reducible apply modEngine_keeps
    | with_reducible apply closeWatch_keeps | with_reducible apply goodFrame_keeps
    | with_reducible apply failedFrame_keeps | (dsimp only) | split

theorem endPulse_keeps (h : Keeps s t) (e : EngineId) : Keeps s (t.endPulse e) := by
  unfold State.endPulse
  repeat' first
    | with_reducible assumption | intro _ | with_reducible apply modEngine_keeps
    | with_reducible apply stopNow_keeps | (dsimp only) | split

theorem setOverloadHold_keeps (h : Keeps s t) (x : Levels) : Keeps s (t.setOverloadHold x) := h

theorem tripDriver_keeps (h : Keeps s t) (n : StationId) : Keeps s (t.tripDriver n) := by
  unfold State.tripDriver
  repeat' first
    | with_reducible assumption | intro _ | with_reducible apply setOverloadHold_keeps | (dsimp only) | split

theorem releaseDriver_keeps (h : Keeps s t) (n : StationId) : Keeps s (t.releaseDriver n) := by
  unfold State.releaseDriver
  repeat' first
    | with_reducible assumption | intro _ | with_reducible apply setOverloadHold_keeps | (dsimp only) | split

theorem windowEdge_keeps (h : Keeps s t) (e : EngineId) (x : Nat) (b : Bool) (f : Engine → Bool) (c : Capture → Nat → Capture) : Keeps s (t.windowEdge e x b f c) := by
  unfold State.windowEdge
  repeat' first
    | with_reducible assumption | intro _ | with_reducible apply modEngine_keeps | (dsimp only) | split

theorem setRefLevel_keeps (h : Keeps s t) (e : EngineId) (b : Bool) : Keeps s (t.setRefLevel e b) := by
  unfold State.setRefLevel
  repeat' first
    | with_reducible assumption | intro _ | with_reducible apply setPins_keeps | (dsimp only) | split

theorem closeWindow_keeps (h : Keeps s t) (e : EngineId) (n : Nat) : Keeps s (t.closeWindow e n) := by
  unfold State.closeWindow
  repeat' first
    | with_reducible assumption | intro _ | with_reducible apply modEngine_keeps
    | with_reducible apply closeWatch_keeps | with_reducible apply toSettling_keeps
    | with_reducible apply toScoring_keeps | (dsimp only) | split

theorem expireGate_keeps (h : Keeps s t) (e : EngineId) (w : Work) : Keeps s (t.expireGate e w) := by
  unfold State.expireGate
  repeat' first
    | with_reducible assumption | intro _ | with_reducible apply modEngine_keeps
    | with_reducible apply withdrawQuestion_keeps | with_reducible apply addFlag_keeps
    | with_reducible apply setVerdict_keeps | with_reducible apply toWriting_keeps
    | with_reducible apply toScoring_keeps | (dsimp only) | split

theorem tagBytes_length (g : Engine) : g.tagBytes.length = 14 := by simp [Engine.tagBytes]

theorem intervalBytes_length (g : Engine) : g.intervalBytes.length = 16 := by
  have h : ∀ l : List Nat, (l.flatMap fun c => halfBytes (BitVec.ofNat 16 c)).length = 2 * l.length := by
    intro l
    induction l with
    | nil => rfl
    | cons c l ih => simp [List.flatMap_cons, halfBytes] at *; omega
  unfold Engine.intervalBytes
  rw [h]
  simp

theorem writeResult_keeps (h : Keeps s t) (k : CardId) (g : Engine) : Keeps s (t.writeResult k g) := by
  refine putCard_keeps (putCard_keeps (putCard_keeps h k cdVerdict _ ?_) k cdProfileIndex _ ?_) k cdTagRecord _ ?_ <;>
    simp [cdVerdict, cdProfileIndex, cdTagRecord, halfBytes, tagBytes_length, intervalBytes_length]

theorem resetOnSerial_keeps (h : Keeps s t) (n : StationId) (p : SlotId) (d : Parcel) : Keeps s (t.resetOnSerial n p d) := by
  unfold State.resetOnSerial
  repeat' first
    | with_reducible assumption | intro _ | with_reducible apply resetSlot_keeps | (dsimp only) | split

theorem acceptDelivery_keeps (h : Keeps s t) (n : StationId) (x : Byte) (d : Parcel) : Keeps s (t.acceptDelivery n x d) := by
  unfold State.acceptDelivery
  repeat' first
    | with_reducible assumption | intro _ | with_reducible apply writeSlot_keeps
    | with_reducible apply refreshHeldPermit_keeps | with_reducible apply stationEvent_keeps
    | with_reducible apply resetOnSerial_keeps | (dsimp only) | split

theorem deliver_keeps (h : Keeps s t) (e : EngineId) (n : StationId) (d : Parcel) : Keeps s (t.deliver e n d) := by
  unfold State.deliver
  repeat' first
    | with_reducible assumption | intro _ | with_reducible apply modEngine_keeps
    | with_reducible apply acceptDelivery_keeps | (dsimp only) | split

theorem endOnEngine_keeps (h : Keeps s t) (e : EngineId) (j : Job) : Keeps s (t.endOnEngine e j) := by
  unfold State.endOnEngine
  repeat' first
    | with_reducible assumption | intro _ | with_reducible apply release_keeps
    | with_reducible apply endCard_keeps | (dsimp only) | split

theorem writeStopped_keeps (h : Keeps s t) (k : CardId) (g : Engine) (x : ErrorCode) : Keeps s (t.writeStopped k g x) := by
  refine putCard_keeps (putCard_keeps (putCard_keeps h k cdError _ ?_) k cdProfileIndex _ ?_) k cdTagRecord _ ?_ <;>
    simp [cdError, cdProfileIndex, cdTagRecord, halfBytes, tagBytes_length]

theorem endStopped_keeps (h : Keeps s t) (e : EngineId) (j : Job) : Keeps s (t.endStopped e j) := by
  unfold State.endStopped
  repeat' first
    | with_reducible assumption | intro _ | with_reducible apply release_keeps
    | with_reducible apply finishCard_keeps | with_reducible apply writeStopped_keeps | (dsimp only) | split

theorem stopReaches_keeps (h : Keeps s t) (e : EngineId) (x : Stop) : Keeps s (t.stopReaches e x) := by
  unfold State.stopReaches
  repeat' first
    | with_reducible assumption | intro _ | with_reducible apply modEngine_keeps
    | with_reducible apply takeStop_keeps | (dsimp only) | split

end Sys2Proof.Machine
end

