-- ==== Sys2Proof/Laws/Stages.lean ====
section
/-! SUPPORT. What the shared operations of a capture stage, a sampler, a synchroniser, an overload hold and a waiting re-read
can do. -/

namespace Sys2Proof.Machine

/-- A compared edge has left the merge latch (06 R114). -/
@[simp] theorem Capture.compare_latch (c : Capture) : c.compare.latch = none := by
  unfold Capture.compare
  split
  · assumption
  · dsimp only
    generalize (match c.last with | some l => _ | none => false) = merged
    split_ifs <;> rfl

/-- An echo edge leaves an empty merge latch empty (06 R114). -/
theorem Capture.echo_latch (c : Capture) (t : Nat) (h : c.latch = none) : (c.echo t).latch = none := by
  unfold Capture.echo
  split <;> simp [h]

/-- An edge near the last captured one changes nothing; another is captured, or sets the overrun mark where eight are
captured (06 R113 to R115). -/
theorem Capture.echo_cases (c : Capture) (t : Nat) (h : c.latch = none) :
    c.echo t = c ∨ (3 ≤ t ∧ c.list.length < 8 ∧ c.echo t = { c with list := c.list ++ [t], last := some t }) ∨
      (3 ≤ t ∧ 8 ≤ c.list.length ∧ c.echo t = { c with overrun := true }) := by
  by_cases early : t < 3
  · simp [Capture.echo, early]
  · obtain ⟨running, counter, weff, window, latch, list, last, overrun, reference, disturbed⟩ := c
    subst h
    simp only [Capture.echo, early, Capture.compare, ite_false]
    split_ifs with merged room
    · exact .inl rfl
    · exact .inr (.inl ⟨by omega, room, rfl⟩)
    · exact .inr (.inr ⟨by omega, by omega, rfl⟩)

/-- A command of the present tick finds the sampler as it is (06 R108). -/
theorem Engine.resample_same (g : Engine) (echo ref : Bool) (h : g.rising = false) :
    g.resample false echo ref = g := by simp [Engine.resample, h]

/-- A command of the window's present tick finds counter and sampler as they are (06 R108). -/
theorem Engine.reach_same (g : Engine) (t : Nat) (echo ref : Bool) (h : g.rising = false)
    (present : t ≤ g.capture.counter) : g.reach t echo ref = g := by
  have late : decide (g.capture.counter < t) = false := by simp; omega
  simp [Engine.reach, late, Engine.resample_same g echo ref h, Nat.max_eq_left present]

/-- A level shorter than 15 ns is not taken (11 R196). -/
theorem State.takesTransition_short (s : State) (before level : Bool) (stood : Nat) (h : stood < 15) :
    s.takesTransition before level stood = false := by
  simp [State.takesTransition, show ¬15 ≤ stood by omega]

/-- A level of 20 ns or more is taken if it differs from the level taken last (11 R196). -/
theorem State.takesTransition_long (s : State) (before level : Bool) (stood : Nat) (h : 20 ≤ stood) :
    s.takesTransition before level stood = (before != level) := by
  simp [State.takesTransition, h, show 15 ≤ stood by omega]

/-- A level that is the one taken last is no transition. -/
theorem State.takesTransition_same (s : State) (level : Bool) (stood : Nat) :
    s.takesTransition level level stood = false := by
  simp [State.takesTransition]

/-- The synchroniser changes only its pin and the counter of the free values. -/
theorem State.synchronise_eq (s : State) (taken : Bool) (stood : Nat) (keep : Pins → Pins) :
    s.synchronise taken stood keep = { s with
      pins := if taken then keep s.pins else s.pins
      freeReads := s.freeReads + if 15 ≤ stood ∧ stood < 20 then 1 else 0 } := by
  unfold State.synchronise State.countFree
  by_cases unsure : 15 ≤ stood ∧ stood < 20 <;> cases taken <;> simp [unsure, State.setPins]

/-- A released driver changes only the overload holds (06 R121). -/
theorem State.releaseDriver_cases (s : State) (n : StationId) :
    s.releaseDriver n = s ∨ ((s.driver n).isNone ∧ ∃ h, s.releaseDriver n = s.setOverloadHold h) := by
  unfold State.releaseDriver
  split_ifs with low
  · exact .inr ⟨low, _, rfl⟩
  · exact .inl rfl

/-- A cancel is on its way to an engine when one for its card stands among its stops (05 R99). -/
theorem Engine.cancelOnItsWay_iff (g : Engine) :
    g.cancelOnItsWay = true ↔ ∃ j, g.job = some j ∧ Stop.cancel j.card ∈ g.stops := by
  unfold Engine.cancelOnItsWay
  split <;> simp_all

/-- A transaction end leaves an engine as it is, or makes due a re-read that waited with no cancel on its way (08 R148). -/
theorem Engine.afterTransaction_cases (g : Engine) :
    g.afterTransaction = g ∧ (g.lookup.reread ≠ .waiting ∨ g.cancelOnItsWay = true) ∨
      g.afterTransaction = { g with lookup := { g.lookup with reread := .due } } ∧
        g.lookup.reread = .waiting ∧ g.cancelOnItsWay = false := by
  unfold Engine.afterTransaction
  by_cases waits : g.lookup.reread = .waiting <;> cases cancel : g.cancelOnItsWay <;> simp [waits]

/-- A re-read that waits while a cancel is on its way waits on (08 R148). -/
theorem Engine.afterTransaction_cancelled (g : Engine) (h : g.cancelOnItsWay = true) : g.afterTransaction = g := by
  simp [Engine.afterTransaction, h]

end Sys2Proof.Machine
end

