-- ==== Sys2Proof/WellFormed.lean ====
section
/-! DEFINITION. Which commands are well formed: every number but the tick counts of an answer is bounded by its type;
the counts are bounded by the longest bit cell, 8000 ticks (07 Table 7-1, R129 to R131). A command that is not well
formed names an event no line can give; exec leaves the state as it is then. -/

namespace Sys2Proof

/-- The longest bit cell in ticks (07 R125). -/
def longestCell : Nat := 8000

/-- A rise comes before listen tick 16C, or before the gap counter reaches 4C (07 R129, R131). -/
def riseCounterOk (counter : Nat) : Bool := counter < 16 * longestCell

/-- A high level that is a bit lasts at least one tick and less than 4C (07 R130). -/
def answerWidthOk (width : Nat) : Bool := 1 ≤ width && width < 4 * longestCell

/-- The well-formed commands. -/
def Instr.wellFormed : Instr → Bool
  | .answerBitRise _ counter => riseCounterOk counter
  | .answerBitFall _ width => answerWidthOk width
  | .answerComplete _ width => answerWidthOk width
  | .transactionStart => true
  | .memoryRead _ => true
  | .memoryWrite _ => true
  | .registerRead _ => true
  | .voidTransaction _ => true
  | .enable _ _ => true
  | .disable _ => true
  | .sweep _ => true
  | .softReset _ => true
  | .attentionClear _ => true
  | .attentionMaskWrite _ => true
  | .registerWriteIgnored _ => true
  | .transactionEnd _ => true
  | .pinResetAssert _ => true
  | .pinResetEnd => true
  | .powerOnReset => true
  | .sweepTimerExpiry => true
  | .cardVisit => true
  | .cardIntake _ => true
  | .presenceSample _ => true
  | .fit _ => true
  | .removal _ => true
  | .pendingListNotice => true
  | .faultReport _ => true
  | .recheckExpiry _ _ => true
  | .mclkEdge _ _ _ => true
  | .midxEdge _ _ _ => true
  | .stopTimeout _ => true
  | .gateLimitExpiry _ => true
  | .pulseFall _ => true
  | .echoEdge _ _ => true
  | .referenceEdge _ _ => true
  | .windowClose _ => true
  | .settleEnd _ _ => true
  | .noAnswer _ => true
  | .codingError _ => true
  | .truncated _ => true
  | .tailEnd _ _ => true
  | .shelfRead _ _ => true
  | .profileReread _ _ => true
  | .scoringPassEnd _ => true
  | .resultBurst _ => true
  | .delivery _ => true
  | .terminalBurst _ _ => true
  | .stopEvent _ _ => true
  | .stopTerminalBurst _ _ => true
  | .stimOverload _ => true
  | .frameLevelEnd _ => true

end Sys2Proof
end

