-- ==== Sys2Proof/Tests/Slice0.lean ====
section
/-! SUPPORT. Tests: ill-formed commands are refused; a concrete state for the hypotheses of every statement, at the bounds
of each clause, with what the manual gives there. A name that begins witness_ names its statement. -/

namespace Sys2Proof.Tests

open Sys2Proof Sys2Proof.Machine

/- One theorem at a time: kernel evaluations that wait for one another each hold a thread. -/
set_option Elab.async false

/-! ## Helpers -/

/-- A next state of which p holds. -/
def ok (o : Host.Outcome State Fault Refusal) (p : State → Bool) : Bool :=
  match o with
  | .next t => p t
  | _ => false

/-- The snapshot of the worked sequences of chapter 4: PPC 2048, rising edges. -/
def snap0 : Snapshot :=
  { ppc := 2048, mclkFalling := false, midxFalling := false, stopTimeout := 20, quietWhenStopped := true,
    presenceFilter := 20, bitCell := .us10, gateLimit := 50, nref := #v[2000, 2000, 0, 0] }

/-- ENABLE reads 1. -/
def on : State := { State.reset with regs := { Registers.reset with enable := true, snapshot := some snap0 } }

/-- ENABLE reads 0, CONFIGURED 1. -/
def off : State := { State.reset with regs := { Registers.reset with enable := false, snapshot := some snap0 } }

/-- CS is low and a transaction of this kind has this many complete bytes. -/
def inTransfer (s : State) (k : Option Transaction) (count : Nat) : State :=
  { s with pins := { s.pins with csLow := true }, port := { Port.reset with taking := true, command := k, count := count } }

/-- The high byte of a write of a register is next. -/
def inWrite (s : State) (index low : Byte) : State :=
  let t := inTransfer s (some .registerWrite) 3
  { t with port := { t.port with regIndex := index, lowByte := low } }

/-- A transaction of this kind stands at this address, its data next. -/
def atAddress (s : State) (k : Transaction) (a : Address) : State :=
  let t := inTransfer s (some k) 3
  { t with port := { t.port with pointer := a } }

/-- Engine e is busy with card k of station n in a phase. -/
def busy (s : State) (e : EngineId) (k : CardId) (n : StationId) (p : Phase) : State :=
  ((s.modEngine e fun g =>
    { g with job := some { card := k, station := n }, phase := p,
             header := { Header.reset with kind := 0x02, tagAddress := 5 } }).setHold n (some e)).setPoint e (some n)

/-- Station n is enabled, AUTO, with one roster entry of address 5 and whole-cycle arcs. -/
def ready (s : State) (n : StationId) (present : Bool) : State :=
  s.modStation n fun t =>
    { t with present := present,
             setup := { Setup.reset with enabled := true, auto := true, rosterCount := 1, roster := #v[5, 0, 0, 0] } }

/-- Card k holds this header. -/
def card (s : State) (k : CardId) (status cancel kind priority station tag flags : Byte) : State :=
  s.put (cardBase k) [status, cancel, kind, priority, station, tag, 0, flags]

/-- The profile of the worked cases (09 Table 9-6). -/
def prof0 : Profile :=
  { type := 0x0312, variant := 1, valid := 1, n := 3, minValid := 3, defaultRounds := 4, tolMin := 4, width := 600,
    window := 5000, settle := 2000, t0 := 25, alpha := 150, accept := 192, tolPpm := 5000, reject := 1024, dateFrom := 10,
    dateTo := 20, delays := [1200, 2500, 4100, 0, 0, 0, 0, 0] }

/-- The profile's record without its CRC. -/
def recordBody (valid n : Byte) : List Byte :=
  halfBytes 0x0312 ++ [1, valid, n, 3, 4, 4] ++ halfBytes 600 ++ halfBytes 5000 ++ halfBytes 2000 ++ halfBytes 25 ++
  halfBytes 150 ++ halfBytes 192 ++ longBytes 5000 ++ halfBytes 1024 ++ halfBytes 10 ++ halfBytes 20 ++
  halfBytes 1200 ++ halfBytes 2500 ++ halfBytes 4100 ++ List.replicate 26 0

/-- A shelf record: its CRC is right for valid 1 and n 3 or 9. -/
def goodRecord (valid n : Byte) : List Byte := recordBody valid n ++ halfBytes (if n = 3 then 12118 else 60399)

/-- A tag record: type 0x0312, variant 1, address echo 5, serial 40117, lot 88, and a date code, its CRC right. -/
def tagOf (date : Half) : List Byte :=
  let b := halfBytes 0x0312 ++ [1, 5] ++ longBytes 40117 ++ halfBytes 88 ++ halfBytes date
  b ++ halfBytes (crcOf b)

/-- The bits of a tag record as answered. -/
def answerOf (r : List Byte) : List Bool := r.flatMap byteBits

/-! ## Well-formed commands -/

theorem test_riseTooLate : Instr.wellFormed (.answerBitRise 0 128000) = false := by decide
theorem test_riseInTime : Instr.wellFormed (.answerBitRise 0 127999) = true := by decide
theorem test_fallOfNoTick : Instr.wellFormed (.answerBitFall 0 0) = false := by decide
theorem test_fallTooLong : Instr.wellFormed (.answerBitFall 0 32000) = false := by decide
theorem test_completeTooLong : Instr.wellFormed (.answerComplete 0 32000) = false := by decide
theorem test_completeOfNoTick : Instr.wellFormed (.answerComplete 0 0) = false := by decide

/-! ## Step, queue and invariants -/

/-- The last tick of a millisecond with a question and a recheck; a pre-check that has passed; a wake, its end due. -/
theorem witness_IdleTickOnlyCounts :
    let ms : State := { (busy (ready on 2 true) 1 3 2 (.gating .frame)).setQuestion 1
      (some { timer := 7, suspended := false }) with msTicks := 199999, sweeper := { Sweeper.reset with timer := .counting 5 1 } }
    let wake := fun (up : Bool) (level : Nat) => (busy on 1 3 2 .reading).modEngine 1 fun g =>
      { g with rising := up, frame := { Frame.start 2000 5 with level := level } }
    State.reset.pending = [] ∧ State.reset.inReset = false ∧ State.reset.dueNow = [] ∧
      ({ State.reset with pins := { Pins.reset with resetLow := true } } : State).inReset = true ∧
      ok (step ms) (fun t => t.msTicks = 0 ∧ t.pending = [.presenceSample 0xFFF, .sweepTimerExpiry] ∧
        t.question 1 = some { timer := 8, suspended := false } ∧ t.sweeper.timer = .counting 5 0) ∧
      ok (step (wake true 0)) (fun t => (t.engine 1).frame.level = 0 ∧ t.stim 2) ∧
      ok (step (wake false 15999)) (fun t => t.pending = [.frameLevelEnd 1]) ∧
      ok (step (wake false 16000)) (fun t => (t.engine 1).frame.level = 16000 ∧ t.msTicks = 0 ∧
        t.pending = [.frameLevelEnd 1]) := by
  decide +kernel

theorem witness_StepKeepsMemoryForm :
    Memory.wf State.reset.mem = true ∧ ok (step State.reset) (fun t => t.msTicks = 1) := by decide +kernel

theorem witness_OnlyTheControllerWritesItsBytes :
    let s := atAddress State.reset .memoryWrite 0x0000
    Memory.wf s.mem = true ∧ partOwns 0 = false ∧
      ok (step { s with pending := [.memoryWrite 0x10] }) (fun t => t.byte 0 ≠ s.byte 0) ∧
      Memory.wf (s.put 0 [1]).mem = true ∧
      ok (step { s.put 0 [1] with pending := [.powerOnReset] }) (fun t => t.byte 0 ≠ (s.put 0 [1]).byte 0) := by
  decide +kernel

theorem witness_StepKeepsTheAngleInRange : State.reset.angleInRange ∧
    (∃ t, step { State.reset with pending := [.transactionStart] } = .next t) ∧
    ({ on with tracker := { Tracker.reset with valid := true, angle := 2047 } } : State).angleInRange := by
  refine ⟨⟨?_, ?_, ?_⟩, ⟨_, rfl⟩, ⟨?_, ?_, ?_⟩⟩ <;> simp [State.reset, Registers.reset, Tracker.reset, on, snap0]

theorem witness_StepKeepsHoldsAndPointsAgreeing :
    State.reset.holdsAgree ∧ (busy on 0 3 2 (.gating .frame)).holdsAgree ∧
    (∃ t, step { busy on 0 3 2 (.gating .frame) with pending := [.disable 0xB2] } = .next t) := by
  refine ⟨?_, ?_, ⟨_, rfl⟩⟩ <;> (unfold State.holdsAgree; decide +kernel)

theorem witness_RegistersChangeOnlyByTheirCommands :
    ok (exec (.attentionMaskWrite 0) (inWrite on 3 0x1F)) (fun t => t.regs.mask ≠ on.regs.mask) ∧
      ok (exec (.disable 0) (inWrite on 1 0)) (fun t => t.regs.enable ≠ on.regs.enable) ∧
      (let s := inTransfer (on.put 8 [1]) (some .memoryWrite) 4
       ok (exec (.transactionEnd 0) { s with port := { s.port with shelfNote := true } })
        (fun t => t.regs.shelfFixed ≠ on.regs.shelfFixed)) := by decide +kernel

/-! ## Port -/

theorem witness_TransactionStartsAndLatchesItsCommand :
    State.reset.inReset = false ∧ State.reset.pins.csLow = false ∧
      ok (exec .transactionStart State.reset) (fun t => t.port.shiftOut = 0x00 ∧ t.port.taking) ∧
      (let s := inTransfer State.reset none 0
       s.inReset = false ∧ s.pins.csLow = true ∧ s.port.taking = true ∧ s.port.command = none ∧
        (0xA3 : Byte) ∉ [0xA1, 0xA2, 0xB1, 0xB2] ∧
        ok (exec (.voidTransaction 0xA3) s) (fun t => t.port.shiftOut = 0xF0 ∧ t.port.command = some .void)) := by
  decide +kernel

theorem witness_MemoryReadByte :
    (∀ c ∈ [1, 2, 3], (inTransfer on (some .memoryRead) c).takes .memoryRead) ∧
      ok (exec (.memoryRead 0xC5) (inTransfer on (some .memoryRead) 2))
        (fun t => t.port.pointer = 0x0501 ∧ t.port.shiftOut = 0) ∧
      ok (exec (.memoryRead 0) (atAddress (on.put 0x3FFF [0x5A]) .memoryRead 0x3FFF))
        (fun t => t.port.pointer = 0 ∧ t.port.shiftOut = 0x5A) := by
  simp only [State.takes]; decide +kernel

theorem witness_RegisterReads :
    (∀ c ∈ [1, 2, 3], (inTransfer on (some .registerRead) c).takes .registerRead) ∧
      ok (exec (.registerRead 0) (inTransfer on (some .registerRead) 1)) (fun t => t.port.shiftOut = 0x41) ∧
      ok (exec (.registerRead 1) (inTransfer on (some .registerRead) 1)) (fun t => t.port.pairValue = 0x0201) ∧
      (let s := inTransfer on (some .registerRead) 3
       ok (exec (.registerRead 0) { s with port := { s.port with regIndex := 255 } })
        (fun t => t.port.regIndex = 0 ∧ t.port.pairValue = 0x7C41)) ∧
      (let s := (on.put 0x218 [1]).put 0x618 [1]
       s.byte (stationBase 2 + 0x18) = 1 ∧ (∀ m : StationId, m < 2 → s.byte (stationBase m + 0x18) ≠ 1) ∧
        s.registerValue 2 = 0x2000) ∧
      (∀ n : StationId, on.byte (stationBase n + 0x18) ≠ 1) ∧ on.registerValue 5 = 0 := by
  simp only [State.takes]; decide +kernel

theorem witness_IgnoredBytesChangeNothing :
    (inTransfer on (some .void) 1).takes .void ∧
      (let s := inTransfer on none 0
       let d : State := { s with port := { Port.reset with discarding := true, shifted := 7 } }
       d.inReset = false ∧ d.pins.csLow = true ∧ d.port.taking = false ∧ d.port.discarding = true ∧
        ok (exec (.memoryWrite 1) d) (fun t => t.port.shifted = 0)) := by
  simp only [State.takes]; decide +kernel

/-- The bounds of the notes: sweep period, shelf-fixed field, last setup byte, a cancel byte, a card's last byte. -/
theorem witness_MemoryWriteByte :
    (∀ c ∈ [1, 2, 3], (inTransfer on (some .memoryWrite) c).takes .memoryWrite) ∧ Memory.wf on.mem = true ∧
      (let w := fun (a : Address) => exec (.memoryWrite 1) (atAddress on .memoryWrite a)
       on.accepts 0x0006 1 = true ∧ on.accepts 0x0005 1 = false ∧
        ok (w 0x0006) (fun t => t.port.periodNote && t.byte 6 = 1) ∧ ok (w 0x0005) (fun t => t.byte 5 = 0) ∧
        ok (w 0x0008) (fun t => t.port.shelfNote) ∧ ok (w 0x010B) (fun t => t.port.setupNotes[0]) ∧
        ok (w 0x010C) (fun t => !t.port.setupNotes[0]) ∧ ok (w 0x0801) (fun t => t.port.cancelNotes[0]) ∧
        ok (w 0x0FFF) (fun t => t.port.touched[31] && !t.port.touched[30])) := by
  simp only [State.takes]; decide +kernel

theorem witness_RefusedByteIsRecordedOnce :
    let s := atAddress on .memoryWrite 0x0080
    let r : State := { s with regs := { s.regs with causes := 0b00100, refusedAt := 0x0123 } }
    s.takes .memoryWrite ∧ s.port.count = 3 ∧ s.accepts s.port.pointer 1 = false ∧
      ok (exec (.memoryWrite 1) s) (fun t => t.regs.refusedAt = 0x0080 ∧ t.regs.causes = 0b00100) ∧
      r.accepts r.port.pointer 1 = false ∧ ok (exec (.memoryWrite 1) r) (fun t => t.regs.refusedAt = 0x0123) ∧
      ok (exec .powerOnReset r) (fun t => t.regs.refusedAt ≠ r.regs.refusedAt) := by
  simp only [State.takes]; decide +kernel

/-- Both ends of every range of addresses. -/
theorem witness_OwnershipRules :
    (([0x0000, 0x0005, 0x0009, 0x007F, 0x0080, 0x009F, 0x0110, 0x0117, 0x0120, 0x0126, 0x016F] : List Address).all
      fun a => !on.accepts a 1) = true ∧
    (([0x0006, 0x0007, 0x0008, 0x00A0, 0x00FF, 0x0100, 0x010B, 0x010C, 0x010F, 0x0119, 0x011F, 0x0121, 0x0127,
      0x0170, 0x017F, 0x0700, 0x07FF, 0x0800, 0x0FFF, 0x1000, 0x1FFF, 0x2000, 0x3FFF] : List Address).all
      fun a => on.accepts a 1) = true ∧
    off.accepts 0x0000 1 = true ∧ on.accepts 0x0118 0 = true ∧ on.accepts 0x0118 1 = false ∧
    (let h := on.setHold 0 (some 2)
     h.held 0 = true ∧ h.accepts 0x0100 1 = false ∧ h.accepts 0x010B 1 = false ∧ h.accepts 0x0180 1 = true) ∧
    (let r := on.put 0x0840 [0x03]
     r.cardStatus 1 = 0x03 ∧ r.accepts 0x0840 0 = false ∧ r.accepts 0x0841 1 = true ∧ r.accepts 0x087F 1 = false ∧
      r.accepts 0x0880 1 = true) ∧
    (let f : State := { on with regs := { on.regs with shelfFixed := true } }
     f.accepts 0x1000 1 = false ∧ f.accepts 0x1FFF 1 = false ∧ f.accepts 0x2000 1 = true) := by decide +kernel

theorem witness_RegisterWritesAreTakenInPairs :
    (∀ c ∈ [1, 2], (inTransfer on (some .registerWrite) c).takes .registerWrite) ∧
      (∀ i : Fin 2, let x : Byte := if i = 0 then 4 else 255
        x ∉ ([1, 2, 3] : List Byte) ∧ (inWrite on x 0xFF).writing x ∧
        ok (exec (.registerWriteIgnored 0xFF) (inWrite on x 0xFF)) (fun t => t.regs = on.regs)) ∧
      ok (exec (.sweep 3) (let s := inTransfer on (some .registerWrite) 2
        { s with port := { s.port with regIndex := 1 } })) (fun t => t.port.lowByte = 3 ∧ t.sweeper = on.sweeper) := by
  simp only [State.takes, State.writing]; decide +kernel

/-- Causes 0 and 4 are set; cause 4 is cleared, cause 0 kept; the mask reads its five bits. -/
theorem witness_AttentionAndMaskWrites :
    let s : State := { on with regs := { on.regs with causes := 0b10001 } }
    (inWrite s 2 0x10).writing 2 ∧ (inWrite s 3 0xFF).writing 3 ∧
      ok (exec (.attentionClear 0) (inWrite s 2 0x10)) (fun t => t.regs.causes = 0b00001) ∧
      ok (exec (.attentionMaskWrite 0xFF) (inWrite s 3 0xFF))
        (fun t => t.registerValue 3 = 0x001F ∧ t.attn) := by
  simp only [State.takes, State.writing]; decide +kernel

/-! ## Run control -/

/-- PPC 15 and select 3 reject, PPC 16 and select 2 do not; with both the first field is named. -/
theorem witness_EnableRejectsBadConfiguration :
    let bad := inWrite (State.reset.put 0 [15]) 1 0x03
    let sel := inWrite ((State.reset.put 0 [16]).put 0x0A [3]) 1 0x01
    bad.writing 1 ∧ sel.writing 1 ∧ Memory.wf bad.mem = true ∧ Memory.wf sel.mem = true ∧ bad.regs.enable = false ∧
      bad.port.lowByte.getLsbD 0 = true ∧ bad.port.lowByte.getLsbD 2 = false ∧ (bad.half 0).toNat = 15 ∧
      (sel.half 0).toNat = 16 ∧ (sel.byte 0x0A).toNat = 3 ∧
      ok (exec (.enable 0 0) bad) (fun t => t.byte 0x85 = 0x00 ∧ t.regs.causes = 0b01000 ∧ t.sweeper.visit = none) ∧
      ok (exec (.enable 0 0) sel) (fun t => t.byte 0x85 = 0x0A ∧ !t.regs.enable) := by
  simp only [State.takes, State.writing]; decide +kernel

/-- PPC 16, select 2, period 0xFFFF taken as 60000, stop timeout, presence filter and gate limit 0 taken as 1. -/
theorem witness_EnableTakesTheSnapshotOf :
    let s := inWrite (((State.reset.put 0 [16]).put 0x0A [2]).put 6 [0xFF, 0xFF]) 1 0x03
    let again := inWrite (off.put 0 [0x00, 0x08]) 1 0x01
    s.writing 1 ∧ s.port.lowByte.getLsbD 0 = true ∧ s.port.lowByte.getLsbD 1 = true ∧
      s.port.lowByte.getLsbD 2 = false ∧ s.regs.enable = false ∧ (s.half 0).toNat = 16 ∧ (s.byte 0x0A).toNat = 2 ∧
      s.sweeper.visit = none ∧
      ok (exec (.enable 0 0) s) (fun t => t.sweeper.timer = .counting 60000 60000 ∧
        t.sweeper.visit = some (.header 0) ∧
        t.regs.snapshot.map (fun x => (x.stopTimeout, x.presenceFilter, x.gateLimit, x.bitCell)) =
          some (1, 1, 1, .us40)) ∧
      again.writing 1 ∧ Memory.wf again.mem = true ∧ again.port.lowByte.getLsbD 0 = true ∧
      again.port.lowByte.getLsbD 1 = false ∧ again.port.lowByte.getLsbD 2 = false ∧ again.regs.enable = false ∧
      again.regs.snapshot = some snap0 ∧ snap0.ppc = again.half 0 ∧ again.waiting = [] ∧
      (∀ e, again.question e = none) ∧ ok (exec (.enable 0 0) again) (fun t => t.regs.enable) := by
  simp only [State.takes, State.writing]; decide +kernel

/-- A PPC of 16 after 2048: engine 1 held with its question suspended, engine 2 reading under a watch; then engine 1
held in each other step. -/
theorem witness_EnableTakesTheSnapshotOf_again :
    let w : Watch := { station := 3, ground := .arc, arcStart := 5, arcEnd := 9, disturbed := false }
    let arc := (ready off 2 true).modStation 2 fun t => { t with setup := { t.setup with arcStart := 5, arcEnd := 9 } }
    let b := ((((busy (busy arc 1 3 2 (.held (.gating .frame))) 2 4 3 .reading).setQuestion 1
      (some { timer := 35, suspended := true })).setWatch 2 (some w)).put 0 [16, 0]).put 0x10 [44, 1]
    let at_ := fun p : NextStep => (inWrite b 1 1).modEngine 1 fun g =>
      { g with phase := .held p, tagRecord := some (tagOf 15), settle := 3 }
    let run := fun (p : NextStep) (f : State → Bool) => ok (exec (.enable 0 0) (at_ p)) f
    let s := at_ (.gating .frame)
    s.writing 1 ∧ Memory.wf s.mem = true ∧ s.regs.snapshot = some snap0 ∧ snap0.ppc ≠ s.half 0 ∧ s.waiting = [] ∧
      s.question 1 = some { timer := 35, suspended := true } ∧ (∀ e, e ≠ 1 → s.question e = none) ∧
      s.watch 1 = none ∧ s.watch 2 = some w ∧ (s.engine 1).job = some { card := 3, station := 2 } ∧
      (s.engine 1).stopAtHoldBegin = false ∧
      ok (exec (.enable 0 0) s) (fun t => (t.engine 1).phase = .gating .frame ∧
        t.question 1 = some { timer := 35, suspended := false } ∧ (t.engine 2).frame.disturbed ∧
        t.watch 2 = some { w with disturbed := true } ∧ !t.tracker.valid) ∧
      run (.gating .round) (fun t => (t.engine 1).phase = .gating .round) ∧
      run .settling (fun t => (t.engine 1).phase = .settling ∧ (t.engine 1).settle = 0) ∧
      run (.computing .lookup) (fun t => (t.engine 1).phase = .computing .lookup) ∧
      run (.computing .scoring) (fun t => (t.engine 1).phase = .computing .scoring ∧ (t.engine 1).nref = 300) ∧
      run .writing (fun t => (t.engine 1).phase = .writing .result) := by
  simp only [State.takes, State.writing]; decide +kernel

theorem witness_FirstEnableActivatesTheStations :
    let s := inWrite ((State.reset.put 0 [16]).put 0x180 [1]) 1 0x01
    Memory.wf s.mem = true ∧ s.writing 1 ∧ s.port.lowByte.getLsbD 0 = true ∧ s.port.lowByte.getLsbD 2 = false ∧
      s.regs.enable = false ∧ 16 ≤ (s.half 0).toNat ∧ (s.byte 0x0A).toNat ≤ 2 ∧ s.regs.snapshot = none ∧
      s.waiting = [] ∧ (∀ e, (s.engine e).phase = .idle) ∧ (∀ n, s.station n = Station.reset) ∧
      (∀ n, s.holder n = none) ∧ (∀ e, s.watch e = none) ∧
      ok (exec (.enable 0 0) s) (fun t => t.byte 0x110 = 0x00 ∧ t.byte 0x190 = 0x01 ∧ t.byte 0x198 = 1) := by
  simp only [State.takes, State.writing]; decide +kernel

theorem witness_RunControlWhileEnabledActs :
    let g := busy on 1 3 2 (.gating .frame)
    let q := g.setQuestion 1 (some { timer := 7, suspended := false })
    (∀ low ∈ ([1, 3] : List Byte), (inWrite on 1 low).writing 1) ∧
      (inWrite on 1 3).port.lowByte.getLsbD 1 = true ∧ on.regs.enable = true ∧ on.sweeper.visit = none ∧
      ok (exec (.sweep 0) (inWrite on 1 3)) (fun t => t.sweeper.visit = some (.header 0)) ∧
      (inWrite q 1 0).writing 1 ∧ (inWrite q 1 0).port.lowByte.getLsbD 0 = false ∧
      (q.engine 1).phase = .gating .frame ∧ (q.engine 0).phase = .idle ∧
      ok (exec (.disable 0) (inWrite q 1 0)) (fun t =>
        (t.engine 1).phase = .held (.gating .frame) ∧ t.question 1 = some { timer := 7, suspended := true }) ∧
      (let v : State := { on with sweeper := { on.sweeper with visit := some (.intake 4 []) } }
       ok (exec (.disable 0) (inWrite v 1 0)) (fun t => t.sweeper.ending ∧ t.sweeper.visit = v.sweeper.visit)) ∧
      (let v : State := { on with sweeper := { on.sweeper with visit := some (.stray 4) } }
       ok (exec (.disable 0) (inWrite v 1 0)) (fun t => t.sweeper.ending ∧ t.sweeper.visit = some (.stray 4))) := by
  simp only [State.takes, State.writing]; decide +kernel

/-! ## Resets -/

/-- 99 ns and 1 µs (11 R196); then what no reset but the pins' own commands can change. -/
theorem witness_PinResetStopsTheEngines :
    let s := busy (ready on 2 true) 1 3 2 .pulsing
    s.pins.resetLow = false ∧ s.stim 2 = true ∧ ok (exec (.pinResetAssert 99) s) (· = s) ∧
      ok (exec (.pinResetAssert 1000) s) (fun t => t.inReset ∧ !t.stim 2 ∧ t.mem = s.mem) ∧
      s.raisePowerOn.inReset = true ∧ s.raisePowerOn.pins.resetLow = false ∧ s.raisePowerOn.stim 2 = false ∧
      ok (exec .transactionStart s.raisePowerOn) (fun t => t.pins.csLow ∧ !t.port.taking ∧ !t.misoDriven) ∧
      ok (exec (.stopTimeout 0) s.raisePowerOn) (· = s.raisePowerOn) ∧
      ok (exec (.mclkEdge true 0 14) s.raisePowerOn) (· = s.raisePowerOn) ∧
      ok (exec (.mclkEdge true 0 20) s.raisePowerOn) (fun t => t.pins.mclk ∧ t.tracker = s.tracker) := by
  decide +kernel

/-- Card 31 is RUNNING with NOTIFY, card 0 POSTED; ATTENTION_MASK is kept (01 Table 1-7, 02 R43). -/
theorem witness_ResetEndsWithResetValues :
    let c := (card (card on 31 3 0 2 0 2 5 2) 0 1 0 2 0 2 5 0).put 0x08 [1]
    let s : State := { c with pins := { c.pins with resetLow := true }, regs := { c.regs with mask := 0b10101 } }
    let w := inWrite on 1 0x05
    Memory.wf s.mem = true ∧ s.pins.resetLow = true ∧ s.pins.por = false ∧ s.losesNotified ∧
      (let p : State := { s with pins := { s.pins with por := true } }
       p.pins.resetLow = true ∧ p.pins.por = true ∧
        ok (exec .pinResetEnd p) (fun t => t.inReset ∧ t.cardStatus 31 = 0x03)) ∧
      ok (exec .pinResetEnd s) (fun t => t.cardStatus 31 = 0x05 ∧ t.byte (cardBase 31 + 0x10) = 0x0F ∧
        t.cardStatus 0 = 0x01 ∧ t.regs.mask = 0b10101 ∧ t.regs.shelfFixed ∧ t.regs.causes = 0b00001) ∧
      Memory.wf w.mem = true ∧ w.writing 1 ∧ w.port.lowByte.getLsbD 2 = true ∧ ¬w.losesNotified ∧
      ok (exec (.softReset 0) w) (fun t => t.port.discarding ∧ t.regs.causes = 0) := by
  simp only [State.takes, State.writing, State.losesNotified]; decide +kernel

/-- The end of a power-on reset that lasted is the state that every run starts with (01 R21). -/
theorem test_powerOnReset :
    ok (exec .powerOnReset (inWrite (on.put 0x2000 [1]) 1 0)) (fun t =>
      t.byte 0x2000 = 0 ∧ t.byte 0x85 = 0xFF ∧ t.byte 0x692 = 0xFF ∧ t.registerValue 2 = 0xF000) ∧
    ok (exec .powerOnReset on.raisePowerOn) (· = State.reset) := by decide +kernel

/-! ## Transaction end -/

/-- Card 4 TAKEN on the list, RUNNING on engine 2, and DONE; engine 2 waits with a re-read, engine 3 too with card 9: that of
engine 2 waits on, and the cancel stops it (08 R148). -/
theorem witness_CancelAtTransactionEnd :
    let at_ := fun s : State =>
      let t := inTransfer s (some .memoryWrite) 4
      ({ t with port := { t.port with cancelNotes := (Vector.replicate 32 false).set 4 true } } : State)
    let taken := at_ { card on 4 2 1 2 0 2 5 2 with waiting := [{ card := 4, priority := 0, station := 2 }] }
    let running := at_ (busy (card on 4 3 1 2 0 2 5 0) 2 4 2 .settling)
    let done := at_ (card on 4 4 1 2 0 2 5 0)
    let waits := fun (x : State) (e : EngineId) => x.modEngine e fun g =>
      { g with lookup := { g.lookup with reread := .waiting } }
    let lookup := at_ (waits (waits (busy (busy (card on 4 3 1 2 0 2 5 0) 2 4 2 (.computing .lookup)) 3 9 5
      (.computing .lookup)) 2) 3)
    (∀ s ∈ [taken, running, done, lookup], Memory.wf s.mem = true ∧ s.inReset = false ∧ s.pins.csLow = true ∧
      s.port.taking = true ∧ s.port.cancelNotes = (Vector.replicate 32 false).set 4 true ∧
      s.port.setupNotes = Vector.replicate 12 false ∧ s.port.shelfNote = false ∧ s.port.periodNote = false) ∧
    lookup.cardStatus 4 = 0x03 ∧ (lookup.engine 2).lookup.reread = .waiting ∧
    ok (exec (.transactionEnd 0) lookup) (fun t => (t.engine 2).lookup.reread = .waiting ∧
      (t.engine 3).lookup.reread = .due ∧ ok (exec (.profileReread 2 0) t) (· = t) ∧
      ok (exec (.stopEvent 2 (.cancel 4)) t) (fun u => (u.engine 2).phase = .writing .stopped ∧
        (u.engine 2).lookup.reread = .none)) ∧
    taken.cardStatus 4 = 0x02 ∧ (∃ x ∈ taken.waiting, x.card = 4) ∧ running.cardStatus 4 = 0x03 ∧
    (running.engine 2).job.map (·.card) = some 4 ∧ done.cardStatus 4 = 0x04 ∧
    ok (exec (.transactionEnd 0) taken) (fun t => t.cardStatus 4 = 0x06 ∧ t.waiting = [] ∧ t.regs.causes = 1) ∧
    ok (exec (.transactionEnd 0) running) (fun t => (t.engine 2).stops = [.cancel 4]) := by decide +kernel

/-- The field goes from set to clear with a filled cache; the period field is 60001 with an OFF timer; a re-read waits. -/
theorem witness_ShelfAndPeriodAtTransactionEnd :
    let b : State := { on.put 6 [0x61, 0xEA] with
      regs := { on.regs with shelfFixed := true }
      cache := Cache.reset.offer { index := 6, type := 1, variant := 1, copy := [] } }
    let t := inTransfer b (some .memoryWrite) 4
    let p : State := { t with port := { t.port with shelfNote := true, periodNote := true } }
    let s := p.modEngine 3 fun g => { g with lookup := { g.lookup with reread := .waiting, fixedThroughout := true } }
    s.inReset = false ∧ s.pins.csLow = true ∧ s.port.taking = true ∧
      s.port.cancelNotes = Vector.replicate 32 false ∧ s.port.setupNotes = Vector.replicate 12 false ∧
      s.half 6 = 60001 ∧ s.sweeper.timer = .off ∧ s.cache ≠ Cache.reset ∧
      ok (exec (.transactionEnd 0) s) (fun u => u.cache = Cache.reset ∧ !u.regs.shelfFixed ∧
        u.sweeper.timer = .counting 60000 60000 ∧ (u.engine 3).lookup.reread = .due ∧
        !(u.engine 3).lookup.fixedThroughout) := by decide +kernel

/-- Station 11 with a new roster, not held and held; disabled with a fault, held; a new policy; new arcs, held by an engine
that asks. -/
theorem witness_SetupAtTransactionEnd :
    let b := (ready on 11 true).put (stationBase 11) [1, 1, 1, 9, 5, 6, 7, 0x48]
    let t := inTransfer b (some .memoryWrite) 4
    let s : State := { t with port := { t.port with setupNotes := (Vector.replicate 12 false).set 11 true } }
    let h := s.setHold 11 (some 0)
    let same := fun x : State => x.put (stationBase 11) [1, 0, 1, 1, 5, 0, 0, 0]
    let off_ := ((busy (same s) 0 3 11 .settling).put (stationBase 11) [0]).modStation 11 fun t => { t with fault := true }
    let advise := (same s).put (stationBase 11 + 1) [1]
    let arcs := (((busy (same s) 0 3 11 (.gating .frame)).modStation 11 fun t =>
      { t with setup := { t.setup with arcEnd := 9 } }).setQuestion 0 (some { timer := 7, suspended := false }))
    (∀ x ∈ [s, off_, advise, arcs], Memory.wf x.mem = true ∧ x.inReset = false ∧ x.pins.csLow = true ∧
      x.port.taking = true ∧ x.port.cancelNotes = Vector.replicate 32 false ∧
      x.port.setupNotes = (Vector.replicate 12 false).set 11 true ∧ x.port.shelfNote = false ∧
      x.port.periodNote = false ∧ x.regs.snapshot = some snap0 ∧
      ∀ e, x.holder 11 = some e → (x.engine e).job.map (·.station) = some 11) ∧
    s.held 11 = false ∧ h.held 11 = true ∧ off_.held 11 = true ∧ arcs.held 11 = true ∧
    ok (exec (.transactionEnd 0) off_) (fun u => (u.engine 0).stops = [.disable 11] ∧ !(u.station 11).present ∧
      (u.station 11).lossMark = some .stationOff ∧ (u.station 11).fault ∧ u.byte 0x690 = 0x00) ∧
    ok (exec (.transactionEnd 0) advise) (fun u => (u.station 11).permit ∧ u.byte 0x690 = 0x00) ∧
    ok (exec (.transactionEnd 0) arcs) (fun u => (u.engine 0).phase = .reading ∧ u.question 0 = none) ∧
    ok (exec (.transactionEnd 0) s) (fun u =>
      (u.station 11).setup.rosterCount = 4 ∧ (u.station 11).setup.roster = #v[5, 6, 7, 8] ∧
      u.notices = [{ station := 11, event := .rosterChanged }]) ∧
    ok (exec (.transactionEnd 0) h) (fun u => (u.station 11).deferred ∧ (u.station 11).setup.rosterCount = 1) := by
  decide +kernel

/-! ## Card Sweeper, intake and Pending List -/

/-- A sweep stands at the intake of card k, its header just read. -/
def atIntake (s : State) (k : CardId) : State :=
  { s with sweeper := { s.sweeper with visit := some (.intake k (s.headerBytes k)) } }

/-- The header read of card k is due. -/
def atHeader (s : State) (k : CardId) : State :=
  { s with sweeper := { s.sweeper with visit := some (.header k) } }

/-- The timer; card 31 POSTED, RUNNING and held by no engine, TAKEN on the list, EMPTY, and touched. -/
theorem witness_SweepTimerAndVisits :
    let tm : State := { on.put 6 [0x60, 0xEA] with sweeper := { on.sweeper with timer := .counting 5 0 } }
    let posted := atHeader (card on 31 1 0 2 0 2 5 0) 31
    let stray := atHeader (card on 31 3 0 2 0 2 5 2) 31
    let taken := atHeader { card on 31 2 0 2 0 2 5 0 with waiting := [{ card := 31, priority := 0, station := 2 }] } 31
    let touched : State := { posted with port := { posted.port with touched := (Vector.replicate 32 false).set 31 true } }
    tm.inReset = false ∧ tm.sweeper.timer = .counting 5 0 ∧ tm.half 6 = 60000 ∧
    ok (exec .sweepTimerExpiry tm) (fun t => t.sweeper.visit = some (.header 0) ∧
      t.sweeper.timer = .counting 60000 60000) ∧
    (∀ s ∈ [posted, stray, taken, touched], Memory.wf s.mem = true ∧ s.inReset = false ∧
      s.sweeper.visit = some (.header 31)) ∧
    touched.port.touched[31] = true ∧ posted.port.touched[31] = false ∧ posted.cardStatus 31 = 0x01 ∧
    stray.cardStatus 31 = 0x03 ∧ (∀ e, (stray.engine e).job.map (·.card) ≠ some 31) ∧
    taken.cardStatus 31 = 0x02 ∧ (∃ x ∈ taken.waiting, x.card = 31) ∧
    ok (exec .cardVisit posted) (fun t => t.sweeper.visit = some (.intake 31 (posted.headerBytes 31))) ∧
    ok (exec .cardVisit stray) (fun t => t.cardStatus 31 = 0x03 ∧ t.sweeper.visit = some (.stray 31)) ∧
    (let second : State := { stray with sweeper := { stray.sweeper with visit := some (.stray 31) } }
     second.inReset = false ∧ Memory.wf second.mem = true ∧
      ok (exec .cardVisit second) (fun t => t.cardStatus 31 = 0x05 ∧ t.byte 0xFD0 = 0x0E ∧ t.sweeper.visit = none)) ∧
    ok (exec .cardVisit taken) (fun t => t.mem = taken.mem) := by decide +kernel

/-- Changed header; cancel; then each check of 02 R34 as the first that fails, with stations 11 and 12. -/
theorem witness_IntakeEndsOrLeavesTheCard :
    let b := ready on 11 true
    let base := fun (st : State) (cancel kind station tag : Byte) =>
      atIntake (card st 6 1 cancel kind 0 station tag 2) 6
    let errorOf := fun (s : State) (status code : Byte) => ok (exec (.cardIntake 0) s)
      (fun t => t.cardStatus 6 = status ∧ t.byte (cardBase 6 + 0x10) = code ∧ t.regs.causes = 1 ∧
        t.sweeper.visit = some (.header 7))
    let left := (atIntake (card b 6 1 0 2 0 11 5 2) 6).put (cardBase 6 + 3) [1]
    Memory.wf (base b 0 2 11 5).mem = true ∧ left.bytes (cardBase 6) 14 ≠ (left.put (cardBase 6 + 3) [0]).bytes (cardBase 6) 14 ∧
    ok (exec (.cardIntake 0) left) (fun t => t.cardStatus 6 = 0x01) ∧
    errorOf (base b 1 9 12 5) 0x06 0x00 ∧ errorOf (base b 0 0x12 12 5) 0x05 0x01 ∧ errorOf (base b 0 2 12 5) 0x05 0x02 ∧
    errorOf (base b 0 2 0 5) 0x05 0x03 ∧ errorOf (base b 0 2 11 6) 0x05 0x06 ∧
    errorOf (base (ready on 11 false) 0 2 11 5) 0x05 0x05 ∧
    errorOf (base (b.modStation 11 fun t => { t with fault := true }) 0 2 11 5) 0x05 0x04 ∧
    (b.station 11).setup.enabled = true ∧ (b.station 0).setup.enabled = false := by decide +kernel

/-- Priority 200 is taken as 3; ENABLE reads 0, so the card stays on the list (02 R22, R35, 05 R85). -/
theorem witness_IntakeTakesAValidCard :
    let s := atIntake (card (ready off 11 true) 6 1 0 2 200 11 5 0) 6
    Memory.wf s.mem = true ∧ s.inReset = false ∧ s.sweeper.visit = some (.intake 6 (s.bytes (cardBase 6) 14)) ∧
      s.port.touched[6] = false ∧ s.byte (cardBase 6 + 1) = 0 ∧
      s.byte (cardBase 6 + 2) ∈ ([0x01, 0x02, 0x03] : List Byte) ∧ (s.byte (cardBase 6 + 4)).toNat = (11 : StationId).val ∧
      (s.station 11).setup.enabled = true ∧ (s.station 11).fault = false ∧ (s.station 11).present = true ∧
      (∃ p : SlotId, p.val < (s.station 11).setup.rosterCount.val ∧
        (∀ q : SlotId, q < p → (s.station 11).setup.roster[q.val] ≠ (s.station 11).setup.roster[p.val]) ∧
        (s.station 11).setup.roster[p.val].setWidth 8 = s.byte (cardBase 6 + 5)) ∧ s.regs.enable = false ∧
      ok (exec (.cardIntake 0) s) (fun t => t.cardStatus 6 = 0x02 ∧
        t.waiting = [{ card := 6, priority := 3, station := 11 }] ∧ t.sweeper.counter = 1) := by decide +kernel

theorem witness_IntakeGrantsAtOnce :
    let s := atIntake (card (ready on 11 true) 6 1 0 2 1 11 5 0) 6
    Memory.wf s.mem = true ∧ s.inReset = false ∧ s.sweeper.visit = some (.intake 6 (s.bytes (cardBase 6) 14)) ∧
      s.port.touched[6] = false ∧ s.byte (cardBase 6 + 1) = 0 ∧ (s.byte (cardBase 6 + 4)).toNat = (11 : StationId).val ∧
      (s.station 11).setup.enabled = true ∧ (s.station 11).fault = false ∧ (s.station 11).present = true ∧
      s.regs.enable = true ∧ s.regs.snapshot = some snap0 ∧ s.waiting = [] ∧ s.holder 11 = none ∧
      (∀ e, s.point e ≠ some 11) ∧ (s.engine 0).job = none ∧
      (s.station 11).setup.arcStart = (s.station 11).setup.arcEnd ∧
      (∃ p : SlotId, p.val < (s.station 11).setup.rosterCount.val ∧
        (∀ q : SlotId, q < p → (s.station 11).setup.roster[q.val] ≠ (s.station 11).setup.roster[p.val]) ∧
        (s.station 11).setup.roster[p.val].setWidth 8 = s.byte (cardBase 6 + 5)) ∧
      ok (exec (.cardIntake 0) s) (fun t => t.cardStatus 6 = 0x03 ∧ t.byte 0x692 = 0 ∧ (t.engine 0).rising ∧ !t.stim 11) ∧
      ok (exec (.cardIntake 0x800) s) (fun t => (t.engine 0).report = some .echoStuck ∧ !t.stim 11) ∧
      ok (exec (.cardIntake 0) (s.modStation 11 fun t => { t with setup := { t.setup with arcEnd := 9 } }))
        (fun t => (t.engine 0).phase = .gating .frame ∧ t.question 0 = some { timer := 0, suspended := false }) := by
  decide +kernel

/-- CLEAR_FAULT and FORGET: held, no fault, ECHO11 high, ECHO11 low (02 R37, R38). -/
theorem witness_IntakeRunsTheFastKinds :
    let b := (ready on 11 true).put (slotBase 11 0) [0x01, 0, 150, 0, 7]
    let f := b.modStation 11 fun t => { t with fault := true, recheck := some 40 }
    let clear := fun s : State => atIntake (card s 6 1 0 0x10 0 11 0 0) 6
    let forget := fun s : State => atIntake (card s 6 1 0 0x11 0 11 0 0) 6
    let endOf := fun (echo : Levels) (s : State) (p : State → Bool) => ok (exec (.cardIntake echo) s) p
    (∀ s ∈ [clear b, clear f, forget b, clear (b.setHold 11 (some 1))], Memory.wf s.mem = true ∧ s.inReset = false ∧
      s.sweeper.visit = some (.intake 6 (s.bytes (cardBase 6) 14)) ∧ s.port.touched[6] = false ∧
      s.byte (cardBase 6 + 1) = 0 ∧ (s.byte (cardBase 6 + 4)).toNat = 11 ∧ (s.station 11).setup.enabled = true) ∧
    endOf 0 (clear (b.setHold 11 (some 1))) (fun t => t.byte (cardBase 6 + 0x10) = 0x07) ∧
    endOf 0 (clear b) (fun t => t.cardStatus 6 = 0x04) ∧
    endOf 0x800 (clear f) (fun t => t.byte (cardBase 6 + 0x10) = 0x08 ∧ (t.station 11).fault) ∧
    endOf 0 (clear f) (fun t => t.cardStatus 6 = 0x04 ∧ !(t.station 11).fault ∧ (t.station 11).recheck = none) ∧
    endOf 0 (forget b) (fun t => t.byte (slotBase 11 0) = 0 ∧ t.half (slotBase 11 0 + 2) = 0 ∧
      t.half (slotBase 11 0 + 4) = 7) := by decide +kernel

/-- Card 15 waits for station 3, card 5 for station 10 (03, A changeover on one station). -/
theorem witness_NoticeEndsPendingCards :
    let s : State := { card (ready on 3 false) 15 2 0 2 0 3 9 2 with
      waiting := [{ card := 15, priority := 0, station := 3 }, { card := 5, priority := 0, station := 10 }]
      notices := [{ station := 3, event := .presenceLost }] }
    let r : State := { s with notices := [{ station := 3, event := .rosterChanged }] }
    Memory.wf s.mem = true ∧ s.inReset = false ∧
      ok (exec .pendingListNotice s) (fun t => t.cardStatus 15 = 0x05 ∧ t.byte (cardBase 15 + 0x10) = 0x09 ∧
        t.waiting = [{ card := 5, priority := 0, station := 10 }] ∧ t.regs.causes = 1) ∧
      ok (exec .pendingListNotice r) (fun t => t.byte (cardBase 15 + 0x10) = 0x06) := by decide +kernel

/-! ## Stations -/

/-- The filter is 20: the twentieth differing sample is due, the nineteenth is not. -/
theorem witness_PresenceSampleCounts :
    let at_ := fun c : Nat => (ready on 11 false).modStation 11 fun t => { t with count := c }
    on.inReset = false ∧ on.regs.snapshot = some snap0 ∧ ((at_ 19).station 11).setup.enabled = true ∧
      (at_ 19 |>.station 0).setup.enabled = false ∧
      ok (exec (.presenceSample 0x7FF) (at_ 18)) (fun t => !(t.station 11).due) ∧
      ok (exec (.presenceSample 0x7FF) (at_ 19)) (fun t => (t.station 11).due) ∧
      ok (exec (.presenceSample 0xFFF) (at_ 19)) (fun t => (t.station 11).count = 0) := by decide +kernel

theorem witness_FitAndRemoval :
    let fit := (ready on 3 false).modStation 3 fun t => { t with due := true, count := 20 }
    let rem := ((State.modStation (busy (ready on 3 true) 1 14 3 .settling) 3 fun t =>
      { t with due := true, permit := true }).put (slotBase 3 0) [1]).put (stationBase 3 + 0x11) [1]
    (∀ s ∈ [fit, rem], Memory.wf s.mem = true ∧ s.inReset = false ∧ s.regs.snapshot ≠ none ∧
      (s.station 3).setup.enabled = true ∧ (s.station 3).due = true) ∧
    (fit.station 3).present = false ∧ (rem.station 3).present = true ∧
    ok (exec (.fit 3) fit) (fun t => t.byte 0x291 = 1 ∧ t.byte 0x290 = 0x04 ∧ t.regs.causes = 0b00010) ∧
    ok (exec (.removal 3) rem) (fun t => t.byte (slotBase 3 0) = 0 ∧ !(t.station 3).permit ∧
      (t.engine 1).stops = [.removal 3] ∧ (t.station 3).lossMark = some .partRemoved) := by decide +kernel

/-- The stuck echo of station 6 (03, A stuck echo in AUTO mode). -/
theorem witness_FaultsAreLatchedAndCleared :
    let b := ((ready on 6 true).put (slotBase 6 0) [1]).put (stationBase 6 + 0x10) [5, 1]
    let r := (busy b 3 9 6 (.writing .stopped)).modEngine 3 fun g => { g with report := some .echoStuck }
    let again := r.modStation 6 fun t => { t with fault := true }
    let f := (b.modStation 6 fun t => { t with fault := true, recheck := some 0 }).put (stationBase 6 + 0x13) [1]
    (∀ s ∈ [r, again, f], Memory.wf s.mem = true ∧ s.inReset = false ∧ s.regs.snapshot ≠ none) ∧
    (r.engine 3).report = some .echoStuck ∧ (r.engine 3).job = some { card := 9, station := 6 } ∧
    (r.station 6).fault = false ∧ (again.station 6).fault = true ∧ (f.station 6).recheck ≠ none ∧
    ok (exec (.faultReport 3) r) (fun t => t.byte (stationBase 6 + 0x10) = 0x02 ∧ t.byte (stationBase 6 + 0x13) = 0x01 ∧
      t.byte (slotBase 6 0) = 0 ∧ (t.station 6).recheck = some 100) ∧
    ok (exec (.recheckExpiry 6 0x040) f) (fun t => (t.station 6).recheck = some 100 ∧ (t.station 6).fault) ∧
    ok (exec (.recheckExpiry 6 0xFBF) f) (fun t => !(t.station 6).fault ∧ t.byte (stationBase 6 + 0x10) = 0x05) := by
  decide +kernel

/-- A GENUINE slot under ENFORCE, and a step that takes the part away (03 Table 3-4). -/
theorem witness_PermitFollowsTheSlots :
    let s := ((ready on 3 true).put (slotBase 3 0) [1]).modStation 3 fun t => { t with permit := true }
    let r : State := { s.modStation 3 fun t => { t with due := true } with pending := [.removal 3] }
    s.permitsFollow ∧ r.permitsFollow ∧ ok (step r) (fun t => !(t.station 3).permit) ∧
      permitOf (s.derived 3 false) false false = true ∧ permitOf ((s.put (slotBase 3 0) [2]).derived 3 false) false false = false := by
  unfold State.permitsFollow; decide +kernel

/-! ## Machine Cycle Tracker -/

/-- A tracker with a valid angle. -/
def atAngle (s : State) (a : Half) (n : Long) : State :=
  { s with tracker := { s.tracker with angle := a, valid := true, cycles := n } }

/-- An index lost (04, An index lost and found): 2046, 2047, then the overrun; levels of 14 and 20 ns, and one that stands
(11 R196). -/
theorem witness_MclkEdgeMovesTheAngle :
    Memory.wf (atAngle on 2046 5000).mem = true ∧ (atAngle on 2046 5000).inReset = false ∧
      on.regs.snapshot = some snap0 ∧ true = !snap0.mclkFalling ∧ false = snap0.mclkFalling ∧
      (∀ e, on.question e = none ∧ on.watch e = none) ∧ on.pins.mclk = false ∧
      ok (exec (.mclkEdge true 0 14) (atAngle on 2046 5000)) (· = atAngle on 2046 5000) ∧
      ok (exec (.mclkEdge false 0 20) (atAngle on 2046 5000)) (· = atAngle on 2046 5000) ∧
      ok (exec (.mclkEdge true 0) (atAngle on 2046 5000)) (fun t => t.half 0x80 = 2047 ∧ t.tracker.cycles = 5000) ∧
      ok (exec (.mclkEdge true 0) (atAngle on 2047 5001)) (fun t =>
        t.half 0x80 = 0 ∧ t.byte 0x82 = 0 ∧ t.long 0x88 = 5002 ∧ t.byte 0x84 = 1 ∧ t.regs.causes = 0b10000) ∧
      ok (exec (.mclkEdge true 0) on) (fun t => t.tracker.angle = 0 ∧ !t.tracker.valid) := by decide +kernel

theorem witness_MidxEdgeChecksTheAngle :
    Memory.wf on.mem = true ∧ on.inReset = false ∧ on.regs.snapshot = some snap0 ∧ true = !snap0.midxFalling ∧
      on.pins.midx = false ∧ ok (exec (.midxEdge true 0 14) on) (· = on) ∧
      ok (exec (.midxEdge true 0) (atAngle on 2047 5000)) (fun t => t.long 0x88 = 5001 ∧ t.byte 0x84 = 0) ∧
      ok (exec (.midxEdge true 0) (atAngle on 2046 5000)) (fun t => t.byte 0x84 = 1 ∧ t.regs.causes = 0b10000) ∧
      ok (exec (.midxEdge true 0) { on with tracker := { on.tracker with cycles := 5002, indexMissed := true } })
        (fun t => t.tracker.valid ∧ t.tracker.cycles = 5003 ∧ t.tracker.indexMissed ∧ t.regs.causes = 0) := by
  decide +kernel

theorem witness_TimersOfTheTracker :
    let q := fun w : Work => (busy on 1 3 2 (.gating w)).setQuestion 1 (some { timer := 50, suspended := false })
    Memory.wf on.mem = true ∧ on.inReset = false ∧ on.regs.snapshot = some snap0 ∧ on.tracker.stopped = false ∧
      ok (exec (.stopTimeout 0) on) (fun t => t.byte 0x83 = 1 ∧ t.regs.causes = 0b10000) ∧
      (∀ w ∈ [Work.frame, Work.round], (q w).regs.enable = true ∧
        (q w).question 1 = some { timer := 50, suspended := false } ∧ ((q w).engine 1).stopAtHoldBegin = false ∧
        ((q w).engine 1).phase = .gating w) ∧
      ok (exec (.gateLimitExpiry 1) (q .frame)) (fun t => (t.engine 1).figures.verdict = .inconclusive) ∧
      ok (exec (.gateLimitExpiry 1) (q .round)) (fun t =>
        (t.engine 1).phase = .computing .scoring ∧ (t.engine 1).nref = 2000) := by decide +kernel

/-- The wrapping arc 1900 to 200: angle 0 is in it, 200 and 1899 are not (04, First cycles after enable). -/
theorem witness_QuestionsAndTheirGrounds :
    let c : Setup := { Setup.reset with arcStart := 1900, arcEnd := 200 }
    let at_ := fun a : Half => (atAngle on a 0).tracker
    let s := ((State.modStation (busy (ready on 2 true) 1 3 2 (.gating .frame)) 2 fun t =>
      { t with setup := c }).setQuestion 1 (some { timer := 35, suspended := false }))
    1 ≤ snap0.ppc.toNat ∧ c.groundOn (at_ 0) snap0 = some .arc ∧ c.groundOn (at_ 199) snap0 = some .arc ∧
      c.groundOn (at_ 200) snap0 = none ∧ c.groundOn (at_ 1899) snap0 = none ∧
      c.groundOn (at_ 1900) snap0 = some .arc ∧
      c.groundOn { at_ 200 with stopped := true } snap0 = some .stopped ∧
      { c with arcEnd := 1900 }.groundOn (at_ 0) snap0 = some .wholeCycle ∧
      s.inReset = false ∧ s.regs.snapshot = some snap0 ∧ (s.engine 1).phase = .gating .frame ∧
      (s.engine 1).job = some { card := 3, station := 2 } ∧ s.question 1 = some { timer := 35, suspended := false } ∧
      (s.engine 1).stopAtHoldBegin = false ∧ s.watch 1 = none ∧ s.pins.mclk = snap0.mclkFalling ∧
      s.pins.midx = snap0.midxFalling ∧
      ok (exec (.midxEdge true 0) s) (fun t => (t.engine 1).phase = .reading ∧
        t.watch 1 = some { station := 2, ground := .arc, arcStart := 1900, arcEnd := 200, disturbed := false }) ∧
      ok (exec (.midxEdge true 0x004) s) (fun t => (t.engine 1).report = some .echoStuck) ∧
      ok (exec (.mclkEdge true 0) s) (fun t => (t.engine 1).phase = .gating .frame) := by decide +kernel

theorem witness_EdgesDisturbTheWatch :
    let w := fun g : Ground =>
      ({ station := 2, ground := g, arcStart := 1900, arcEnd := 200, disturbed := false } : Watch)
    let s := fun (g : Ground) (p : Phase) (a : Half) => (atAngle (busy on 1 3 2 p) a 0).setWatch 1 (some (w g))
    (∀ p ∈ [Phase.reading, Phase.pulsing, Phase.listening], (s .arc p 199).inReset = false ∧
      (s .arc p 199).regs.snapshot = some snap0 ∧ ((s .arc p 199).engine 1).phase = p ∧
      (s .arc p 199).watch 1 = some (w .arc)) ∧ (s .arc .reading 199).pins.mclk = snap0.mclkFalling ∧
    ok (exec (.mclkEdge true 0) (s .arc .reading 199)) (fun t => (t.engine 1).frame.disturbed) ∧
    ok (exec (.mclkEdge true 0) (s .arc .listening 198)) (fun t => !(t.engine 1).capture.disturbed) ∧
    ok (exec (.mclkEdge true 0) (s .stopped .pulsing 198)) (fun t => (t.engine 1).capture.disturbed) := by
  decide +kernel

/-! ## Rounds -/

/-- Engine 1 holds station 4 with card 6 in a phase, with the worked cases' profile. -/
def measuring (p : Phase) (f : Engine → Engine) : State :=
  (busy (ready on 4 true) 1 6 4 p).modEngine 1 fun g => f { g with profile := some prof0, target := some 4 }

/-- A capture stage of the worked round: window 5000, pulse 600. -/
def captured (counter : Nat) (list : List Nat) (ref : Option Nat) : Capture :=
  { Capture.reset with
    running := true, counter := counter, weff := 600, window := 5000, list := list, last := list.getLast?,
    reference := ref }

/-- A pulse; each kind of level of a frame, with and without a stop taken before. -/
theorem witness_HighLevelsEnd :
    let pulse := measuring .pulsing fun g => { g with capture := captured 1 [] none }
    let level := fun p : FramePhase => measuring .reading fun g =>
      { g with frame := { Frame.start 2000 5 with phase := some p } }
    let stopped := fun s : State => s.modEngine 1 fun g => { g with stopOutcome := some .cancelled }
    pulse.inReset = false ∧ (pulse.engine 1).phase = .pulsing ∧ (pulse.engine 1).stopOutcome = none ∧
      ok (exec (.pulseFall 1) pulse) (fun t => (t.engine 1).phase = .listening ∧ !t.stim 4) ∧
      ok (exec (.pulseFall 1) (stopped pulse)) (fun t => (t.engine 1).phase = .writing .stopped) ∧
      (∀ p ∈ [(FramePhase.wakeHigh, FramePhase.wakeLow), (.wakeLow, .command 0 true), (.command 3 true, .command 3 false),
          (.command 0 false, .command 1 true), (.command 6 false, .command 7 true), (.command 7 false, .answerWait)],
        ((level p.1).engine 1).phase = .reading ∧
        ok (exec (.frameLevelEnd 1) (level p.1)) (fun t => (t.engine 1).frame.phase = some p.2)) ∧
      ok (exec (.frameLevelEnd 1) (stopped (level .wakeHigh))) (fun t => (t.engine 1).phase = .writing .stopped) := by
  decide +kernel

/-- Ticks 2 and 3; 3 and 4 after the last captured edge; the eighth and the ninth edge; the last tick of the window; a
transition on a line that reads high, and a fall (06, One round, edge by edge, and A round that overruns). -/
theorem witness_EdgesInTheWindow :
    let at_ := fun (counter : Nat) (l : List Nat) => measuring .listening fun g => { g with capture := captured counter l none }
    let run := fun (tick : Half) (s : State) (p : Capture → Bool) =>
      ok (exec (.echoEdge 1 ⟨tick, true⟩) s) fun t => p (t.engine 1).capture
    let high := fun s : State => ({ s with pins := { s.pins with echo := 0x010 } } : State)
    let seven := [300, 610, 900, 1210, 1500, 1830, 2100]
    (at_ 0 []).inReset = false ∧ ((at_ 0 []).engine 1).stopOutcome = none ∧ ((at_ 0 []).engine 1).capture.running = true ∧
    run 2 (at_ 0 []) (·.list = []) ∧ run 3 (at_ 0 []) (·.list = [3]) ∧
    run 1236 (at_ 1235 [1234]) (·.list = [1234]) ∧ run 1237 (at_ 1235 [1234]) (·.list = [1234]) ∧
    run 1238 (at_ 1235 [1234]) (·.list = [1234, 1238]) ∧
    run 2420 (at_ 2101 seven) (fun c => c.list = seven ++ [2420] && !c.overrun) ∧
    run 4999 (at_ 2421 (seven ++ [2420])) (fun c => c.list = seven ++ [2420] && c.overrun) ∧
    run 5000 (at_ 2421 []) (·.list = []) ∧
    run 1500 (high (at_ 1235 [1234])) (·.list = [1234]) ∧
    ((at_ 0 []).engine 1).capture.latch = none ∧ ((at_ 0 []).engine 1).job = some { card := 6, station := 4 } ∧
    ok (exec (.echoEdge 1 ⟨1500, false⟩) (high (at_ 1235 [1234]))) (fun t => (t.engine 1).capture.list = [1234] ∧
      !t.echoHigh 4 ∧ (t.engine 1).echoBefore) ∧
    ok (exec (.echoEdge 1 ⟨9, true⟩) (measuring .settling id)) (fun t => t.echoHigh 4) ∧
    ok (exec (.referenceEdge 1 ⟨9, true⟩) (measuring .settling id)) (fun t => t.refHigh 1) ∧
    ok (exec (.referenceEdge 1 ⟨2010, true⟩) (at_ 1236 [1234])) (fun t => (t.engine 1).capture.reference = some 2010) ∧
    ok (exec (.referenceEdge 1 ⟨2, true⟩) (at_ 0 [])) (fun t => (t.engine 1).capture.reference = none) := by decide +kernel

/-- The round of the worked sequence; overrun, no reference and count mismatch; the last round and the last attempt. -/
theorem witness_WindowCloseJudgesTheRound :
    let good := captured 4999 [1234, 2566, 4199] (some 2010)
    let at_ := fun (c : Capture) (v a : Nat) => measuring .listening fun g =>
      { g with capture := c, rounds := { Rounds.reset with valid := v, attempts := a } }
    let run := fun (c : Capture) (v a : Nat) (p : Engine → Bool) =>
      ok (exec (.windowClose 1) (at_ c v a)) fun t => p (t.engine 1)
    (at_ good 0 0).inReset = false ∧ ((at_ good 0 0).engine 1).profile = some prof0 ∧
    ((at_ good 0 0).engine 1).target = some 4 ∧ (at_ good 0 0).regs.snapshot = some snap0 ∧
    run good 0 0 (fun g => g.rounds.valid = 1 ∧ g.rounds.attempts = 1 ∧ g.rounds.refSum = 2010 ∧ g.phase = .settling ∧
      g.rounds.positions.map (·.sum) = [1234, 2566, 4199]) ∧
    run { good with disturbed := true, overrun := true } 0 0 (fun g => g.flags = 0x0010 ∧ g.rounds.attempts = 1) ∧
    run { good with overrun := true, reference := none } 0 0 (·.flags = 0x0008) ∧
    run { good with reference := none, list := [] } 0 0 (·.flags = 0x0004) ∧
    run { good with list := [1234, 2566] } 0 0 (·.flags = 0x0002) ∧
    run good 3 3 (fun g => g.ending = some .roundsMet ∧ g.phase = .computing .scoring ∧ g.nref = 2000) ∧
    run { good with list := [] } 2 7 (fun g => g.ending = some .attemptsSpent) := by decide +kernel

theorem witness_SettleEndAsksForTheNextRound :
    let s := measuring .settling id
    let arc := s.modStation 4 fun t => { t with setup := { t.setup with arcStart := 5, arcEnd := 9 } }
    let held : State := { s with regs := { s.regs with enable := false } }
    (∀ x ∈ [s, arc, held], x.inReset = false ∧ (x.engine 1).phase = .settling ∧ (x.engine 1).profile = some prof0 ∧
      (x.engine 1).job = some { card := 6, station := 4 } ∧ (x.engine 1).stopAtHoldBegin = false ∧
      x.regs.snapshot = some snap0 ∧ x.watch 1 = none) ∧
    ok (exec (.settleEnd 1 0) s) (fun t => (t.engine 1).phase = .pulsing ∧ (t.engine 1).capture.weff = 600 ∧
      (t.engine 1).rising ∧ !t.stim 4) ∧
    ok (exec (.settleEnd 1 0x010) s) (fun t => (t.engine 1).report = some .echoStuck) ∧
    ok (exec (.settleEnd 1 0) arc) (fun t => (t.engine 1).phase = .gating .round) ∧
    ok (exec (.settleEnd 1 0) held) (fun t => (t.engine 1).phase = .held (.gating .round)) := by decide +kernel

/-- A settle time of 0 ends in the tick in which SETTLING begins (06 R120). -/
theorem test_noSettle :
    ok (step ((measuring .settling id).modEngine 1 fun g => { g with profile := some { prof0 with settle := 0 } }))
      (fun t => t.pending = [.settleEnd 1 0] ∧ t.msTicks = 0) := by decide +kernel

/-! ## Tag frames -/

/-- The command byte of address 5 (07, One frame, level by level): 0x45, its bits 0 1 0 0 0 1 0 1. -/
theorem test_commandByte :
    (Frame.start 2000 5).commandByte = 0x45 ∧
      ([0, 1, 2, 3, 4, 5, 6, 7].map (Frame.start 2000 5).commandBit) = [false, true, false, false, false, true, false, true] := by
  decide +kernel

/-- Engine 1 listens with the answer's first bits. -/
def answering (p : FramePhase) (f : Frame → Frame) : State :=
  measuring .reading fun g => { g with frame := f { Frame.start 2000 5 with phase := some p } }

/-- The 111 bits before the last of an answer. -/
def almost (r : List Byte) : List Bool := (answerOf r).take 111

/-- The decoder after ticks in which ECHOn reads so, each beside its level in the tick before. -/
def afterTicks (f : Frame) (levels : List (Bool × Bool)) : Frame := levels.foldl (fun g l => g.tick l.1 l.2) f

/-- With a cell of 3 ticks: a bit that is high for five ticks and for six, the tick of the rise the first of them; a gap of
eleven low ticks, the tick of the fall the first of them (07 R130, R131). -/
theorem test_ticksOfABit :
    let rise : Frame := { Frame.start 3 5 with phase := some .answerHigh, width := 1 }
    let high := fun n : Nat => afterTicks rise ((false, true) :: List.replicate (n - 1) (true, true))
    let gap : Frame := { rise with phase := some .answerGap, gap := 1 }
    let low := fun n : Nat => afterTicks gap ((true, false) :: List.replicate (n - 1) (false, false))
    (high 5).width = 5 ∧ ((high 5).fall true 5 5).map (·.answer) = some [false] ∧
      (high 6).width = 6 ∧ ((high 6).fall true 5 6).map (·.answer) = some [true] ∧
      ((high 6).fall true 5 5).isNone ∧ (high 11).due 1 = [] ∧ (high 12).due 1 = [.codingError 1] ∧
      (low 11).due 1 = [] ∧ ((low 11).rise false false 11).map (·.width) = some 1 ∧
      (low 12).due 1 = [.truncated 1] := by decide +kernel

/-- The tail counts the low ticks after the decision, and a high tick starts the count again (07 R135). -/
theorem test_ticksOfTheTail :
    let tail : Frame := { Frame.start 3 5 with phase := some .tail, low := none }
    (afterTicks tail (List.replicate 12 (false, false))).due 1 = [] ∧
      (afterTicks tail (List.replicate 13 (false, false))).due 1 = [.tailEnd 1 0] ∧
      (afterTicks tail (List.replicate 12 (false, false) ++ [(false, true)] ++ List.replicate 11 (false, false))).due 1 =
        [] := by decide +kernel

/-- Counts at their bounds: listen 0 and 31999, gap 1 and 7999, widths 3999, 4000 and 7999. -/
theorem witness_DecoderFollowsTheAnswer :
    let run := fun (c : Instr) (s : State) (p : Frame → Bool) => ok (exec c s) fun t => p (t.engine 1).frame
    let wait := answering .answerWait id
    let gap := answering .answerGap fun f => { f with listen := 8000, gap := 1, answer := [false] }
    let high := answering .answerHigh fun f => { f with width := 1 }
    let last := fun r : List Byte => answering .answerHigh fun f => { f with width := 1, answer := almost r }
    (∀ s ∈ [wait, gap, high], s.inReset = false ∧ (s.engine 1).phase = .reading ∧
      (s.engine 1).job = some { card := 6, station := 4 }) ∧
    run (.noAnswer 1) wait (·.decision = some (.failed .noAnswer)) ∧
    run (.codingError 1) high (·.decision = some (.failed .codingError)) ∧
    run (.truncated 1) gap (·.decision = some (.failed .truncated)) ∧
    run (.answerBitRise 1 0) wait (·.phase = some .answerHigh) ∧
    run (.answerBitRise 1 31999) wait (fun f => f.phase = some .answerHigh ∧ f.listen = 31999) ∧
    run (.answerBitRise 1 32000) wait (·.phase = some .answerWait) ∧
    run (.answerBitRise 1 1) gap (·.phase = some .answerHigh) ∧
    run (.answerBitRise 1 7999) gap (·.phase = some .answerHigh) ∧
    run (.answerBitRise 1 8000) gap (·.phase = some .answerGap) ∧
    run (.answerBitFall 1 3999) high (·.answer = [false]) ∧ run (.answerBitFall 1 4000) high (·.answer = [true]) ∧
    run (.answerBitFall 1 7999) high (·.answer = [true]) ∧ run (.answerBitFall 1 8000) high (·.answer = []) ∧
    ((last (tagOf 15)).engine 1).frame.answer.length = 111 ∧ (answerOf (tagOf 15)).getLast? = some false ∧
    run (.answerComplete 1 3999) (last (tagOf 15)) (fun f => f.decision = some .good ∧ f.record = tagOf 15) ∧
    run (.answerComplete 1 4000) (last (tagOf 15)) (·.decision = some (.failed .crcError)) ∧
    (let o := (last (tagOf 15)).modEngine 1 fun g => { g with header := { g.header with tagAddress := 6 } }
     run (.answerBitFall 1 3999) o (·.decision = some (.failed .addressError))) := by decide +kernel

/-- IDENTIFY, a differing serial, an agreeing one; the attempts of 07 Table 7-7. -/
theorem witness_TailEndJudgesTheAttempt :
    let tail := fun (n : Nat) (d : Decision) (dis : Bool) => (answering .tail fun f =>
      { f with answer := answerOf (tagOf 15), decision := some d, disturbed := dis }).modEngine 1 fun g =>
        { g with frameAttempts := n, profile := none }
    let kind := fun (k fl : Byte) (ser : Long) => (tail 0 .good false).modEngine 1 fun g =>
      { g with header := { g.header with kind := k, flags := fl, serial := ser } }
    let arc := fun s : State => s.modStation 4 fun t => { t with setup := { t.setup with arcStart := 5, arcEnd := 9 } }
    let run := fun (s : State) (p : Engine → Bool) => ok (exec (.tailEnd 1 0) s) fun t => p (t.engine 1)
    (tail 0 .good false).inReset = false ∧ (tail 0 .good false).regs.shelfFixed = false ∧
    ((tail 0 .good false).engine 1).frame.decision = some .good ∧
    run (kind 1 4 7) (fun g => g.phase = .writing .result ∧ g.tagRecord = some (tagOf 15)) ∧
    run (kind 2 4 40118) (fun g => g.figures.error = .serialMismatch) ∧
    run (kind 2 4 40117) (fun g => g.phase = .computing .lookup) ∧
    run (kind 3 0 0) (fun g => g.phase = .computing .lookup) ∧
    run (arc (tail 0 (.failed .noAnswer) false)) (fun g => g.phase = .gating .frame ∧ g.flags = 0) ∧
    run (arc (tail 1 .good true)) (fun g => g.phase = .gating .frame ∧ g.flags = 0x0010 ∧ g.tagRecord = none) ∧
    run (tail 0 (.failed .noAnswer) false) (fun g => g.phase = .reading ∧ g.rising) ∧
    ok (exec (.tailEnd 1 0x010) (tail 0 (.failed .noAnswer) false)) (fun t => (t.engine 1).report = some .echoStuck) ∧
    (let fixed := fun s : State => ({ s with regs := { s.regs with shelfFixed := true } } : State)
     run (fixed (kind 1 4 7)) (·.phase = .writing .result) ∧
      run (fixed (kind 2 4 40118)) (·.figures.error = .serialMismatch)) ∧
    run (tail 2 (.failed .crcError) false) (fun g => g.figures.verdict = .unreadable ∧ g.flags = 0x0100 ∧
      g.frameAttempts = 3) := by decide +kernel

/-! ## Stops -/

/-- CANCELLED and the three losses (05 Table 5-3). -/
theorem witness_StoppedCardEnds :
    let s := fun o : StopOutcome => measuring (.writing .stopped) fun g =>
      { g with stopOutcome := some o, rounds := { Rounds.reset with valid := 4, attempts := 4 } }
    let run := fun (o : StopOutcome) (status code : Byte) => ok (exec (.stopTerminalBurst 1 0) (s o)) fun t =>
      t.cardStatus 6 = status ∧ t.byte (cardBase 6 + 0x10) = code ∧ t.byte (cardBase 6 + 0x19) = 4 ∧ t.holder 4 = none
    Memory.wf (s .cancelled).mem = true ∧ (s .cancelled).inReset = false ∧
      ((s .cancelled).engine 1).phase = .writing .stopped ∧ ((s .cancelled).engine 1).report = none ∧
      (s .cancelled).waiting = [] ∧ ((s .cancelled).station 4).deferred = false ∧
      run .cancelled 0x06 0x00 ∧ run (.lost .partRemoved) 0x05 0x09 ∧ run (.lost .stationOff) 0x05 0x03 ∧
      run (.lost .lineFault) 0x05 0x0A := by decide +kernel

/-- A cancel, then an overload (05): the pulse is cut, the fault is reported, the earlier outcome stays. -/
theorem witness_StopsAndOverloads :
    let at_ := fun (p : Phase) (stops : List Stop) (o : Option StopOutcome) =>
      measuring p fun g => { g with stops := stops, stopOutcome := o }
    let run := fun (x : Stop) (s : State) (p : Engine → Bool) => ok (exec (.stopEvent 1 x) s) fun t => p (t.engine 1)
    (at_ .settling [.cancel 6] none).inReset = false ∧ Stop.cancel 6 ∈ ((at_ .settling [.cancel 6] none).engine 1).stops ∧
    run (.cancel 6) (at_ .settling [.cancel 6] none) (fun g => g.phase = .writing .stopped ∧ g.stops = []) ∧
    run (.cancel 7) (at_ .settling [.cancel 7] none) (fun g => g.phase = .settling ∧ g.stops = []) ∧
    run (.removal 5) (at_ .settling [.removal 5] none) (·.phase = .settling) ∧
    run (.removal 4) (at_ (.writing .result) [.removal 4] none) (·.phase = .writing .result) ∧
    run (.disable 4) (at_ .listening [.disable 4] (some .cancelled)) (·.stopOutcome = some .cancelled) ∧
    run (.cancel 6) (at_ .pulsing [.cancel 6] none) (fun g => g.phase = .pulsing ∧ g.stopOutcome = some .cancelled) ∧
    run (.lineFault 4) (at_ (.gating .frame) [.lineFault 4] none) (·.stopOutcome = some (.lost .lineFault)) ∧
    (let s := at_ .pulsing [] (some .cancelled)
     s.point 1 = some 4 ∧ (s.engine 1).outputHigh = true ∧ (∀ e, e ≠ 1 → s.point e ≠ some 4) ∧
      ok (exec (.stimOverload 4) s) (fun t => !t.stim 4 ∧ (t.engine 1).report = some .stimOverload ∧
        (t.engine 1).stopOutcome = some .cancelled)) ∧
    (let s := at_ .pulsing [] none
     let h : State := { s with overloadHold := 0x010 }
     s.overloadHold.getLsbD 4 = false ∧ h.overloadHold.getLsbD 4 = true ∧ ok (exec (.stimOverload 4) h) (· = h)) ∧
    (let s := (at_ .pulsing [.cancel 6] none).modEngine 1 fun g => { g with rising := true }
     (s.engine 1).outputHigh = false ∧ run (.cancel 6) s (·.phase = .writing .stopped)) ∧
    (∀ e, on.point e ≠ some 4) ∧ ok (exec (.stimOverload 4) on) (· = on) := by decide +kernel

/-! ## Lookup -/

/-- Engine 1 looks up the tag with this date at index i of a shelf with this record there. -/
def looking (r : List Byte) (i : ShelfId) (date : Half) (f : Lookup → Lookup) : State :=
  (measuring (.computing .lookup) fun g =>
    { g with profile := none, target := none, tagRecord := some (tagOf date),
             lookup := f { Lookup.reset with index := i } }).put (shelfBase i) r

/-- No candidate at indices 6, 62 and 63 (08 Table 8-2). -/
theorem witness_ShelfBurstJudgesTheRecord :
    let s := looking (goodRecord 0 3) 6 15 id
    let run := fun (i : ShelfId) (p : Engine → Bool) =>
      ok (exec (.shelfRead 1 0) (looking (goodRecord 0 3) i 15 id)) fun t => p (t.engine 1)
    s.inReset = false ∧ (s.engine 1).phase = .computing .lookup ∧ (s.engine 1).lookup.reread = .none ∧
    ((looking (goodRecord 0 3) 6 15 fun l => { l with reread := .due }).engine 1).lookup.reread = .due ∧
    (let w := looking (goodRecord 0 3) 6 15 fun l => { l with reread := .waiting }
     (w.engine 1).lookup.reread = .waiting ∧ ok (exec (.profileReread 1 0) w) (· = w)) ∧
    (s.engine 1).job = some { card := 6, station := 4 } ∧ s.regs.snapshot = some snap0 ∧
    (s.engine 1).stopAtHoldBegin = false ∧
    run 6 (fun g => g.lookup.index = 7 ∧ g.phase = .computing .lookup) ∧ run 62 (fun g => g.lookup.index = 63) ∧
    run 63 (fun g => g.figures.verdict = .unlisted ∧ g.phase = .writing .result) := by decide +kernel

/-- The CRC goes on over a second run of bytes. -/
theorem crc_append (a b : List Byte) :
    crcOf (a ++ b) = b.foldl (fun reg b => (byteBits b).foldl crcBit reg) (crcOf a) := List.foldl_append

/-- The CRC of the record's first sixteen bytes with n 3 and with n 9. -/
theorem crc_first : crcOf ((recordBody 1 3).take 16) = 35390 ∧ crcOf ((recordBody 1 9).take 16) = 38780 := by
  decide +kernel

/-- From there to byte 32, and from byte 32 on. -/
theorem crc_next :
    let go := fun (r : Half) (n : Byte) (i len : Nat) =>
      (((recordBody 1 n).drop i).take len).foldl (fun reg b => (byteBits b).foldl crcBit reg) r
    go 35390 3 16 16 = 47353 ∧ go 38780 9 16 16 = 50512 ∧ go 47353 3 32 16 = 16117 ∧ go 50512 9 32 16 = 44559 ∧
      go 16117 3 48 14 = 12118 ∧ go 44559 9 48 14 = 60399 := by decide +kernel

/-- The CRC of the record of the worked cases. -/
theorem crc_record : crcOf (recordBody 1 3) = 12118 := by
  rw [show recordBody 1 3 = (((recordBody 1 3).take 16 ++ ((recordBody 1 3).drop 16).take 16) ++
      ((recordBody 1 3).drop 32).take 16) ++ ((recordBody 1 3).drop 48).take 14 from by decide +kernel,
    crc_append, crc_append, crc_append, crc_first.1]
  have h := crc_next
  simp only at h
  rw [h.1, h.2.2.1, h.2.2.2.2.1]

/-- The CRC of the same record with n 9. -/
theorem crc_record9 : crcOf (recordBody 1 9) = 60399 := by
  rw [show recordBody 1 9 = (((recordBody 1 9).take 16 ++ ((recordBody 1 9).drop 16).take 16) ++
      ((recordBody 1 9).drop 32).take 16) ++ ((recordBody 1 9).drop 48).take 14 from by decide +kernel,
    crc_append, crc_append, crc_append, crc_first.2]
  have h := crc_next
  simp only at h
  rw [h.2.1, h.2.2.2.1, h.2.2.2.2.2]

/-- Candidates: a good record with dates 9, 10, 20 and 21, a field out of range, and a CRC that disagrees. -/
theorem witness_ShelfBurstJudgesTheRecord_candidates :
    (looking (goodRecord 1 3) 6 9 id).bytes (shelfBase 6) 64 = goodRecord 1 3 ∧
    (profileOf (goodRecord 1 3)).isCandidate (tagOf 9) = true ∧
    profileOf (goodRecord 1 3) = prof0 ∧ prof0.inRange = true ∧
    crcOf ((goodRecord 1 3).take 62) = halfIn (goodRecord 1 3) 62 ∧
    (tagDate (tagOf 9) = 9 ∧ prof0.dateInside 9 = false ∧ prof0.dateInside 10 = true ∧ prof0.dateInside 20 = true ∧
      prof0.dateInside 21 = false) ∧
    (profileOf (goodRecord 1 9)).inRange = false ∧ crcOf ((goodRecord 1 9).take 62) = halfIn (goodRecord 1 9) 62 ∧
    crcOf ((recordBody 1 3 ++ [0, 0]).take 62) ≠ halfIn (recordBody 1 3 ++ [0, 0]) 62 := by
  refine ⟨by decide +kernel, by decide +kernel, by decide +kernel, by decide +kernel, ?_,
    by decide +kernel, by decide +kernel, ?_, ?_⟩
  · rw [(by decide +kernel : (goodRecord 1 3).take 62 = recordBody 1 3), crc_record]; decide +kernel
  · rw [(by decide +kernel : (goodRecord 1 9).take 62 = recordBody 1 9), crc_record9]; decide +kernel
  · rw [(by decide +kernel : List.take 62 (recordBody 1 3 ++ ([0, 0] : List Byte)) = recordBody 1 3), crc_record]
    decide +kernel

theorem witness_CacheIsAskedFirst :
    let b := (answering .tail fun f => { f with answer := answerOf (tagOf 15), decision := some .good })
    let miss : State := { b with regs := { b.regs with shelfFixed := true } }
    let hit : State := { miss with
      cache := Cache.reset.offer { index := 6, type := 0x0312, variant := 1, copy := goodRecord 1 3 } }
    (∀ s ∈ [miss, hit], s.inReset = false ∧ (s.engine 1).phase = .reading ∧ (s.engine 1).frame.phase = some .tail ∧
      (s.engine 1).frame.disturbed = false ∧ (s.engine 1).frame.decision = some .good ∧ s.regs.shelfFixed = true ∧
      s.regs.enable = true ∧ (s.engine 1).header.kind ≠ 0x01 ∧ (s.engine 1).header.flags.getLsbD 2 = false ∧
      s.regs.snapshot = some snap0 ∧ (s.engine 1).job = some { card := 6, station := 4 } ∧
      (s.engine 1).stopAtHoldBegin = false) ∧
    (let late := hit.modEngine 1 fun g => { g with frame := { g.frame with answer := answerOf (tagOf 21) } }
     ok (exec (.tailEnd 1 0) late) (fun t => (t.engine 1).figures.verdict = .counterfeit ∧
      (t.engine 1).flags = 0x2400)) ∧
    ok (exec (.tailEnd 1 0) miss) (fun t => (t.engine 1).phase = .computing .lookup ∧ (t.engine 1).flags = 0) ∧
    ok (exec (.tailEnd 1 0) hit) (fun t => (t.engine 1).profileIndex = some 6 ∧ (t.engine 1).flags = 0x0400 ∧
      (t.engine 1).phase = .pulsing ∧ t.cache.recency = [0]) := by decide +kernel

/-! ## Scoring -/

/-- 1 and 65535; 200000 ppm of 65535 is 13107; a single tick is set by tolmin 4 (09, Arithmetic at the limits). -/
theorem witness_ToleranceOfAPosition :
    prof0.inRange = true ∧ { prof0 with tolPpm := 200000 }.inRange = true ∧
      toleranceOf { prof0 with tolPpm := 200000 } 65535 = 13107 ∧ toleranceOf { prof0 with tolPpm := 200000 } 1 = 4 := by
  decide +kernel

theorem witness_ScoreAndWorst :
    (∀ q ∈ [256, 170, 25], q ≤ 4095) ∧ scoreOf [256, 170, 25] 3 = 150 ∧ worstOf [256, 170, 25] = 256 ∧
      scoreOf [4095] 1 = worstOf [4095] ∧ scoreOf (List.replicate 8 4095) 8 = 4095 := by decide +kernel

/-- CRC of the ASCII digits 1 to 9 (07 R133, 08 R145), means and limits of chapter 9. -/
theorem test_arithmetic :
    crcOf [0x31, 0x32, 0x33, 0x34, 0x35, 0x36, 0x37, 0x38, 0x39] = 0x29B1 ∧
      meanOf 16801 4 = 4200 ∧ meanOf 16802 4 = 4201 ∧ meanOf 16806 4 = 4202 ∧ normalised 11 12 = 234 ∧
      normalised 12 12 = 256 ∧ normalised 1000 4 = 4095 ∧ corrected 40000 20000 60000 = 65535 ∧ corrected 3 8 1 = 0 ∧
      corrected 1500 9 0 = 1500 ∧ expected 1 320000 = 1 := by decide +kernel

/-- The genuine cartridge of chapter 9 before its pass, with V valid rounds of these sums and extremes. -/
def scoring (v : Nat) (ps : List Position) (refSum : Nat) (f : Engine → Engine) : State :=
  measuring (.computing .scoring) fun g => f { g with
    nref := 2000, header := { g.header with flags := 1, temperature := 145 }, tagRecord := some (tagOf 15)
    profileIndex := some 6, rounds := { valid := v, attempts := v, positions := ps, refSum := refSum } }

/-- A genuine cartridge, a position out of tolerance, an unsteady echo, the gate limit, two rounds, SURVEY (09). -/
theorem witness_ScoringPassGivesTheVerdict :
    let p1 : Position := { sum := 4938, largest := 1236, smallest := 1233 }
    let p2 : Position := { sum := 10270, largest := 2569, smallest := 2566 }
    let p3 : Position := { sum := 16803, largest := 4203, smallest := 4199 }
    let genuine := scoring 4 [p1, p2, p3] 8046 id
    let run := fun (s : State) (p : Engine → Bool) => ok (exec (.scoringPassEnd 1) s) fun t => p (t.engine 1)
    genuine.inReset = false ∧ (genuine.engine 1).profile = some prof0 ∧ prof0.inRange = true ∧
    (genuine.engine 1).rounds.positions.length = prof0.n.toNat ∧
    run genuine (fun g => g.figures = { verdict := .genuine, c := [1228, 2553, 4176], s := 150, w := 256, error := .none } ∧
      g.flags = 0) ∧
    run (scoring 4 [p1, { sum := 10290, largest := 2574, smallest := 2571 }, p3] 8046 id)
      (fun g => g.figures.verdict = .suspect ∧ g.figures.s = 186 ∧ g.figures.w = 277) ∧
    run (scoring 4 [p1, p2, { sum := 16804, largest := 4222, smallest := 4180 }] 8046 id)
      (fun g => g.figures.verdict = .suspect ∧ g.figures.s = 150 ∧ g.flags = 0x1000) ∧
    run (scoring 3 [{ sum := 3703, largest := 1236, smallest := 1233 }, { sum := 7702, largest := 2569, smallest := 2566 },
        { sum := 12603, largest := 4203, smallest := 4199 }] 6033 id)
      (fun g => g.figures.verdict = .genuine ∧ g.figures.s = 144 ∧ g.figures.w = 213) ∧
    run (scoring 2 [p1, p2, p3] 8046 fun g => { g with ending := some .attemptsSpent })
      (fun g => g.figures.verdict = .inconclusive ∧ g.flags = 0x4000) ∧
    run (scoring 0 [] 0 fun g => { g with ending := some .gateLimit, flags := 0x8000 })
      (fun g => g.figures.verdict = .inconclusive ∧ g.flags = 0x8000) ∧
    run (scoring 4 [p1, p2, p3] 8046 fun g => { g with header := { g.header with kind := 3 } })
      (fun g => g.figures.c = [1228, 2553, 4176] ∧ g.figures.verdict = .none) ∧
    run (scoring 4 [{ sum := 262140, largest := 65535, smallest := 65535 }, p2, p3] 400 id)
      (fun g => g.figures.verdict = .counterfeit ∧ g.flags = 0x0800) := by decide +kernel

/-! ## Writing the card -/

/-- Engine 1 in WRITING with the figures of the genuine cartridge (10, A VERIFY card from grant to release). -/
def writing (a : Act) (f : Engine → Engine) : State :=
  measuring (.writing a) fun g => f { g with
    figures := { verdict := .genuine, c := [1228, 2553, 4176], s := 150, w := 256, error := .none }
    tagRecord := some (tagOf 15), profileIndex := some 6
    rounds := { Rounds.reset with valid := 4, attempts := 4 } }

theorem witness_ResultAndItsDelivery :
    let s := writing .result id
    Memory.wf s.mem = true ∧ s.inReset = false ∧ (s.engine 1).phase = .writing .result ∧
      (s.engine 1).job = some { card := 6, station := 4 } ∧
      ok (exec (.resultBurst 1) s) (fun t => t.byte 0x991 = 0x01 ∧ t.byte 0x997 = 6 ∧ t.half 0x99A = 150 ∧
        t.half 0x99C = 256 ∧ t.half 0x9B0 = 1228 ∧ t.half 0x9B4 = 4176 ∧ t.half 0x9B6 = 0 ∧
        t.long 0x9A6 = 40117 ∧ (t.engine 1).phase = .writing .delivery) ∧
      (s.engine 1).figures.error = .none ∧
      ((writing .result fun g => { g with figures := { g.figures with error := .profileInvalid } }).engine 1).parcel = none := by
  decide +kernel

/-- Each refusal, the accepted delivery into the matching slot, and one that matches none (03 R59, R60, 10 R192). -/
theorem witness_DeliveryIsJudged :
    let s := writing .delivery id
    let st := fun f : Station → Station => s.modStation 4 f
    let refused := fun (x : State) (l : Loss) => ok (exec (.delivery 1) x) fun t => (t.engine 1).answer = some l
    Memory.wf s.mem = true ∧ s.inReset = false ∧ (s.engine 1).phase = .writing .delivery ∧
      (s.engine 1).parcel = some { verdict := some (0x01, 150), identity := some (tagOf 15) } ∧
      (s.station 4).lossMark = none ∧ (s.station 4).setup.enabled = true ∧ (s.station 4).fault = false ∧
      (s.station 4).present = true ∧ (s.station 4).setup.activeAt 0 = true ∧
      (s.station 4).setup.roster[0].setWidth 8 = (s.engine 1).header.tagAddress ∧ s.held 4 = true ∧
      refused (st fun t => { t with lossMark := some .partRemoved, fault := true }) .partRemoved ∧
      refused (st fun t => { t with setup := { t.setup with enabled := false }, fault := true }) .stationOff ∧
      refused (st fun t => { t with fault := true, present := false }) .lineFault ∧
      refused (st fun t => { t with present := false }) .partRemoved ∧
      ok (exec (.delivery 1) s) (fun t => t.byte (slotBase 4 0) = 0x01 ∧ t.half (slotBase 4 0 + 2) = 150 ∧
        t.long (slotBase 4 0 + 8) = 40117 ∧ (t.station 4).heldPermit ∧ (t.station 4).permit) ∧
      (let other := st fun t => { t with setup := { t.setup with rosterCount := 0 } }
       (∀ p : SlotId, (other.station 4).setup.activeAt p = false) ∧
        ok (exec (.delivery 1) other) (fun t => (∀ p : SlotId, t.readSlot 4 p = s.readSlot 4 p) ∧
          (t.engine 1).phase = .writing .terminal ∧ (t.engine 1).answer = none ∧ !(t.station 4).heldPermit)) := by
  decide +kernel

theorem witness_TerminalBurstEndsTheCard :
    let s := writing .terminal fun g => { g with header := { g.header with flags := 2 } }
    let lost := writing .terminal fun g => { g with answer := some .partRemoved }
    (∀ x ∈ [s, lost], Memory.wf x.mem = true ∧ x.inReset = false ∧ (x.engine 1).phase = .writing .terminal ∧
      (x.engine 1).job = some { card := 6, station := 4 } ∧ x.waiting = [] ∧ (x.station 4).deferred = false) ∧
    (let d := (s.modStation 4 fun t => { t with deferred := true }).put (stationBase 4) [1, 0, 1, 2, 5, 6]
     (d.station 4).deferred = true ∧ d.regs.snapshot = some snap0 ∧
      ok (exec (.terminalBurst 1 0) d) (fun t => (t.station 4).setup.rosterCount = 2 ∧ !(t.station 4).deferred ∧
        t.notices = [{ station := 4, event := .rosterChanged }] ∧ t.cardStatus 6 = 0x04)) ∧
    ok (exec (.terminalBurst 1 0) s) (fun t => t.cardStatus 6 = 0x04 ∧ t.byte 0x990 = 0 ∧ t.regs.causes = 0b00011 ∧
      (t.engine 1).phase = .idle ∧ t.byte 0x312 = 0xFF) ∧
    ok (exec (.terminalBurst 1 0) lost) (fun t => t.cardStatus 6 = 0x05 ∧ t.byte 0x990 = 0x09) := by decide +kernel

/-- Cards 4, 5 and 9 of the worked sweep (02, One sweep and two grants): 9 first, then 4; a release, an ENABLE and an intake
that grant, the last to a station that is lost. -/
theorem witness_AllocatorChoosesByPriority :
    let x4 : Entry := { card := 4, priority := 1, station := 2 }
    let x5 : Entry := { card := 5, priority := 0, station := 4 }
    let x9 : Entry := { card := 9, priority := 2, station := 4 }
    let s : State := { busy (busy on 2 2 7 .settling) 3 3 9 .settling with waiting := [x4, x5, x9] }
    s.chooseEntry = some x9 ∧ { s.setHold 4 (some 0) with waiting := [x4, x5] }.chooseEntry = some x4 ∧
      { s.setHold 4 (some 0) with waiting := [x5] }.chooseEntry = none ∧ s.freeEngine = some 0 ∧
      (let r : State := { writing .terminal id with waiting := [x5] }
       Memory.wf r.mem = true ∧ r.inReset = false ∧ (r.engine 1).phase = .writing .terminal ∧
        (r.engine 1).job = some { card := 6, station := 4 } ∧ r.regs.enable = true ∧ r.regs.snapshot = some snap0 ∧
        (r.station 4).deferred = false ∧ (r.waiting.map (·.card)).Nodup ∧
        ok (exec (.terminalBurst 1 0) r) (fun t => t.cardStatus 6 = 0x04 ∧ t.cardStatus 5 = 0x03 ∧ t.holder 4 = some 0)) ∧
      (let p := inWrite { (ready off 2 true).put 0 [0, 8] with waiting := [x4] } 1 1
       Memory.wf p.mem = true ∧ p.writing 1 ∧ snap0.ppc = p.half 0 ∧ (∀ e, (p.engine e).phase = .idle) ∧
        ok (exec (.enable 0 0) p) (fun t => t.cardStatus 4 = 0x03 ∧ t.waiting = [] ∧ (t.engine 0).phase = .reading)) ∧
      (let i : State := { atIntake (card (ready on 11 true) 6 1 0 2 1 11 5 0) 6 with waiting := [x4] }
       (∀ x ∈ i.waiting, x.card ≠ 6) ∧ (i.waiting.map (·.card)).Nodup ∧ i.sweeper.visit = some (.intake 6 (i.bytes (cardBase 6) 14)) ∧
        ok (exec (.cardIntake 0) i) (fun t => t.waiting = [] ∧ t.holder 2 = some 0 ∧ t.holder 11 = some 1 ∧
          (t.engine 0).stops = [.removal 2] ∧ (t.station 2).lossMark = some .partRemoved ∧
          (t.engine 1).phase = .reading)) := by
  simp only [State.takes, State.writing]; decide +kernel

end Sys2Proof.Tests
end

section
/-! SUPPORT. What every command leaves of the registers, and the refused byte (01 R12). -/

namespace Sys2Proof.Machine

/-! ## Registers that stay, but for the attention causes -/

/-- The registers but for the attention causes are as before. -/
def SameRegs (s t : State) : Prop := t.regs = { s.regs with causes := t.regs.causes }

section
variable {s t u : State}

theorem SameRegs.of_eq (h : t.regs = s.regs) : SameRegs s t := by
  unfold SameRegs; rw [h]

theorem Beside.sameRegs (h : Beside s t) : SameRegs s t := h.regs

theorem SameRegs.trans (h : SameRegs s t) (k : SameRegs t u) : SameRegs s u := by
  unfold SameRegs at *; rw [k, h]

theorem SameRegs.refusedAt (h : SameRegs s t) : t.regs.refusedAt = s.regs.refusedAt := by
  unfold SameRegs at h; rw [h]

theorem Beside.refusedAt (h : Beside s t) : t.regs.refusedAt = s.regs.refusedAt := h.sameRegs.refusedAt

end

theorem whenever_sameRegs {s : State} {act : State → State} (p : Bool) (h : SameRegs s (act s)) :
    SameRegs s (s.whenever p act) := by
  unfold State.whenever
  split_ifs
  · exact .of_eq rfl
  · exact h
  · exact .of_eq rfl

/-- A next state that the command can answer has the registers of s but for the causes. -/
def AnswersSameRegs (s : State) (o : Host.Outcome State Fault Refusal) : Prop := ∀ t, o = .next t → SameRegs s t

theorem answersSameRegs_self (s : State) : AnswersSameRegs s (.next s) := by
  rintro _ ⟨⟩
  exact .of_eq rfl

theorem answersSameRegs_whenever {s : State} {act : State → State} {p : Bool} (h : SameRegs s (act s)) :
    AnswersSameRegs s (.next (s.whenever p act)) := by
  rintro _ ⟨⟩
  exact whenever_sameRegs p h

/-- A block acts on the state in which the ECHO levels of the moment are sampled. -/
theorem sameRegs_of_sampled {s t : State} {echo : Levels} (h : Beside (s.sampleEcho echo) t) : SameRegs s t :=
  (SameRegs.of_eq (s.sampleEcho_regs echo)).trans h.sameRegs

/-! ## Line levels and synchronisers -/

@[simp] theorem State.setEchoLevel_regs (s : State) (e : EngineId) (high : Bool) :
    (s.setEchoLevel e high).regs = s.regs := by
  unfold State.setEchoLevel
  split <;> rfl

@[simp] theorem State.setRefLevel_regs (s : State) (e : EngineId) (high : Bool) :
    (s.setRefLevel e high).regs = s.regs := rfl

@[simp] theorem State.answerEdge_regs (s : State) (e : EngineId) (high : Bool) (f : Option Frame) :
    (s.answerEdge e high f).regs = s.regs := by
  unfold State.answerEdge
  split <;> simp

@[simp] theorem State.synchronise_regs (s : State) (taken : Bool) (stood : Nat) (keep : Pins → Pins) :
    (s.synchronise taken stood keep).regs = s.regs := by
  rw [State.synchronise_eq]

theorem decideIn_sameRegs (s : State) (e : EngineId) (p : FramePhase) (c : FrameCause) (low : Option Nat)
    (listen : Engine → Nat) : SameRegs s (s.decideIn e p c low listen) :=
  whenever_sameRegs _ (.of_eq rfl)

theorem sampleStation_beside {s t : State} (h : Beside s t) (filter : Nat) (pres : Levels) (n : StationId) :
    Beside s (t.sampleStation filter pres n) := by
  unfold State.sampleStation
  split
  · exact modStation_beside h n _
  · exact h

/-! ## Events of the blocks -/

theorem execPresenceSample_sameRegs (pres : Levels) (s : State) : AnswersSameRegs s (execPresenceSample pres s) := by
  refine answersSameRegs_whenever ?_
  have pinned : SameRegs s (s.setPins { s.pins with pres := pres }) := .of_eq rfl
  dsimp only
  split
  · exact pinned.trans (forAll_beside (.refl _) _ (fun n _ hu => sampleStation_beside hu _ _ n) _).sameRegs
  · exact pinned

theorem execRecheckExpiry_sameRegs (n : StationId) (echo : Levels) (s : State) :
    AnswersSameRegs s (execRecheckExpiry n echo s) := by
  refine answersSameRegs_whenever ?_
  dsimp only
  split
  · exact sameRegs_of_sampled (modStation_beside (.refl _) n _)
  · exact sameRegs_of_sampled (clearFault_beside (.refl _) n)

theorem execFaultReport_sameRegs (e : EngineId) (s : State) : AnswersSameRegs s (execFaultReport e s) := by
  unfold execFaultReport
  split
  · exact answersSameRegs_whenever (takeFault_beside (modEngine_beside (.refl s) e _) _ _).sameRegs
  · exact answersSameRegs_self s

theorem execSweepTimerExpiry_sameRegs (s : State) : AnswersSameRegs s (execSweepTimerExpiry s) := by
  unfold execSweepTimerExpiry
  split
  · exact answersSameRegs_whenever (expireSweepTimer_beside (.refl s) _).sameRegs
  · exact answersSameRegs_self s

theorem execCardVisit_sameRegs (s : State) : AnswersSameRegs s (execCardVisit s) := by
  unfold execCardVisit
  split
  · exact answersSameRegs_whenever (visitCard_beside (.refl s) _).sameRegs
  · exact answersSameRegs_whenever (endStray_beside (.refl s) _).sameRegs
  · exact answersSameRegs_self s

theorem execCardIntake_sameRegs (echo : Levels) (s : State) : AnswersSameRegs s (execCardIntake echo s) := by
  unfold execCardIntake
  split
  · exact answersSameRegs_whenever (sameRegs_of_sampled (intakeVisit_beside (.refl _) _ _))
  · exact answersSameRegs_self s

theorem execPendingListNotice_sameRegs (s : State) : AnswersSameRegs s (execPendingListNotice s) := by
  unfold execPendingListNotice
  split
  · exact answersSameRegs_whenever (takeNotice_beside (setNotices_beside (.refl s) _) _).sameRegs
  · exact answersSameRegs_self s

/-- The tracker acts on the state that the synchroniser of MCLK or MIDX leaves. -/
theorem answersSameRegs_synchronised {s : State} {act : State → State} {taken : Bool} {stood : Nat}
    {keep : Pins → Pins}
    (h : SameRegs (s.synchronise taken stood keep) (act (s.synchronise taken stood keep))) :
    AnswersSameRegs s (.next ((s.synchronise taken stood keep).whenever true act)) := by
  rintro _ ⟨⟩
  exact (SameRegs.of_eq (s.synchronise_regs taken stood keep)).trans (whenever_sameRegs true h)

/-- The tracker takes a transition of MCLK or MIDX only if it is an edge in the selected direction. -/
theorem edge_sameRegs {s t : State} {echo : Levels} (edge : Bool) (h : Beside (s.sampleEcho echo) t) :
    SameRegs s (if edge then t else s.sampleEcho echo) := by
  split
  · exact sameRegs_of_sampled h
  · exact .of_eq rfl

theorem execMclkEdge_sameRegs (rising : Bool) (echo : Levels) (s : State) (stood : Nat) :
    AnswersSameRegs s (execMclkEdge rising echo s stood) := by
  refine answersSameRegs_synchronised ?_
  dsimp only
  split
  · exact edge_sameRegs _ (takeMclk_beside (.refl _) _)
  · exact .of_eq rfl

theorem execMidxEdge_sameRegs (rising : Bool) (echo : Levels) (s : State) (stood : Nat) :
    AnswersSameRegs s (execMidxEdge rising echo s stood) := by
  refine answersSameRegs_synchronised ?_
  dsimp only
  split
  · exact edge_sameRegs _ (takeMidx_beside (.refl _) _)
  · exact .of_eq rfl

theorem execStopTimeout_sameRegs (echo : Levels) (s : State) : AnswersSameRegs s (execStopTimeout echo s) := by
  unfold execStopTimeout
  split
  · exact answersSameRegs_whenever (sameRegs_of_sampled (takeStopTimeout_beside (.refl _) _))
  · exact answersSameRegs_self s

theorem execGateLimitExpiry_sameRegs (e : EngineId) (s : State) : AnswersSameRegs s (execGateLimitExpiry e s) := by
  unfold execGateLimitExpiry
  split
  · exact answersSameRegs_whenever (expireGate_beside (.refl s) e _).sameRegs
  · exact answersSameRegs_self s

theorem execEchoEdge_sameRegs (e : EngineId) (x : Transition) (s : State) :
    AnswersSameRegs s (execEchoEdge e x s) := by
  refine answersSameRegs_whenever (SameRegs.trans ?_ (.of_eq (State.setEchoLevel_regs _ _ _)))
  split
  · exact (windowEdge_beside (.refl s) e _ _ _ _).sameRegs
  · exact .of_eq rfl

theorem execReferenceEdge_sameRegs (e : EngineId) (x : Transition) (s : State) :
    AnswersSameRegs s (execReferenceEdge e x s) := by
  refine answersSameRegs_whenever (SameRegs.trans ?_ (.of_eq (State.setRefLevel_regs _ _ _)))
  split
  · exact (windowEdge_beside (.refl s) e _ _ _ _).sameRegs
  · exact .of_eq rfl

theorem execWindowClose_sameRegs (e : EngineId) (s : State) : AnswersSameRegs s (execWindowClose e s) := by
  unfold execWindowClose
  split
  · exact answersSameRegs_whenever (closeWindow_beside (.refl s) e _).sameRegs
  · exact answersSameRegs_self s

theorem execStimOverload_sameRegs (n : StationId) (s : State) : AnswersSameRegs s (execStimOverload n s) := by
  unfold execStimOverload
  split
  · exact answersSameRegs_whenever
      (releaseDriver_beside (faultStop_beside (tripDriver_beside (.refl s) n) _ _) n).sameRegs
  · exact answersSameRegs_self s

theorem execScoringPassEnd_sameRegs (e : EngineId) (s : State) : AnswersSameRegs s (execScoringPassEnd e s) := by
  unfold execScoringPassEnd
  split
  · exact answersSameRegs_whenever (endScoring_beside (.refl s) e _).sameRegs
  · exact answersSameRegs_self s

theorem execResultBurst_sameRegs (e : EngineId) (s : State) : AnswersSameRegs s (execResultBurst e s) := by
  unfold execResultBurst
  split
  · exact answersSameRegs_whenever (setPhase_beside (writeResult_beside (.refl s) _ _) e _).sameRegs
  · exact answersSameRegs_self s

theorem execDelivery_sameRegs (e : EngineId) (s : State) : AnswersSameRegs s (execDelivery e s) := by
  unfold execDelivery
  split
  · exact answersSameRegs_whenever (deliver_beside (.refl s) e _ _).sameRegs
  · exact answersSameRegs_self s

theorem execTerminalBurst_sameRegs (e : EngineId) (echo : Levels) (s : State) :
    AnswersSameRegs s (execTerminalBurst e echo s) := by
  unfold execTerminalBurst
  split
  · exact answersSameRegs_whenever (sameRegs_of_sampled (endOnEngine_beside (.refl _) e _))
  · exact answersSameRegs_self s

theorem execStopTerminalBurst_sameRegs (e : EngineId) (echo : Levels) (s : State) :
    AnswersSameRegs s (execStopTerminalBurst e echo s) := by
  unfold execStopTerminalBurst
  split
  · exact answersSameRegs_whenever (sameRegs_of_sampled (endStopped_beside (.refl _) e _))
  · exact answersSameRegs_self s

/-- The command is an event of a block behind the port: none of CS, of a byte on the port, of a reset. -/
def blockEvent : Instr → Bool
  | .transactionStart | .memoryRead _ | .memoryWrite _ | .registerRead _ | .voidTransaction _ | .enable _ _
  | .disable _ | .sweep _ | .softReset _ | .attentionClear _ | .attentionMaskWrite _ | .registerWriteIgnored _
  | .transactionEnd _ | .pinResetAssert _ | .pinResetEnd | .powerOnReset => false
  | _ => true

/-- An event of a block changes no register but the attention causes. -/
theorem exec_blockEvent_sameRegs {c : Instr} (hc : blockEvent c = true) (s : State) :
    AnswersSameRegs s (exec c s) := by
  cases c with
  | sweepTimerExpiry => exact execSweepTimerExpiry_sameRegs s
  | cardVisit => exact execCardVisit_sameRegs s
  | cardIntake echo => exact execCardIntake_sameRegs echo s
  | presenceSample pres => exact execPresenceSample_sameRegs pres s
  | fit n => exact answersSameRegs_whenever (takeFit_beside (.refl s) n).sameRegs
  | removal n => exact answersSameRegs_whenever (takeRemoval_beside (.refl s) n).sameRegs
  | pendingListNotice => exact execPendingListNotice_sameRegs s
  | faultReport e => exact execFaultReport_sameRegs e s
  | recheckExpiry n echo => exact execRecheckExpiry_sameRegs n echo s
  | mclkEdge rising echo stood => exact execMclkEdge_sameRegs rising echo s stood
  | midxEdge rising echo stood => exact execMidxEdge_sameRegs rising echo s stood
  | stopTimeout echo => exact execStopTimeout_sameRegs echo s
  | gateLimitExpiry e => exact execGateLimitExpiry_sameRegs e s
  | pulseFall e => exact answersSameRegs_whenever (endPulse_beside (.refl s) e).sameRegs
  | echoEdge e x => exact execEchoEdge_sameRegs e x s
  | referenceEdge e x => exact execReferenceEdge_sameRegs e x s
  | windowClose e => exact execWindowClose_sameRegs e s
  | settleEnd e echo => exact answersSameRegs_whenever (sameRegs_of_sampled (toGating_beside (.refl _) e _))
  | noAnswer e => rintro _ ⟨⟩; exact decideIn_sameRegs s e _ _ _ _
  | codingError e => rintro _ ⟨⟩; exact decideIn_sameRegs s e _ _ _ _
  | truncated e => rintro _ ⟨⟩; exact decideIn_sameRegs s e _ _ _ _
  | answerComplete e width => exact answersSameRegs_whenever (.of_eq (State.answerEdge_regs _ _ _ _))
  | tailEnd e echo => exact answersSameRegs_whenever (sameRegs_of_sampled (endTail_beside (.refl _) e))
  | shelfRead e echo => exact answersSameRegs_whenever (sameRegs_of_sampled (readShelf_beside (.refl _) e))
  | profileReread e echo => exact answersSameRegs_whenever (sameRegs_of_sampled (readShelf_beside (.refl _) e))
  | scoringPassEnd e => exact execScoringPassEnd_sameRegs e s
  | resultBurst e => exact execResultBurst_sameRegs e s
  | delivery e => exact execDelivery_sameRegs e s
  | terminalBurst e echo => exact execTerminalBurst_sameRegs e echo s
  | stopEvent e stop => exact answersSameRegs_whenever (stopReaches_beside (.refl s) e stop).sameRegs
  | stopTerminalBurst e echo => exact execStopTerminalBurst_sameRegs e echo s
  | stimOverload n => exact execStimOverload_sameRegs n s
  | frameLevelEnd e => exact answersSameRegs_whenever (endLevel_beside (.refl s) e).sameRegs
  | answerBitRise e counter => exact answersSameRegs_whenever (.of_eq (State.answerEdge_regs _ _ _ _))
  | answerBitFall e width => exact answersSameRegs_whenever (.of_eq (State.answerEdge_regs _ _ _ _))
  | _ => exact absurd hc Bool.false_ne_true

/-! ## A byte of a memory write (01 R3 to R5, R12) -/

@[simp] theorem Port.touch_pointer (p : Port) (a : Address) : (p.touch a).pointer = p.pointer := by
  unfold Port.touch
  split <;> rfl

/-- The ownership rules do not read the port (01 R8 to R11). -/
@[simp] theorem State.accepts_setPort (s : State) (p : Port) (a : Address) (v : Byte) :
    (s.setPort p).accepts a v = s.accepts a v := rfl

/-- WRITE_REFUSED is cause 2 (11 Table 11-4). -/
theorem State.causeSet_writeRefused (s : State) : s.causeSet causeWriteRefused = s.regs.causes.getLsbD 2 := by
  have place : ∀ x : BitVec 5, decide (x &&& 0b00100 ≠ 0) = x.getLsbD 2 := by decide
  exact place s.regs.causes

@[simp] theorem State.refuseByte_mem (s : State) (a : Address) : (s.refuseByte a).mem = s.mem := by
  unfold State.refuseByte
  split <;> rfl

@[simp] theorem State.refuseByte_port (s : State) (a : Address) : (s.refuseByte a).port = s.port := by
  unfold State.refuseByte
  split <;> rfl

/-- The first refused byte is recorded, and no other while its cause is set (01 R12). -/
theorem State.refuseByte_regs (s : State) (a : Address) :
    (s.refuseByte a).regs = if s.regs.causes.getLsbD 2 then s.regs
      else { s.regs with refusedAt := a, causes := s.regs.causes ||| 0b00100 } := by
  unfold State.refuseByte
  rw [s.causeSet_writeRefused]
  split <;> rfl

theorem State.offerByte_refused {s : State} {a : Address} {v : Byte} (h : s.accepts a v = false) :
    s.offerByte a v = (s.setPort (s.port.touch a)).refuseByte a := by
  simp [State.offerByte, h]

theorem State.offerByte_accepted_regs {s : State} {a : Address} {v : Byte} (h : s.accepts a v = true) :
    (s.offerByte a v).regs = s.regs := by
  simp [State.offerByte, h]

/-- Only a refused byte with the cause clear loads REFUSED_AT (01 R12). -/
theorem State.offerByte_loads_refusedAt {s : State} {a : Address} {v : Byte}
    (h : (s.offerByte a v).regs.refusedAt ≠ s.regs.refusedAt) :
    s.accepts a v = false ∧ s.regs.causes.getLsbD 2 = false ∧ (s.offerByte a v).regs.refusedAt = a := by
  cases accepted : s.accepts a v with
  | true => exact absurd (by rw [State.offerByte_accepted_regs accepted]) h
  | false =>
    rw [State.offerByte_refused accepted, State.refuseByte_regs] at h ⊢
    rw [State.setPort_regs] at h ⊢
    cases cause : s.regs.causes.getLsbD 2 with
    | true => exact absurd (by rw [cause, if_pos rfl]) h
    | false => exact ⟨rfl, rfl, by rw [if_neg Bool.false_ne_true]⟩

theorem State.memoryWriteByte_loads_refusedAt {s : State} {count : Nat} {v : Byte}
    (h : (s.memoryWriteByte count v).regs.refusedAt ≠ s.regs.refusedAt) :
    s.accepts s.port.pointer v = false ∧ s.regs.causes.getLsbD 2 = false ∧
      (s.memoryWriteByte count v).regs.refusedAt = s.port.pointer := by
  unfold State.memoryWriteByte at h ⊢
  split_ifs at h ⊢
  · exact absurd rfl h
  · exact absurd rfl h
  · exact State.offerByte_loads_refusedAt h

/-! ## The other bytes of the port (01 R1 to R6) -/

@[simp] theorem State.memoryReadByte_regs (s : State) (count : Nat) (mosi : Byte) :
    (s.memoryReadByte count mosi).regs = s.regs := by
  unfold State.memoryReadByte
  split_ifs <;> rfl

@[simp] theorem State.registerReadByte_regs (s : State) (count : Nat) (mosi : Byte) :
    (s.registerReadByte count mosi).regs = s.regs := by
  unfold State.registerReadByte
  split_ifs <;> rfl

@[simp] theorem State.idleByte_regs (s : State) : s.idleByte.regs = s.regs := by
  unfold State.idleByte
  split <;> simp

theorem when_beside {s t : State} (h : Beside s t) (b : Bool) (act : State → State)
    (hk : ∀ u, Beside s u → Beside s (act u)) : Beside s (if b then act t else t) := by
  split
  · exact hk t h
  · exact h

/-- An accepted configuration sets ENABLE and the snapshot, and no other register but causes (01 R16). -/
theorem acceptConfiguration_beside (s : State) (snap : Snapshot) :
    Beside (s.setRegs { s.regs with enable := true, snapshot := some snap }) (s.acceptConfiguration snap) :=
  have written := put_beside (.refl (s.setRegs { s.regs with enable := true, snapshot := some snap }))
    msConfigFault [codeNone]
  have timed := when_beside written (!s.configured) (fun u => u.setTracker { u.tracker with stopTimer := 0 })
    fun _ hu => setTracker_beside hu _
  have restarted := when_beside timed _ State.restartTracker fun _ hu => restartTracker_beside hu
  have resumed := forAll_beside restarted (fun e t => t.resumeEngine e)
    (fun e _ hu => resumeEngine_beside hu e) allEngines
  have activated := when_beside resumed (!s.configured) State.activateSupervisor
    fun _ hu => activateSupervisor_beside hu
  allocate_beside (setSweeper_beside activated _)

theorem enablePart_refusedAt (s : State) : s.enablePart.regs.refusedAt = s.regs.refusedAt := by
  unfold State.enablePart
  split
  · exact (raise_beside (put_beside (.refl s) msConfigFault _) causeConfigRejected).refusedAt
  · exact (acceptConfiguration_beside s _).refusedAt

/-- A disable clears ENABLE, and no other register but causes (01 R17). -/
theorem disablePart_beside (s : State) : Beside (s.setRegs { s.regs with enable := false }) s.disablePart :=
  setSweeper_beside (forAll_beside (.refl _) _ (fun e _ hu => holdEngine_beside hu e) _) _

theorem writeRunControl_refusedAt (s : State) {v : Half} (hv : v.getLsbD 2 = false) :
    (s.writeRunControl v).regs.refusedAt = s.regs.refusedAt := by
  have enabled : (if v.getLsbD 0 && !s.regs.enable then s.enablePart
      else if !v.getLsbD 0 && s.regs.enable then s.disablePart else s).regs.refusedAt = s.regs.refusedAt := by
    split_ifs
    · exact enablePart_refusedAt s
    · exact (disablePart_beside s).refusedAt
    · rfl
  unfold State.writeRunControl
  rw [hv, if_neg Bool.false_ne_true]
  exact (when_beside (.refl _) _ State.requestSweep fun _ hu => requestSweep_beside hu).refusedAt.trans enabled

/-- No register write but a soft reset changes REFUSED_AT (01 R15, R18, R19, 11 R194). -/
theorem writeRegister_refusedAt (s : State) {index : Byte} {v : Half} (hv : index = 1 → v.getLsbD 2 = false) :
    (s.writeRegister index v).regs.refusedAt = s.regs.refusedAt := by
  unfold State.writeRegister
  split_ifs with isRunControl
  · exact writeRunControl_refusedAt s (hv isRunControl)
  all_goals rfl

/-- A byte of a register write the row names changes no register, or it is the high byte of such a pair (01 R6). -/
theorem portByte_write_cases {s : State} {mosi : Byte} {index : Byte → Bool} {value : Half → Bool}
    (fits : s.port.isWriteByteOf mosi index value = true) :
    (s.portByte mosi).regs = s.regs ∨
      ∃ (u : State) (v : Half), u.regs = s.regs ∧ index s.port.regIndex = true ∧ value v = true ∧
        s.portByte mosi = u.writeRegister s.port.regIndex v := by
  unfold Port.isWriteByteOf at fits
  unfold State.portByte
  cases latched : s.port.command with
  | none => exact .inl rfl
  | some k =>
    cases k with
    | registerWrite =>
      simp only [latched] at fits
      dsimp only [State.registerWriteByte]
      split_ifs with first even
      · exact .inl rfl
      · exact .inl rfl
      · simp only [first, even, if_false, decide_false, Bool.false_or, Bool.and_eq_true] at fits
        obtain ⟨named, valued⟩ := fits
        refine .inr ⟨_, _, ?_, named, valued, rfl⟩
        rfl
    | _ => simp [latched] at fits

/-- A byte of a row whose pairs are no write of RUN_CONTROL with RESET at 1. -/
theorem portByte_write_refusedAt {s : State} {mosi : Byte} {index : Byte → Bool} {value : Half → Bool}
    (noReset : ∀ v, index 1 = true → value v = true → v.getLsbD 2 = false)
    (fits : s.port.isWriteByteOf mosi index value = true) : (s.portByte mosi).regs.refusedAt = s.regs.refusedAt := by
  obtain same | ⟨u, v, kept, named, valued, eq⟩ := portByte_write_cases fits
  · rw [same]
  · rw [eq, writeRegister_refusedAt u fun isRunControl => noReset v (isRunControl ▸ named) valued, kept]

/-- A byte of a read or of a void transaction changes no register (01 R2, R3, R6). -/
theorem portByte_read_refusedAt {s : State} {kind : Transaction} {mosi : Byte}
    (reads : kind ∈ [.memoryRead, .registerRead, .void]) (fits : s.port.isByteOf kind mosi = true) :
    (s.portByte mosi).regs.refusedAt = s.regs.refusedAt := by
  unfold Port.isByteOf at fits
  unfold State.portByte
  cases latched : s.port.command with
  | none => rfl
  | some k =>
    obtain rfl : k = kind := by simpa [latched] using fits
    cases k with
    | memoryRead => simp
    | registerRead => simp
    | void => rfl
    | _ => simp at reads

/-- A byte on the port keeps REFUSED_AT where a byte that the port takes does. -/
theorem clockByte_refusedAt {s : State} {fits : Bool} {mosi : Byte}
    (taken : fits = true → (s.portByte mosi).regs.refusedAt = s.regs.refusedAt) :
    (s.clockByte fits mosi).regs.refusedAt = s.regs.refusedAt := by
  unfold State.clockByte
  split_ifs with _ _ fit
  · rfl
  · exact taken fit
  · rfl
  · rw [State.idleByte_regs]

theorem clockByte_write_refusedAt (s : State) (mosi : Byte) {index : Byte → Bool} {value : Half → Bool}
    (noReset : ∀ v, index 1 = true → value v = true → v.getLsbD 2 = false) :
    (s.clockByte (s.port.isWriteByteOf mosi index value) mosi).regs.refusedAt = s.regs.refusedAt :=
  clockByte_refusedAt (portByte_write_refusedAt noReset)

theorem clockByte_read_refusedAt (s : State) (mosi : Byte) {kind : Transaction}
    (reads : kind ∈ [.memoryRead, .registerRead, .void]) :
    (s.clockByte (s.port.isByteOf kind mosi) mosi).regs.refusedAt = s.regs.refusedAt :=
  clockByte_refusedAt (portByte_read_refusedAt reads)

/-- A byte of a memory write changes REFUSED_AT only where it is refused with the cause clear (01 R12). -/
theorem clockByte_memoryWrite_loads_refusedAt {s : State} {mosi : Byte}
    (h : (s.clockByte (s.port.isByteOf .memoryWrite mosi) mosi).regs.refusedAt ≠ s.regs.refusedAt) :
    s.accepts s.port.pointer mosi = false ∧ s.regs.causes.getLsbD 2 = false ∧
      (s.clockByte (s.port.isByteOf .memoryWrite mosi) mosi).regs.refusedAt = s.port.pointer := by
  unfold State.clockByte at h ⊢
  split_ifs at h ⊢ with _ _ fits
  · exact absurd rfl h
  · unfold State.portByte at h ⊢
    cases latched : s.port.command with
    | none => simp only [latched] at h; exact absurd rfl h
    | some k =>
      obtain rfl : k = .memoryWrite := by simpa [Port.isByteOf, latched] using fits
      simp only [latched] at h ⊢
      exact State.memoryWriteByte_loads_refusedAt h
  · exact absurd rfl h
  · exact absurd (by rw [State.idleByte_regs]) h

/-! ## CS and the resets (01 R1, R14, R20, R21) -/

@[simp] theorem State.startTransaction_regs (s : State) : s.startTransaction.regs = s.regs := by
  unfold State.startTransaction
  dsimp only
  split_ifs <;> rfl

theorem takeShelfFixed_refusedAt (s : State) : s.takeShelfFixed.regs.refusedAt = s.regs.refusedAt := by
  unfold State.takeShelfFixed
  dsimp only
  split
  · exact (forAll_beside (setCache_beside (.refl _) _) _ (fun e _ hu => modEngine_beside hu e _) _).refusedAt
  · rfl

/-- The watched writes are passed on; of the registers only causes and shelfFixed may change (01 R14). -/
theorem endTransaction_refusedAt (s : State) : s.endTransaction.regs.refusedAt = s.regs.refusedAt := by
  have cancelled := forAll_beside (.refl s) (fun k t => if s.port.cancelNotes[k.val] then t.passCancel k else t)
    (fun k _ hu => when_beside hu _ (·.passCancel k) fun _ hu => passCancel_beside hu k) allCards
  have noticed := forAll_beside cancelled (fun n t => if s.port.setupNotes[n.val] then t.setupNotice n else t)
    (fun n _ hu => when_beside hu _ (·.setupNotice n) fun _ hu => setupNotice_beside hu n) allStations
  have shelf (b : Bool) (u : State) : (if b then u.takeShelfFixed else u).regs.refusedAt = u.regs.refusedAt := by
    split
    · exact takeShelfFixed_refusedAt u
    · rfl
  have timed (u : State) := when_beside (.refl u) s.port.periodNote State.noticePeriod
    fun _ hu => noticePeriod_beside hu
  have reread (u : State) := forAll_beside (timed u) (fun e t => t.modEngine e Engine.afterTransaction)
    (fun e _ hu => modEngine_beside hu e _) allEngines
  exact (reread _).refusedAt.trans ((shelf _ _).trans noticed.refusedAt)

theorem releaseSelect_refusedAt (s : State) : s.releaseSelect.regs.refusedAt = s.regs.refusedAt := by
  unfold State.releaseSelect
  dsimp only
  split_ifs
  · rfl
  · rfl
  · exact endTransaction_refusedAt _
  · rfl

@[simp] theorem State.assertReset_regs (s : State) (low : Nat) : (s.assertReset low).regs = s.regs := by
  unfold State.assertReset
  dsimp only
  split
  · exact s.countFree_regs _
  · exact s.countFree_regs _

theorem resetRecord_beside {s t : State} (h : Beside s t) (n : StationId) : Beside s (t.resetRecord n) :=
  forAll_beside (put_beside h _ _) _ (fun _ _ hu => put_beside (put_beside (put_beside hu _ _) _ _) _ _) _

theorem recoverCard_beside {s t : State} (h : Beside s t) (k : CardId) : Beside s (t.recoverCard k) := by
  unfold State.recoverCard
  split
  · exact raiseIf_beside (put_beside (put_beside (blankCard_beside h k) _ _) _ _) _ _
  · exact h

/-- The end of a reset: the registers take their reset values, then only causes may be set (01 R20, 02 R43). -/
theorem finishReset_beside (s : State) : Beside s.resetBlocks s.finishReset :=
  have rewritten := forAll_beside (put_beside (.refl s.resetBlocks) _ _) (fun n t => t.resetRecord n)
    (fun n _ hu => resetRecord_beside hu n) allStations
  forAll_beside rewritten _ (fun k _ hu => recoverCard_beside hu k) _

theorem finishReset_refusedAt (s : State) : s.finishReset.regs.refusedAt = 0 := (finishReset_beside s).refusedAt

theorem softReset_refusedAt (s : State) : s.softReset.regs.refusedAt = 0 := by
  unfold State.softReset
  rw [State.setPort_regs]
  exact finishReset_refusedAt s

/-- The release of RESET ends the pin reset, if one lasts, unless the power-on reset lasts on (01 R20, R21). -/
theorem pinResetEnd_refusedAt (s : State) :
    (if s.pins.resetLow then s.releaseReset else s).regs.refusedAt = s.regs.refusedAt ∨
      (if s.pins.resetLow then s.releaseReset else s).regs.refusedAt = 0 := by
  unfold State.releaseReset
  dsimp only
  split_ifs
  · exact .inl rfl
  · exact .inr (finishReset_refusedAt _)
  · exact .inl rfl

theorem writeRegister_refusedAt_cases (s : State) (index : Byte) (v : Half) :
    (s.writeRegister index v).regs.refusedAt = s.regs.refusedAt ∨ (s.writeRegister index v).regs.refusedAt = 0 := by
  by_cases reset : index = 1 ∧ v.getLsbD 2 = true
  · obtain ⟨rfl, bit⟩ := reset
    refine .inr ?_
    rw [State.writeRegister, if_pos rfl, State.writeRunControl, if_pos bit, softReset_refusedAt]
  · exact .inl (writeRegister_refusedAt s fun isRunControl =>
      Bool.eq_false_of_not_eq_true fun bit => reset ⟨isRunControl, bit⟩)

/-- A byte of a register write keeps REFUSED_AT or, with a soft reset, clears it. -/
theorem clockByte_write_refusedAt_cases (s : State) (mosi : Byte) (index : Byte → Bool) (value : Half → Bool) :
    (s.clockByte (s.port.isWriteByteOf mosi index value) mosi).regs.refusedAt = s.regs.refusedAt ∨
      (s.clockByte (s.port.isWriteByteOf mosi index value) mosi).regs.refusedAt = 0 := by
  unfold State.clockByte
  split_ifs with _ _ fits
  · exact .inl rfl
  · obtain same | ⟨u, v, kept, _, _, eq⟩ := portByte_write_cases fits
    · exact .inl (by rw [same])
    · rw [eq, ← kept]
      exact writeRegister_refusedAt_cases u _ v
  · exact .inl rfl
  · exact .inl (by rw [State.idleByte_regs])

/-! ## O15 -/

/-- The command may change REFUSED_AT: a byte of a memory write, or a reset (01 R12, R20, R21). -/
def mayChangeRefusedAt : Instr → Bool
  | .memoryWrite _ | .softReset _ | .pinResetEnd | .powerOnReset => true
  | _ => false

/-- No other command changes REFUSED_AT. -/
theorem exec_keeps_refusedAt {c : Instr} (hc : mayChangeRefusedAt c = false) {s t : State} (h : exec c s = .next t) :
    t.regs.refusedAt = s.regs.refusedAt := by
  by_cases event : blockEvent c = true
  · exact (exec_blockEvent_sameRegs event s t h).refusedAt
  cases c with
  | transactionStart => cases h; rw [State.startTransaction_regs]
  | memoryRead b => cases h; exact clockByte_read_refusedAt s b (by simp)
  | registerRead b => cases h; exact clockByte_read_refusedAt s b (by simp)
  | voidTransaction b => cases h; exact clockByte_read_refusedAt s b (by simp)
  | enable b echo =>
    cases h
    unfold State.whenever
    split_ifs
    · rfl
    · exact clockByte_write_refusedAt (s.sampleEcho echo) b (by simp +contextual)
    · rfl
  | disable b => cases h; exact clockByte_write_refusedAt s b (by simp +contextual)
  | sweep b => cases h; exact clockByte_write_refusedAt s b (by simp +contextual)
  | attentionClear b => cases h; exact clockByte_write_refusedAt s b (by simp)
  | attentionMaskWrite b => cases h; exact clockByte_write_refusedAt s b (by simp)
  | registerWriteIgnored b => cases h; exact clockByte_write_refusedAt s b (by simp)
  | transactionEnd echo =>
    cases h
    split
    · exact releaseSelect_refusedAt s
    · exact releaseSelect_refusedAt (s.sampleEcho echo)
  | pinResetAssert low =>
    cases h
    split
    · rfl
    · rw [State.assertReset_regs]
  | memoryWrite | softReset | pinResetEnd | powerOnReset => exact absurd hc (Bool.false_ne_true ∘ Eq.symm)
  | _ => exact absurd rfl event

/-- The port takes the byte of a memory write that follows the two bytes of the address (01 R1, R3 to R5). -/
theorem exec_memoryWrite_data {s : State} (takes : s.takes .memoryWrite) (count : 3 ≤ s.port.count) (b : Byte) :
    exec (.memoryWrite b) s =
      .next ((s.setPort { s.port.counted 0 with pointer := s.port.pointer + 1 }).offerByte s.port.pointer b) := by
  obtain ⟨running, selected, taking, latched⟩ := takes
  have fits : s.port.isByteOf .memoryWrite b = true := by simp [Port.isByteOf, latched]
  have past : s.port.count ≠ 1 ∧ s.port.count ≠ 2 := by omega
  change Host.Outcome.next (s.clockByte (s.port.isByteOf .memoryWrite b) b) = _
  simp [State.clockByte, running, selected, taking, fits, State.portByte, latched, State.memoryWriteByte, past,
    Port.counted, State.setPort]

/-- Settles O15: the refused byte by the equation of a data byte, the rest by what each command can do to REFUSED_AT. -/
theorem refusedByteIsRecordedOnce : Obligations.RefusedByteIsRecordedOnce := by
  unfold Obligations.RefusedByteIsRecordedOnce
  constructor
  · intro s b takes count refused
    refine ⟨_, exec_memoryWrite_data takes count b, ?_⟩
    rw [State.offerByte_refused (by rwa [State.accepts_setPort])]
    refine ⟨State.refuseByte_mem _ _, ?_, State.refuseByte_regs _ _⟩
    rw [State.refuseByte_port]
    exact Port.touch_pointer _ _
  · intro c s t h changed
    by_cases may : mayChangeRefusedAt c = true
    · cases c with
      | memoryWrite b =>
        cases h
        obtain ⟨refused, clear, loaded⟩ := clockByte_memoryWrite_loads_refusedAt changed
        exact .inl ⟨⟨b, rfl, refused⟩, clear, loaded⟩
      | softReset b =>
        cases h
        exact .inr ⟨.inl ⟨b, rfl⟩, (clockByte_write_refusedAt_cases s b _ _).resolve_left changed⟩
      | pinResetEnd =>
        cases h
        exact .inr ⟨.inr (.inl rfl), (pinResetEnd_refusedAt s).resolve_left changed⟩
      | powerOnReset => cases h; exact .inr ⟨.inr (.inr rfl), rfl⟩
      | _ => exact absurd may Bool.false_ne_true
    · exact absurd (exec_keeps_refusedAt (Bool.eq_false_of_not_eq_true may) h) changed

end Sys2Proof.Machine
end

section
/-! The signature arithmetic: the tolerance of a position (09 R166), the score and the worst of a card (09 R168). -/

namespace Sys2Proof.Machine

/-! ## Tolerance -/

/-- The two fields of a validated profile that the tolerance is made of (08 R146). -/
theorem Profile.tolerance_fields_of_inRange {p : Profile} (h : p.inRange = true) :
    p.tolPpm.toNat ≤ 200000 ∧ 1 ≤ p.tolMin.toNat := by
  simp only [Profile.inRange, Bool.and_eq_true, decide_eq_true_eq] at h
  omega

/-- The largest proportional part: 200,000 parts per million of an interval of 65535 ticks. -/
theorem proportional_le {x ppm : Nat} (hx : x ≤ 65535) (hppm : ppm ≤ 200000) : x * ppm / 1000000 ≤ 13107 :=
  calc x * ppm / 1000000 ≤ 65535 * 200000 / 1000000 := Nat.div_le_div_right (Nat.mul_le_mul hx hppm)
    _ = 13107 := by norm_num

theorem one_le_toleranceOf {p : Profile} (h : p.inRange = true) (x : Nat) : 1 ≤ toleranceOf p x :=
  le_max_of_le_right (Profile.tolerance_fields_of_inRange h).2

theorem toleranceOf_le {p : Profile} (h : p.inRange = true) {x : Nat} (hx : x ≤ 65535) : toleranceOf p x ≤ 13107 := by
  have ppm := (Profile.tolerance_fields_of_inRange h).1
  have byte : p.tolMin.toNat < 256 := p.tolMin.isLt
  exact max_le (proportional_le hx ppm) (by omega)

/-- Settles O54, by a bound of each of the two parts of the maximum. -/
theorem toleranceOfAPosition : Obligations.ToleranceOfAPosition := by
  unfold Obligations.ToleranceOfAPosition
  intro p x inRange _ hx
  exact ⟨rfl, one_le_toleranceOf inRange x, toleranceOf_le inRange hx⟩

/-! ## Score and worst -/

section
variable {qs : List Nat}

/-- Folding from 0 is the list's own maximum. -/
theorem worstOf_eq_max (h : qs ≠ []) : worstOf qs = qs.max h := by
  rw [worstOf, List.foldl_max_eq_max h, Nat.zero_max]

theorem worstOf_mem (h : qs ≠ []) : worstOf qs ∈ qs := worstOf_eq_max h ▸ List.max_mem h

theorem le_worstOf {q : Nat} (h : q ∈ qs) : q ≤ worstOf qs :=
  worstOf_eq_max (List.ne_nil_of_mem h) ▸ List.le_max_of_mem h

theorem scoreOf_le_worstOf (h : qs ≠ []) : scoreOf qs qs.length ≤ worstOf qs :=
  worstOf_eq_max h ▸ List.sum_div_length_le_max_nat h

@[simp] theorem scoreOf_singleton (q : Nat) : scoreOf [q] 1 = q := by simp [scoreOf]

@[simp] theorem worstOf_singleton (q : Nat) : worstOf [q] = q := Nat.zero_max q

/-- The score is the mean rounded down. -/
theorem scoreOf_mul_le (qs : List Nat) (n : Nat) : scoreOf qs n * n ≤ qs.sum := Nat.div_mul_le_self _ _

theorem lt_scoreOf_succ_mul (qs : List Nat) {n : Nat} (h : 0 < n) : qs.sum < (scoreOf qs n + 1) * n :=
  Nat.lt_mul_of_div_lt (Nat.lt_succ_self _) h

/-- Eight saturated deviations sum to 32760 (09 R168). -/
theorem sum_deviations_le (short : qs.length ≤ 8) (saturated : ∀ q ∈ qs, q ≤ 4095) : qs.sum ≤ 32760 :=
  calc qs.sum ≤ qs.length * 4095 := List.sum_le_card_nsmul qs 4095 saturated
    _ ≤ 8 * 4095 := Nat.mul_le_mul_right _ short

end

/-- Settles O55: the worst is the list's maximum, which is a member and bounds the mean. -/
theorem scoreAndWorst : Obligations.ScoreAndWorst := by
  unfold Obligations.ScoreAndWorst
  intro qs pos short saturated
  have nonempty : qs ≠ [] := List.ne_nil_of_length_pos pos
  refine ⟨scoreOf_mul_le qs _, lt_scoreOf_succ_mul qs pos, worstOf_mem nonempty, fun _ => le_worstOf,
    scoreOf_le_worstOf nonempty, saturated _ (worstOf_mem nonempty), sum_deviations_le short saturated, ?_⟩
  intro single
  obtain ⟨q, rfl⟩ := List.length_eq_one_iff.mp single
  rw [scoreOf_singleton, worstOf_singleton]

end Sys2Proof.Machine
end

section
/-! What every command can do, said once: the inversion of exec, from which the whole-machine rules are derived. -/

namespace Sys2Proof.Machine

/-! ## The front: the port, the levels of the pins and the counter of the free values -/

/-- State u comes from state s by the port, the pins' levels and the counter of the free values only, and no reset begins
or ends. -/
structure FrontOnly (s u : State) : Prop where
  rest : u = { s with port := u.port, pins := u.pins, freeReads := u.freeReads }
  resetLow : u.pins.resetLow = s.pins.resetLow
  por : u.pins.por = s.pins.por

namespace FrontOnly
variable {s u t : State}

theorem refl (s : State) : FrontOnly s s := ⟨rfl, rfl, rfl⟩

theorem trans (h : FrontOnly s u) (k : FrontOnly u t) : FrontOnly s t :=
  ⟨k.rest.trans (by rw [h.rest]), k.resetLow.trans h.resetLow, k.por.trans h.por⟩

theorem inReset (h : FrontOnly s u) : u.inReset = s.inReset := by
  simp only [State.inReset, h.resetLow, h.por]

theorem mem (h : FrontOnly s u) : u.mem = s.mem := by rw [h.rest]
theorem regs (h : FrontOnly s u) : u.regs = s.regs := by rw [h.rest]
theorem pending (h : FrontOnly s u) : u.pending = s.pending := by rw [h.rest]
theorem tracker (h : FrontOnly s u) : u.tracker = s.tracker := by rw [h.rest]
theorem stations (h : FrontOnly s u) : u.stations = s.stations := by rw [h.rest]
theorem holds (h : FrontOnly s u) : u.holds = s.holds := by rw [h.rest]
theorem engines (h : FrontOnly s u) : u.engines = s.engines := by rw [h.rest]
theorem crosspoint (h : FrontOnly s u) : u.crosspoint = s.crosspoint := by rw [h.rest]

theorem setPort (h : FrontOnly s u) (p : Port) : FrontOnly s (u.setPort p) :=
  h.trans ⟨rfl, rfl, rfl⟩

theorem sampleEcho (h : FrontOnly s u) (echo : Levels) : FrontOnly s (u.sampleEcho echo) :=
  h.trans ⟨rfl, rfl, rfl⟩

theorem countFree (h : FrontOnly s u) (used : Bool) : FrontOnly s (u.countFree used) := by
  refine h.trans ?_
  unfold State.countFree
  split <;> exact ⟨rfl, rfl, rfl⟩

/-- A level that leaves the pins of the resets alone. -/
theorem setPins (h : FrontOnly s u) {p : Pins} (low : p.resetLow = u.pins.resetLow) (por : p.por = u.pins.por) :
    FrontOnly s (u.setPins p) :=
  h.trans ⟨rfl, low, por⟩

theorem setEchoLevel (h : FrontOnly s u) (e : EngineId) (high : Bool) : FrontOnly s (u.setEchoLevel e high) := by
  unfold State.setEchoLevel
  split
  · exact h.sampleEcho _
  · exact h

theorem setRefLevel (h : FrontOnly s u) (e : EngineId) (high : Bool) : FrontOnly s (u.setRefLevel e high) :=
  h.setPins rfl rfl

theorem synchronise (h : FrontOnly s u) (taken : Bool) (stood : Nat) {keep : Pins → Pins}
    (low : ∀ p, (keep p).resetLow = p.resetLow) (por : ∀ p, (keep p).por = p.por) :
    FrontOnly s (u.synchronise taken stood keep) := by
  unfold State.synchronise
  split
  · exact (h.countFree _).setPins (low _) (por _)
  · exact h.countFree _

theorem startTransaction (s : State) : FrontOnly s s.startTransaction := by
  unfold State.startTransaction
  dsimp only
  split_ifs <;> exact ⟨rfl, rfl, rfl⟩

theorem idleByte (h : FrontOnly s u) : FrontOnly s u.idleByte := by
  unfold State.idleByte
  split
  · exact h.setPort _
  · exact (h.setPort _).countFree _

theorem memoryReadByte (h : FrontOnly s u) (count : Nat) (mosi : Byte) :
    FrontOnly s (u.memoryReadByte count mosi) := by
  unfold State.memoryReadByte
  split_ifs <;> exact h.setPort _

theorem registerReadByte (h : FrontOnly s u) (count : Nat) (mosi : Byte) :
    FrontOnly s (u.registerReadByte count mosi) := by
  unfold State.registerReadByte
  split_ifs <;> exact h.setPort _

end FrontOnly

/-! ## The inversion -/

/-- Every step of the blocks behind the port, on a state whose front has taken the command's levels. -/
inductive BlockStep : State → State → Prop where
  -- the sweeper and the list
  | requestSweep (s : State) : BlockStep s s.requestSweep
  | expireSweepTimer (s : State) (period : Half) : BlockStep s (s.expireSweepTimer period)
  | visitCard (s : State) (k : CardId) : BlockStep s (s.visitCard k)
  | endStray (s : State) (k : CardId) : BlockStep s (s.endStray k)
  | intakeVisit (s : State) (k : CardId) (bytes : List Byte) : BlockStep s (s.intakeVisit k bytes)
  | takeNotice (s : State) (rest : List Notice) (m : Notice) : BlockStep s ((s.setNotices rest).takeNotice m)
  -- the Supervisor
  | sample (s : State) (filter : Nat) (pres : Levels) :
      BlockStep s (forAll allStations (fun n t => t.sampleStation filter pres n) s)
  | takeFit (s : State) (n : StationId) : BlockStep s (s.takeFit n)
  | takeRemoval (s : State) (n : StationId) : BlockStep s (s.takeRemoval n)
  | takeFault (s : State) (e : EngineId) (n : StationId) (cause : FaultCause) :
      BlockStep s ((s.modEngine e fun g => { g with report := none }).takeFault n cause)
  | recheck (s : State) (n : StationId) :
      BlockStep s (s.modStation n fun t => { t with recheck := some Config.recheckPeriod })
  | clearFault (s : State) (n : StationId) : BlockStep s (s.clearFault n)
  -- the tracker
  | takeMclk {s : State} {snap : Snapshot} (configured : s.regs.snapshot = some snap) : BlockStep s (s.takeMclk snap.ppc)
  | takeMidx {s : State} {snap : Snapshot} (configured : s.regs.snapshot = some snap) : BlockStep s (s.takeMidx snap.ppc)
  | takeStopTimeout (s : State) (timeout : Byte) : BlockStep s (s.takeStopTimeout timeout)
  | expireGate {s : State} {e : EngineId} {w : Work} (gating : (s.engine e).phase = .gating w) :
      BlockStep s (s.expireGate e w)
  -- the engines
  | endPulse {s : State} {e : EngineId} (pulsing : (s.engine e).phase = .pulsing) : BlockStep s (s.endPulse e)
  | modStage (s : State) (e : EngineId) {act : Engine → Engine}
      (keeps : ∀ g, (act g).phase = g.phase ∧ (act g).job = g.job) : BlockStep s (s.modEngine e act)
  | closeWindow {s : State} {e : EngineId} (listening : (s.engine e).phase = .listening) (n : Nat) :
      BlockStep s (s.closeWindow e n)
  | endSettle {s : State} {e : EngineId} (settling : (s.engine e).phase = .settling) : BlockStep s (s.toGating e .round)
  | endLevel {s : State} {e : EngineId} (reading : (s.engine e).phase = .reading) : BlockStep s (s.endLevel e)
  | endTail {s : State} {e : EngineId} (reading : (s.engine e).phase = .reading) : BlockStep s (s.endTail e)
  | readShelf {s : State} {e : EngineId} (looking : (s.engine e).phase = .computing .lookup) : BlockStep s (s.readShelf e)
  | endScoring {s : State} {e : EngineId} (scoring : (s.engine e).phase = .computing .scoring) (p : Profile) :
      BlockStep s (s.endScoring e p)
  | writeResult {s : State} {e : EngineId} (writing : (s.engine e).phase = .writing .result) (k : CardId) (act : Act) :
      BlockStep s ((s.writeResult k (s.engine e)).setPhase e (.writing act))
  | deliver {s : State} {e : EngineId} (writing : (s.engine e).phase = .writing .delivery) (n : StationId) (d : Parcel) :
      BlockStep s (s.deliver e n d)
  | endOnEngine {s : State} {e : EngineId} {j : Job} (busy : (s.engine e).job = some j) : BlockStep s (s.endOnEngine e j)
  | stopReaches (s : State) (e : EngineId) (stop : Stop) : BlockStep s (s.stopReaches e stop)
  | endStopped {s : State} {e : EngineId} {j : Job} (busy : (s.engine e).job = some j) : BlockStep s (s.endStopped e j)
  | overload {s : State} {e : EngineId} {n : StationId} (driving : s.driver n = some e) :
      BlockStep s (((s.tripDriver n).faultStop e .stimOverload).releaseDriver n)

/-- Every step of a command: state t follows state s by command c. Each step but those of the resets acts on a state u
whose front has taken the command's levels and byte; a block's line may take its level after the block. -/
inductive Does : Instr → State → State → Prop where
  | front {c s t} (f : FrontOnly s t) : Does c s t
  | block {c s u w t} (f : FrontOnly s u) (running : u.inReset = false) (h : BlockStep u w) (after : FrontOnly w t) :
      Does c s t
  -- the port
  | offers {b s u} (f : FrontOnly s u) : Does (.memoryWrite b) s (u.offerByte s.port.pointer b)
  | enables {b echo s u} (f : FrontOnly s u) (running : u.inReset = false) (off : u.regs.enable = false)
      (sweep : Bool) :
      Does (.enable b echo) s
        (if sweep && u.enablePart.regs.enable then u.enablePart.requestSweep else u.enablePart)
  | disables {b s u} (f : FrontOnly s u) (running : u.inReset = false) : Does (.disable b) s u.disablePart
  | resetsSoft {b s u} (f : FrontOnly s u) (running : u.inReset = false) : Does (.softReset b) s u.softReset
  | clears {c s u} (f : FrontOnly s u) (v : Half) : Does c s (u.clearAttention v)
  | masks {b s u} (f : FrontOnly s u) (v : Half) : Does (.attentionMaskWrite b) s (u.writeMask v)
  | ends {echo s u} (f : FrontOnly s u) (running : u.inReset = false) : Does (.transactionEnd echo) s u.endTransaction
  -- the resets
  | resets {low s} : Does (.pinResetAssert low) s (s.assertReset low)
  | releases {s} (low : s.pins.resetLow = true) : Does .pinResetEnd s s.releaseReset
  | powersOn {s} : Does .powerOnReset s s.powerOn

/-- The command answers a next state, by a step of these. -/
def Answers (c : Instr) (s : State) (o : Host.Outcome State Fault Refusal) : Prop := ∃ t, o = .next t ∧ Does c s t

section
variable {c : Instr} {s u : State}

theorem answers_self : Answers c s (.next s) := ⟨s, rfl, .front (.refl s)⟩

/-- What is done on state u while no reset lasts and where it can come. -/
theorem answers_whenever {act : State → State} {possible : Bool} (f : FrontOnly s u)
    (h : u.inReset = false → possible = true → Does c s (act u)) : Answers c s (.next (u.whenever possible act)) := by
  refine ⟨_, rfl, ?_⟩
  unfold State.whenever
  split_ifs with reset can
  · exact .front f
  · exact h (Bool.eq_false_of_not_eq_true reset) can
  · exact .front f

/-- A block acts on state u while no reset lasts and where its event can come. -/
theorem answers_block {act : State → State} {possible : Bool} (f : FrontOnly s u)
    (h : possible = true → BlockStep u (act u)) : Answers c s (.next (u.whenever possible act)) :=
  answers_whenever f fun running can => .block f running (h can) (.refl _)

/-- A block acts where its event can come, after the ECHO levels of the moment are sampled. -/
theorem answers_sampled {possible : Bool} (echo : Levels) (act : State → State)
    (h : possible = true → BlockStep (s.sampleEcho echo) (act (s.sampleEcho echo))) :
    Answers c s (.next (s.whenever possible fun t => act (t.sampleEcho echo))) :=
  answers_whenever (.refl s) fun running can => .block ((FrontOnly.refl s).sampleEcho echo) running (h can) (.refl _)

/-- A byte on the port does what a byte that the port takes does, or changes the front only. -/
theorem clockByte_does {fits : Bool} {mosi : Byte} (f : FrontOnly s u)
    (h : u.inReset = false → fits = true → Does c s (u.portByte mosi)) : Does c s (u.clockByte fits mosi) := by
  unfold State.clockByte
  split_ifs with ignored taking fit
  · exact .front f
  · simp only [Bool.or_eq_true, not_or, Bool.not_eq_true] at ignored
    exact h ignored.1 fit
  · exact .front f
  · exact .front f.idleByte

/-! ## Bytes of the port -/

/-- A byte of a read or of a void transaction changes the front only (01 R2, R3, R6). -/
theorem portByte_read_front {kind : Transaction} {mosi : Byte} (f : FrontOnly s u)
    (reads : kind ∈ [.memoryRead, .registerRead, .void]) (fits : u.port.isByteOf kind mosi = true) :
    FrontOnly s (u.portByte mosi) := by
  unfold Port.isByteOf at fits
  unfold State.portByte
  cases latched : u.port.command with
  | none => exact (f.setPort _).setPort _
  | some k =>
    obtain rfl : k = kind := by simpa [latched] using fits
    cases k with
    | memoryRead => exact (f.setPort _).memoryReadByte _ _
    | registerRead => exact (f.setPort _).registerReadByte _ _
    | void => exact (f.setPort _).setPort _
    | _ => simp at reads

/-- A byte of a memory write changes the front only, or is offered to exchange memory (01 R4). -/
theorem portByte_memoryWrite_does {mosi : Byte} (f : FrontOnly s s)
    (fits : s.port.isByteOf .memoryWrite mosi = true) : Does (.memoryWrite mosi) s (s.portByte mosi) := by
  unfold Port.isByteOf at fits
  unfold State.portByte
  cases latched : s.port.command with
  | none => exact .front ((f.setPort _).setPort _)
  | some k =>
    obtain rfl : k = .memoryWrite := by simpa [latched] using fits
    dsimp only [State.memoryWriteByte]
    split_ifs
    · exact .front ((f.setPort _).setPort _)
    · exact .front ((f.setPort _).setPort _)
    · exact .offers ((f.setPort _).setPort _)

/-- A byte of a register write of a row changes the front only, or it is the high byte of a pair the row names (01 R6). -/
theorem portByte_write_does {mosi : Byte} {index : Byte → Bool} {value : Half → Bool} (f : FrontOnly s u)
    (fits : u.port.isWriteByteOf mosi index value = true)
    (h : ∀ (w : State) (i : Byte) (v : Half), FrontOnly u w → index i = true → value v = true →
      Does c s (w.writeRegister i v)) : Does c s (u.portByte mosi) := by
  unfold Port.isWriteByteOf at fits
  unfold State.portByte
  cases latched : u.port.command with
  | none => exact .front ((f.setPort _).setPort _)
  | some k =>
    cases k with
    | registerWrite =>
      simp only [latched] at fits
      dsimp only [State.registerWriteByte]
      split_ifs with first even
      · exact .front ((f.setPort _).setPort _)
      · exact .front ((f.setPort _).setPort _)
      · simp only [first, even, if_false, decide_false, Bool.false_or, Bool.and_eq_true] at fits
        exact h _ _ _ (((FrontOnly.refl u).setPort _).setPort _) fits.1 fits.2
    | _ => simp [latched] at fits

/-! ## Register writes (01 R15 to R19) -/

/-- A write of RUN_CONTROL with ENABLE at 1 and RESET at 0. -/
theorem writeRunControl_enable_does {b : Byte} {echo : Levels} {v : Half} (f : FrontOnly s u)
    (running : u.inReset = false) (noReset : v.getLsbD 2 = false) (on : v.getLsbD 0 = true) :
    Does (.enable b echo) s (u.writeRunControl v) := by
  unfold State.writeRunControl
  simp only [noReset, on, Bool.false_eq_true, if_false, Bool.true_and, Bool.not_true, Bool.false_and]
  cases enabled : u.regs.enable with
  | true =>
    simp only [Bool.not_true, Bool.false_eq_true, if_false]
    split_ifs
    · exact .block f running (.requestSweep _) (.refl _)
    · exact .front f
  | false => exact .enables f running enabled (v.getLsbD 1)

/-- A write of RUN_CONTROL with RESET at 0, ENABLE and SWEEP at 1, while ENABLE reads 1. -/
theorem writeRunControl_sweep_does {v : Half} (f : FrontOnly s u) (running : u.inReset = false)
    (noReset : v.getLsbD 2 = false) (enabled : u.regs.enable = true) (on : v.getLsbD 0 = true) :
    Does c s (u.writeRunControl v) := by
  unfold State.writeRunControl
  simp only [noReset, on, enabled, Bool.false_eq_true, if_false, Bool.not_true, Bool.and_false, Bool.false_and]
  split_ifs
  · exact .block f running (.requestSweep _) (.refl _)
  · exact .front f

@[simp] theorem disablePart_enable (s : State) : s.disablePart.regs.enable = false := by
  rw [(disablePart_beside s).regs]; rfl

/-- A write of RUN_CONTROL with RESET and ENABLE at 0: a sweep asked for is not made (01 R15). -/
theorem writeRunControl_disable_does {b : Byte} {v : Half} (f : FrontOnly s u) (running : u.inReset = false)
    (noReset : v.getLsbD 2 = false) (off : v.getLsbD 0 = false) :
    Does (.disable b) s (u.writeRunControl v) := by
  unfold State.writeRunControl
  simp only [noReset, off, Bool.false_eq_true, if_false, Bool.false_and, Bool.not_false, Bool.true_and]
  cases enabled : u.regs.enable with
  | true => simpa using Does.disables f running
  | false => simpa [enabled] using Does.front f

end

/-! ## Every command -/

theorem execMclkEdge_answers (rising : Bool) (echo : Levels) (s : State) (stood : Nat) {c : Instr} :
    Answers c s (execMclkEdge rising echo s stood) := by
  refine answers_whenever ((FrontOnly.refl s).synchronise _ _ (fun _ => rfl) fun _ => rfl) fun running _ => ?_
  have f := ((FrontOnly.refl s).synchronise (s.takesTransition s.pins.mclk rising stood) stood
    (keep := fun p => { p with mclk := rising }) (fun _ => rfl) fun _ => rfl).sampleEcho echo
  dsimp only
  split
  · rename_i snap configured
    split
    · exact .block f running (.takeMclk configured) (.refl _)
    · exact .front f
  · exact .front f

theorem execMidxEdge_answers (rising : Bool) (echo : Levels) (s : State) (stood : Nat) {c : Instr} :
    Answers c s (execMidxEdge rising echo s stood) := by
  refine answers_whenever ((FrontOnly.refl s).synchronise _ _ (fun _ => rfl) fun _ => rfl) fun running _ => ?_
  have f := ((FrontOnly.refl s).synchronise (s.takesTransition s.pins.midx rising stood) stood
    (keep := fun p => { p with midx := rising }) (fun _ => rfl) fun _ => rfl).sampleEcho echo
  dsimp only
  split
  · rename_i snap configured
    split
    · exact .block f running (.takeMidx configured) (.refl _)
    · exact .front f
  · exact .front f

theorem execPresenceSample_answers (pres : Levels) (s : State) {c : Instr} :
    Answers c s (execPresenceSample pres s) := by
  refine answers_whenever (.refl s) fun running _ => ?_
  have f : FrontOnly s (s.setPins { s.pins with pres := pres }) := (FrontOnly.refl s).setPins rfl rfl
  dsimp only
  split
  · exact .block f running (.sample _ _ _) (.refl _)
  · exact .front f

theorem execRecheckExpiry_answers (n : StationId) (echo : Levels) (s : State) {c : Instr} :
    Answers c s (execRecheckExpiry n echo s) := by
  refine answers_whenever (.refl s) fun running _ => ?_
  have f := (FrontOnly.refl s).sampleEcho echo
  dsimp only
  split
  · exact .block f running (.recheck _ n) (.refl _)
  · exact .block f running (.clearFault _ n) (.refl _)

theorem decideIn_answers (s : State) (e : EngineId) (p : FramePhase) (x : FrameCause) (low : Option Nat)
    (listen : Engine → Nat) {c : Instr} : Answers c s (.next (s.decideIn e p x low listen)) :=
  answers_block (.refl s) fun _ => .modStage s e fun _ => ⟨rfl, rfl⟩

theorem answerEdge_does {c : Instr} {s : State} (running : s.inReset = false) (e : EngineId) (high : Bool)
    (f : Option Frame) : Does c s (s.answerEdge e high f) := by
  unfold State.answerEdge
  split
  · exact .block (.refl s) running (.modStage s e (act := fun g => { g with frame := _, echoBefore := !high })
      fun _ => ⟨rfl, rfl⟩) ((FrontOnly.refl _).setEchoLevel e high)
  · exact .front ((FrontOnly.refl s).setEchoLevel e high)

/-- What the stage of a window takes leaves the engine's state and place (06 R108). -/
theorem Engine.reach_keeps (g : Engine) (t : Nat) (echo ref : Bool) :
    (g.reach t echo ref).phase = g.phase ∧ (g.reach t echo ref).job = g.job := by
  unfold Engine.reach Engine.resample
  dsimp only
  split <;> exact ⟨rfl, rfl⟩

theorem windowEdge_does {c : Instr} {s t : State} (running : s.inReset = false) (e : EngineId) (x : Transition)
    (before : Engine → Bool) (take : Capture → Nat → Capture)
    (after : FrontOnly (if (s.engine e).takesEdge x.tick then s.windowEdge e x.tick.toNat x.rising before take else s)
      t) : Does c s t := by
  split at after
  · refine .block (.refl s) running (.modStage s e fun g => ?_) after
    dsimp only
    split <;> exact g.reach_keeps _ _ _
  · exact .front after

theorem State.decoderIn_reading {s : State} {e : EngineId} {p : FramePhase} (h : s.decoderIn e p = true) :
    (s.engine e).phase = .reading := by
  simp only [State.decoderIn, Bool.and_eq_true, decide_eq_true_eq] at h
  exact h.1

theorem State.lookupAt_looking {s : State} {e : EngineId} {r : Reread} (h : s.lookupAt e r = true) :
    (s.engine e).phase = .computing .lookup := by
  simp only [State.lookupAt, Bool.and_eq_true, decide_eq_true_eq] at h
  exact h.1

/-- An event of a block answers a next state, by a step of these. -/
theorem exec_blockEvent_answers {c : Instr} (hc : blockEvent c = true) (s : State) : Answers c s (exec c s) := by
  cases c with
  | sweepTimerExpiry =>
    change Answers _ s (execSweepTimerExpiry s)
    unfold execSweepTimerExpiry
    split
    · exact answers_block (.refl s) fun _ => .expireSweepTimer _ _
    · exact answers_self
  | cardVisit =>
    change Answers _ s (execCardVisit s)
    unfold execCardVisit
    split
    · exact answers_block (.refl s) fun _ => .visitCard _ _
    · exact answers_block (.refl s) fun _ => .endStray _ _
    · exact answers_self
  | cardIntake echo =>
    change Answers _ s (execCardIntake echo s)
    unfold execCardIntake
    split
    · exact answers_sampled echo (·.intakeVisit _ _) fun _ => .intakeVisit _ _ _
    · exact answers_self
  | presenceSample pres => exact execPresenceSample_answers pres s
  | fit n => exact answers_block (.refl s) fun _ => .takeFit _ n
  | removal n => exact answers_block (.refl s) fun _ => .takeRemoval _ n
  | pendingListNotice =>
    change Answers _ s (execPendingListNotice s)
    unfold execPendingListNotice
    split
    · exact answers_block (.refl s) fun _ => .takeNotice _ _ _
    · exact answers_self
  | faultReport e =>
    change Answers _ s (execFaultReport e s)
    unfold execFaultReport
    split
    · exact answers_block (.refl s) fun _ => .takeFault _ e _ _
    · exact answers_self
  | recheckExpiry n echo => exact execRecheckExpiry_answers n echo s
  | mclkEdge rising echo stood => exact execMclkEdge_answers rising echo s stood
  | midxEdge rising echo stood => exact execMidxEdge_answers rising echo s stood
  | stopTimeout echo =>
    change Answers _ s (execStopTimeout echo s)
    unfold execStopTimeout
    split
    · exact answers_sampled echo (·.takeStopTimeout _) fun _ => .takeStopTimeout _ _
    · exact answers_self
  | gateLimitExpiry e =>
    change Answers _ s (execGateLimitExpiry e s)
    unfold execGateLimitExpiry
    split
    · exact answers_block (.refl s) fun _ => .expireGate ‹_›
    · exact answers_self
  | pulseFall e =>
    exact answers_block (.refl s) fun pulsing => .endPulse (of_decide_eq_true pulsing)
  | echoEdge e x =>
    exact answers_whenever (.refl s) fun running _ =>
      windowEdge_does running e x _ _ ((FrontOnly.refl _).setEchoLevel e x.rising)
  | referenceEdge e x =>
    exact answers_whenever (.refl s) fun running _ =>
      windowEdge_does running e x _ _ ((FrontOnly.refl _).setRefLevel e x.rising)
  | windowClose e =>
    change Answers _ s (execWindowClose e s)
    unfold execWindowClose
    split
    · exact answers_block (.refl s) fun listening => .closeWindow (of_decide_eq_true listening) _
    · exact answers_self
  | settleEnd e echo =>
    exact answers_sampled echo (·.toGating e .round) fun settling => .endSettle (of_decide_eq_true settling)
  | noAnswer e => exact decideIn_answers s e _ _ _ _
  | codingError e => exact decideIn_answers s e _ _ _ _
  | truncated e => exact decideIn_answers s e _ _ _ _
  | answerComplete e width => exact answers_whenever (.refl s) fun running _ => answerEdge_does running e _ _
  | tailEnd e echo =>
    exact answers_sampled echo (·.endTail e) fun tail => .endTail (State.decoderIn_reading tail)
  | shelfRead e echo =>
    exact answers_sampled echo (·.readShelf e) fun due => .readShelf (State.lookupAt_looking due)
  | profileReread e echo =>
    exact answers_sampled echo (·.readShelf e) fun due => .readShelf (State.lookupAt_looking due)
  | scoringPassEnd e =>
    change Answers _ s (execScoringPassEnd e s)
    unfold execScoringPassEnd
    split
    · exact answers_block (.refl s) fun scoring => .endScoring (of_decide_eq_true scoring) _
    · exact answers_self
  | resultBurst e =>
    change Answers _ s (execResultBurst e s)
    unfold execResultBurst
    split
    · exact answers_block (.refl s) fun writing => .writeResult (of_decide_eq_true writing) _ _
    · exact answers_self
  | delivery e =>
    change Answers _ s (execDelivery e s)
    unfold execDelivery
    split
    · exact answers_block (.refl s) fun writing => .deliver (of_decide_eq_true writing) _ _
    · exact answers_self
  | terminalBurst e echo =>
    change Answers _ s (execTerminalBurst e echo s)
    unfold execTerminalBurst
    split
    · exact answers_sampled echo (·.endOnEngine e _) fun _ => .endOnEngine ‹_›
    · exact answers_self
  | stopEvent e stop => exact answers_block (.refl s) fun _ => .stopReaches _ e stop
  | stopTerminalBurst e echo =>
    change Answers _ s (execStopTerminalBurst e echo s)
    unfold execStopTerminalBurst
    split
    · exact answers_sampled echo (·.endStopped e _) fun _ => .endStopped ‹_›
    · exact answers_self
  | stimOverload n =>
    change Answers _ s (execStimOverload n s)
    unfold execStimOverload
    split
    · exact answers_block (.refl s) fun _ => .overload ‹_›
    · exact answers_self
  | frameLevelEnd e =>
    exact answers_block (.refl s) fun reading => .endLevel (of_decide_eq_true reading)
  | answerBitRise e counter => exact answers_whenever (.refl s) fun running _ => answerEdge_does running e _ _
  | answerBitFall e width => exact answers_whenever (.refl s) fun running _ => answerEdge_does running e _ _
  | _ => exact absurd hc Bool.false_ne_true

theorem read_answers (s : State) (mosi : Byte) {c : Instr} {kind : Transaction}
    (reads : kind ∈ [.memoryRead, .registerRead, .void]) :
    Answers c s (.next (s.clockByte (s.port.isByteOf kind mosi) mosi)) :=
  ⟨_, rfl, clockByte_does (.refl s) fun _ fits => .front (portByte_read_front (.refl s) reads fits)⟩

/-- A byte of a row of register writes. -/
theorem write_answers {c : Instr} (s : State) (mosi : Byte) {index : Byte → Bool} {value : Half → Bool}
    (h : ∀ (w : State) (i : Byte) (v : Half), FrontOnly s w → w.inReset = false → index i = true → value v = true →
      Does c s (w.writeRegister i v)) :
    Answers c s (.next (s.clockByte (s.port.isWriteByteOf mosi index value) mosi)) :=
  ⟨_, rfl, clockByte_does (.refl s) fun running fits =>
    portByte_write_does (.refl s) fits fun w i v f => h w i v f (f.inReset.trans running)⟩

theorem releaseSelect_does {s u : State} {echo : Levels} (f : FrontOnly s u) :
    Does (.transactionEnd echo) s u.releaseSelect := by
  have high : FrontOnly s (u.setPins { u.pins with csLow := false }) := f.setPins rfl rfl
  unfold State.releaseSelect
  dsimp only
  split_ifs with _ reset
  · exact .front f
  · exact .front high
  · exact .ends high (Bool.eq_false_of_not_eq_true reset)
  · exact .front (high.setPort _)

/-- Every command answers a next state, by a step of these. -/
theorem exec_answers (c : Instr) (s : State) : Answers c s (exec c s) := by
  by_cases event : blockEvent c = true
  · exact exec_blockEvent_answers event s
  cases c with
  | transactionStart => exact ⟨_, rfl, .front (.startTransaction s)⟩
  | memoryRead b => exact read_answers s b (by simp)
  | registerRead b => exact read_answers s b (by simp)
  | voidTransaction b => exact read_answers s b (by simp)
  | memoryWrite b =>
    exact ⟨_, rfl, clockByte_does (.refl s) fun _ fits => portByte_memoryWrite_does (.refl s) fits⟩
  | enable b echo =>
    refine answers_whenever (.refl s) fun _ _ => clockByte_does ((FrontOnly.refl s).sampleEcho echo) fun running fits =>
      portByte_write_does ((FrontOnly.refl s).sampleEcho echo) fits fun w i v f named valued => ?_
    have hi : i = 1 := of_decide_eq_true named
    simp only [Bool.and_eq_true, Bool.not_eq_true'] at valued
    rw [State.writeRegister, if_pos hi]
    exact writeRunControl_enable_does (((FrontOnly.refl s).sampleEcho echo).trans f) (f.inReset.trans running)
      valued.1 valued.2
  | disable b =>
    refine write_answers s b fun w i v f running named valued => ?_
    have hi : i = 1 := of_decide_eq_true named
    simp only [Bool.and_eq_true, Bool.not_eq_true'] at valued
    rw [State.writeRegister, if_pos hi]
    exact writeRunControl_disable_does f running valued.1 valued.2
  | sweep b =>
    refine write_answers s b fun w i v f running named valued => ?_
    have hi : i = 1 := of_decide_eq_true named
    simp only [Bool.and_eq_true, Bool.not_eq_true'] at valued
    rw [State.writeRegister, if_pos hi]
    exact writeRunControl_sweep_does f running valued.1.1.1 (f.regs ▸ valued.2) valued.1.1.2
  | softReset b =>
    refine write_answers s b fun w i v f running named valued => ?_
    have hi : i = 1 := of_decide_eq_true named
    rw [State.writeRegister, if_pos hi, State.writeRunControl, if_pos valued]
    exact .resetsSoft f running
  | attentionClear b =>
    refine write_answers s b fun w i v f _ named _ => ?_
    obtain rfl : i = 2 := of_decide_eq_true named
    exact .clears f v
  | attentionMaskWrite b =>
    refine write_answers s b fun w i v f _ named _ => ?_
    obtain rfl : i = 3 := of_decide_eq_true named
    exact .masks f v
  | registerWriteIgnored b =>
    refine write_answers s b fun w i v f _ named _ => ?_
    simp only [Bool.and_eq_true, decide_eq_true_eq] at named
    obtain ⟨⟨h1, h2⟩, h3⟩ := named
    rw [State.writeRegister, if_neg h1, if_neg h2, if_neg h3]
    exact .front f
  | transactionEnd echo =>
    refine ⟨_, rfl, ?_⟩
    split
    · exact releaseSelect_does (.refl s)
    · exact releaseSelect_does ((FrontOnly.refl s).sampleEcho echo)
  | pinResetAssert low =>
    refine ⟨_, rfl, ?_⟩
    split
    · exact .front (.refl s)
    · exact .resets
  | pinResetEnd =>
    refine ⟨_, rfl, ?_⟩
    split
    · exact .releases ‹_›
    · exact .front (.refl s)
  | powerOnReset => exact ⟨_, rfl, .powersOn⟩
  | _ => exact absurd rfl event

/-- What a next state that the command answers comes by. -/
theorem exec_does {c : Instr} {s t : State} (h : exec c s = .next t) : Does c s t := by
  obtain ⟨u, answered, does⟩ := exec_answers c s
  obtain rfl : u = t := by rw [answered] at h; exact Host.Outcome.next.inj h
  exact does

/-- A step is the tick of the clock on an empty queue, or runs the command at its front. -/
theorem step_cases {s t : State} (h : step s = .next t) :
    (s.pending = [] ∧ t = s.tick) ∨
      ∃ c rest, s.pending = c :: rest ∧ Does c { s with pending := rest } t := by
  unfold step at h
  split at h
  · exact .inl ⟨‹_›, (Host.Outcome.next.inj h).symm⟩
  · exact .inr ⟨_, _, ‹_›, exec_does h⟩

end Sys2Proof.Machine
end

section
/-! An act done for every engine, station or card, and the tick of the clock, field by field. -/

namespace Sys2Proof.Machine

/-! ## The places as lists -/

theorem mem_allEngines (e : EngineId) : e ∈ allEngines := by revert e; decide
theorem mem_allStations (n : StationId) : n ∈ allStations := by revert n; decide
theorem mem_allSlots (p : SlotId) : p ∈ allSlots := by revert p; decide
theorem mem_allCards (k : CardId) : k ∈ allCards := by revert k; decide
theorem allEngines_nodup : allEngines.Nodup := by decide
theorem allStations_nodup : allStations.Nodup := by decide
theorem allSlots_nodup : allSlots.Nodup := by decide
theorem allCards_nodup : allCards.Nodup := by decide

section
variable {α β : Type}

@[simp] theorem forAll_nil (act : α → State → State) (s : State) : forAll [] act s = s := rfl
@[simp] theorem forAll_cons (x : α) (xs : List α) (act : α → State → State) (s : State) :
    forAll (x :: xs) act s = forAll xs act (act x s) := rfl

/-- What every act leaves, all of them leave. -/
theorem forAll_keeps_read (read : State → β) {act : α → State → State} (h : ∀ x t, read (act x t) = read t)
    (xs : List α) (s : State) : read (forAll xs act s) = read s := by
  induction xs generalizing s with
  | nil => rfl
  | cons x xs ih => exact (ih _).trans (h x s)

/-- What holds before and is kept by every act holds after all of them. -/
theorem forAll_invariant {P : State → Prop} {act : α → State → State} (h : ∀ x t, P t → P (act x t))
    (xs : List α) {s : State} (hs : P s) : P (forAll xs act s) := by
  induction xs generalizing s with
  | nil => exact hs
  | cons x xs ih => exact ih (h x s hs)

/-- An act on the own place of each element: the place reads what its own act leaves, once. -/
theorem forAll_place [DecidableEq α] (read : State → α → β) {act : α → State → State} {f : α → β → β}
    (h : ∀ x y t, read (act x t) y = if y = x then f x (read t x) else read t y)
    {xs : List α} (distinct : xs.Nodup) (s : State) (y : α) :
    read (forAll xs act s) y = if y ∈ xs then f y (read s y) else read s y := by
  induction xs generalizing s with
  | nil => rfl
  | cons x xs ih =>
    obtain ⟨fresh, distinct⟩ := List.nodup_cons.mp distinct
    rw [forAll_cons, ih distinct, h]
    by_cases hy : y = x
    · subst hy; simp [fresh]
    · simp [hy]

end

/-! ## Vectors of places -/

theorem State.engines_eq_ofFn (s : State) : s.engines = Vector.ofFn s.engine := by
  apply Vector.ext; intro i hi; simp [State.engine]

theorem State.stations_eq_ofFn (s : State) : s.stations = Vector.ofFn s.station := by
  apply Vector.ext; intro i hi; simp [State.station]

theorem State.questions_eq_ofFn (s : State) : s.tracker.questions = Vector.ofFn s.question := by
  apply Vector.ext; intro i hi; simp [State.question]

theorem State.engine_eq {s t : State} (h : t.engines = s.engines) (e : EngineId) : t.engine e = s.engine e := by
  simp only [State.engine, h]

theorem State.station_eq {s t : State} (h : t.stations = s.stations) (n : StationId) : t.station n = s.station n := by
  simp only [State.station, h]

theorem State.stations_ext {s t : State} (h : ∀ n, t.station n = s.station n) : t.stations = s.stations := by
  rw [s.stations_eq_ofFn, t.stations_eq_ofFn, funext h]

/-! ## The same change of every engine, station and question -/

section
variable (s : State)

theorem forAll_modEngine_engine (f : EngineId → Engine → Engine) (e : EngineId) :
    (forAll allEngines (fun e t => t.modEngine e (f e)) s).engine e = f e (s.engine e) := by
  rw [forAll_place State.engine (f := f) (fun x y t => t.engine_modEngine x y (f x)) allEngines_nodup,
    if_pos (mem_allEngines e)]

theorem forAll_modEngine (f : EngineId → Engine → Engine) :
    forAll allEngines (fun e t => t.modEngine e (f e)) s =
      { s with engines := Vector.ofFn fun e => f e (s.engine e) } := by
  have frame := forAll_invariant (P := fun t => t = { s with engines := t.engines })
    (act := fun e t => t.modEngine e (f e)) (fun e t h => by rw [h]; rfl) allEngines (s := s) rfl
  refine frame.trans ?_
  rw [State.engines_eq_ofFn (forAll _ _ s), funext (forAll_modEngine_engine s f)]

theorem forAll_modStation_station (f : StationId → Station → Station) (n : StationId) :
    (forAll allStations (fun n t => t.modStation n (f n)) s).station n = f n (s.station n) := by
  rw [forAll_place State.station (f := f) (fun x y t => t.station_modStation x y (f x)) allStations_nodup,
    if_pos (mem_allStations n)]

theorem forAll_modStation (f : StationId → Station → Station) :
    forAll allStations (fun n t => t.modStation n (f n)) s =
      { s with stations := Vector.ofFn fun n => f n (s.station n) } := by
  have frame := forAll_invariant (P := fun t => t = { s with stations := t.stations })
    (act := fun n t => t.modStation n (f n)) (fun n t h => by rw [h]; rfl) allStations (s := s) rfl
  refine frame.trans ?_
  rw [State.stations_eq_ofFn (forAll _ _ s), funext (forAll_modStation_station s f)]

end

/-! ## A tick of the clock -/

/-- One millisecond of an open question, while ENABLE reads 1 (04 R78). -/
def Question.tick (enable : Bool) (q : Question) : Question :=
  if enable && !q.suspended then { q with timer := q.timer + 1 } else q

theorem State.tickQuestion_question (s : State) (e e' : EngineId) :
    (s.tickQuestion e).question e' =
      if e' = e then (s.question e).map (Question.tick s.regs.enable) else s.question e' := by
  unfold State.tickQuestion
  cases open_ : s.question e with
  | none => by_cases h : e' = e <;> simp [h, open_]
  | some q =>
    dsimp only [Option.map_some, Question.tick]
    split_ifs with counts he
    · rw [State.question_setQuestion, if_pos he]
    · rw [State.question_setQuestion, if_neg he]
    · simp_all
    · rfl

theorem State.tickQuestion_rest (s : State) (e : EngineId) :
    s.tickQuestion e = { s with tracker := { s.tracker with questions := (s.tickQuestion e).tracker.questions } } := by
  unfold State.tickQuestion
  split
  · split_ifs <;> rfl
  · rfl

theorem tickQuestions_eq (s : State) :
    forAll allEngines (fun e t => t.tickQuestion e) s = { s with tracker := { s.tracker with
      questions := Vector.ofFn fun e => (s.question e).map (Question.tick s.regs.enable) } } := by
  have frame := forAll_invariant (P := fun t => t = { s with tracker := { s.tracker with questions := t.tracker.questions } })
    (act := fun e t => t.tickQuestion e) (fun e t h => by rw [t.tickQuestion_rest e, h]) allEngines (s := s) rfl
  have read (e : EngineId) : (forAll allEngines (fun e t => t.tickQuestion e) s).question e =
      (s.question e).map (Question.tick s.regs.enable) := by
    have keyed := forAll_place (fun t e => (t.question e, t.regs.enable)) (act := fun e t => t.tickQuestion e)
      (f := fun _ x => (x.1.map (Question.tick x.2), x.2))
      (fun x y t => by
        have : (t.tickQuestion x).regs = t.regs := by rw [t.tickQuestion_rest x]
        dsimp only
        rw [t.tickQuestion_question x y, this]
        by_cases h : y = x <;> simp [h]) allEngines_nodup s e
    rw [if_pos (mem_allEngines e)] at keyed
    exact congrArg Prod.fst keyed
  refine frame.trans ?_
  rw [State.questions_eq_ofFn (forAll _ _ s), funext read]

/-- Stop timer, gate timers, recheck timers and sweep timer after a millisecond. -/
theorem State.millisecond_eq (s : State) :
    s.millisecond = { s with
      tracker := { s.tracker with
        stopTimer := if s.configured then s.tracker.stopTimer + 1 else s.tracker.stopTimer
        questions := Vector.ofFn fun e => (s.question e).map (Question.tick s.regs.enable) }
      stations := Vector.ofFn fun n => (s.station n).tickRecheck
      sweeper := { s.sweeper with timer := s.sweeper.timer.tick } } := by
  unfold State.millisecond
  dsimp only
  rw [forAll_modStation _ fun _ => Station.tickRecheck, tickQuestions_eq]
  cases configured : s.configured <;> rfl

theorem State.tickEngines_eq (s : State) :
    s.tickEngines = { s with
      engines := Vector.ofFn fun e => (s.engine e).tick (s.echoOf e) (s.refHigh e) } :=
  forAll_modEngine s fun e g => g.tick (s.echoOf e) (s.refHigh e)

/-- The bit of a station among the levels. -/
theorem getLsbD_stationBit (n m : StationId) : ((1 <<< n.val : Nat) : Levels).getLsbD m.val = decide (m = n) := by
  revert n m; decide

theorem State.releaseDriver_bit (s : State) (n m : StationId) :
    (s.releaseDriver n).overloadHold.getLsbD m.val =
      if m = n then s.overloadHold.getLsbD n.val && (s.driver n).isSome else s.overloadHold.getLsbD m.val := by
  unfold State.releaseDriver
  dsimp only
  cases low : s.driver n with
  | none =>
    simp only [Option.isNone_none, if_true, State.setOverloadHold_overloadHold, BitVec.getLsbD_and, BitVec.getLsbD_not,
      getLsbD_stationBit, m.isLt, decide_true, Bool.true_and, Option.isSome_none, Bool.and_false]
    by_cases h : m = n <;> simp [h]
  | some e => by_cases h : m = n <;> simp [h]

theorem State.releaseDriver_rest (s : State) (n : StationId) :
    s.releaseDriver n = { s with overloadHold := (s.releaseDriver n).overloadHold } := by
  unfold State.releaseDriver
  dsimp only
  split_ifs <;> rfl

theorem State.releaseDrivers_rest (s : State) :
    s.releaseDrivers = { s with overloadHold := s.releaseDrivers.overloadHold } :=
  forAll_invariant (P := fun t => t = { s with overloadHold := t.overloadHold })
    (act := fun n t => t.releaseDriver n) (fun n t h => by rw [t.releaseDriver_rest n, h]) allStations (s := s) rfl

theorem State.releaseDrivers_bit (s : State) (n : StationId) :
    s.releaseDrivers.overloadHold.getLsbD n.val = (s.overloadHold.getLsbD n.val && (s.driver n).isSome) := by
  have keyed := forAll_place (fun t n => (t.overloadHold.getLsbD n.val, (t.driver n).isSome))
    (act := fun n t => t.releaseDriver n) (f := fun _ x => (x.1 && x.2, x.2))
    (fun x y t => by
      have : (t.releaseDriver x).driver y = t.driver y := by rw [t.releaseDriver_rest x]; rfl
      dsimp only
      rw [t.releaseDriver_bit x y, this]
      by_cases h : y = x <;> simp [h]) allStations_nodup s n
  rw [if_pos (mem_allStations n)] at keyed
  exact congrArg Prod.fst keyed

/-- The end of a tick in the engines and the drivers. -/
theorem State.tickLines_eq (s : State) :
    s.releaseDrivers.tickEngines = { s with
      overloadHold := s.releaseDrivers.overloadHold
      engines := Vector.ofFn fun e => (s.engine e).tick (s.echoOf e) (s.refHigh e) } := by
  obtain ⟨hold, eq⟩ : ∃ hold, s.releaseDrivers = { s with overloadHold := hold } := ⟨_, s.releaseDrivers_rest⟩
  rw [eq, State.tickEngines_eq]
  rfl

/-- While a reset lasts the clock stands. -/
theorem State.tick_reset {s : State} (h : s.inReset = true) : s.tick = s := if_pos h

/-- The events due in the present tick are queued. -/
theorem State.tick_due {s : State} (h : s.inReset = false) (due : s.dueNow ≠ []) :
    s.tick = { s with pending := s.dueNow } := by
  simp [State.tick, h, due]

/-- A tick within a millisecond. -/
theorem State.tick_within {s : State} (h : s.inReset = false) (due : s.dueNow = [])
    (within : s.msTicks + 1 < 200000) :
    s.tick = { s.releaseDrivers.tickEngines with
      msTicks := s.msTicks + 1, pending := s.releaseDrivers.tickEngines.dueNow } := by
  simp [State.tick, h, due, Config.ticksPerMillisecond, within]

/-- The tick that ends a millisecond. -/
theorem State.tick_millisecond {s : State} (h : s.inReset = false) (due : s.dueNow = [])
    (ends : 200000 ≤ s.msTicks + 1) :
    s.tick =
      { { s.releaseDrivers.tickEngines.millisecond with msTicks := 0 } with
        pending := State.dueNow { s.releaseDrivers.tickEngines.millisecond with msTicks := 0 } ++
          State.dueAtMillisecond { s.releaseDrivers.tickEngines.millisecond with msTicks := 0 } } := by
  simp [State.tick, h, due, Config.ticksPerMillisecond, show ¬s.msTicks + 1 < 200000 by omega]

/-- What a tick leaves, and what it makes of engines and stations. -/
theorem State.tick_rest (s : State) :
    s.tick = { s with
      tracker := { s.tracker with stopTimer := s.tick.tracker.stopTimer, questions := s.tick.tracker.questions }
      sweeper := s.tick.sweeper, stations := s.tick.stations, engines := s.tick.engines
      overloadHold := s.tick.overloadHold, msTicks := s.tick.msTicks, pending := s.tick.pending } := by
  have fields : ∃ stopTimer questions sweeper stations engines overloadHold msTicks pending, s.tick = { s with
      tracker := { s.tracker with stopTimer := stopTimer, questions := questions }
      sweeper := sweeper, stations := stations, engines := engines
      overloadHold := overloadHold, msTicks := msTicks, pending := pending } := by
    by_cases reset : s.inReset = true
    · exact ⟨_, _, _, _, _, _, _, _, State.tick_reset reset⟩
    replace reset := Bool.eq_false_of_not_eq_true reset
    by_cases due : s.dueNow = []
    · by_cases within : s.msTicks + 1 < 200000
      · rw [State.tick_within reset due within, State.tickLines_eq]; exact ⟨_, _, _, _, _, _, _, _, rfl⟩
      · rw [State.tick_millisecond reset due (by omega), State.millisecond_eq, State.tickLines_eq]
        exact ⟨_, _, _, _, _, _, _, _, rfl⟩
    · exact ⟨_, _, _, _, _, _, _, _, State.tick_due reset due⟩
  obtain ⟨_, _, _, _, _, _, _, _, eq⟩ := fields
  generalize s.tick = t at *
  subst eq
  rfl

theorem State.tick_engine (s : State) (e : EngineId) :
    s.tick.engine e = s.engine e ∨ s.tick.engine e = (s.engine e).tick (s.echoOf e) (s.refHigh e) := by
  by_cases reset : s.inReset = true
  · rw [State.tick_reset reset]; exact .inl rfl
  replace reset := Bool.eq_false_of_not_eq_true reset
  by_cases due : s.dueNow = []
  · refine .inr ?_
    by_cases within : s.msTicks + 1 < 200000
    · rw [State.tick_within reset due within, State.tickLines_eq]; simp [State.engine]
    · rw [State.tick_millisecond reset due (by omega), State.millisecond_eq, State.tickLines_eq]; simp [State.engine]
  · rw [State.tick_due reset due]; exact .inl rfl

theorem State.tick_station (s : State) (n : StationId) :
    s.tick.station n = s.station n ∨ s.tick.station n = (s.station n).tickRecheck := by
  by_cases reset : s.inReset = true
  · rw [State.tick_reset reset]; exact .inl rfl
  replace reset := Bool.eq_false_of_not_eq_true reset
  by_cases due : s.dueNow = []
  · by_cases within : s.msTicks + 1 < 200000
    · rw [State.tick_within reset due within, State.tickLines_eq]; simp [State.station]
    · rw [State.tick_millisecond reset due (by omega), State.millisecond_eq, State.tickLines_eq]
      exact .inr (by simp [State.station])
  · rw [State.tick_due reset due]; exact .inl rfl

end Sys2Proof.Machine
end

section
/-! The rules of the whole machine: the queue, exchange memory, the registers and the angle. -/

namespace Sys2Proof.Machine

/-! ## What a step of the blocks leaves -/

/-- A step of the blocks leaves the queue, the port, the pins and the registers but for the causes. -/
theorem BlockStep.beside {s t : State} (h : BlockStep s t) : Beside s t := by
  have refl := Beside.refl s
  cases h with
  | requestSweep => exact requestSweep_beside refl
  | expireSweepTimer => exact expireSweepTimer_beside refl _
  | visitCard => exact visitCard_beside refl _
  | endStray => exact endStray_beside refl _
  | intakeVisit => exact intakeVisit_beside refl _ _
  | takeNotice => exact takeNotice_beside (setNotices_beside refl _) _
  | sample => exact forAll_beside refl _ (fun n _ hu => sampleStation_beside hu _ _ n) _
  | takeFit => exact takeFit_beside refl _
  | takeRemoval => exact takeRemoval_beside refl _
  | takeFault => exact takeFault_beside (modEngine_beside refl _ _) _ _
  | recheck => exact modStation_beside refl _ _
  | clearFault => exact clearFault_beside refl _
  | takeMclk => exact takeMclk_beside refl _
  | takeMidx => exact takeMidx_beside refl _
  | takeStopTimeout => exact takeStopTimeout_beside refl _
  | expireGate => exact expireGate_beside refl _ _
  | endPulse => exact endPulse_beside refl _
  | modStage => exact modEngine_beside refl _ _
  | closeWindow => exact closeWindow_beside refl _ _
  | endSettle => exact toGating_beside refl _ _
  | endLevel => exact endLevel_beside refl _
  | endTail => exact endTail_beside refl _
  | readShelf => exact readShelf_beside refl _
  | endScoring => exact endScoring_beside refl _ _
  | writeResult => exact setPhase_beside (writeResult_beside refl _ _) _ _
  | deliver => exact deliver_beside refl _ _ _
  | endOnEngine => exact endOnEngine_beside refl _ _
  | stopReaches => exact stopReaches_beside refl _ _
  | endStopped => exact endStopped_beside refl _ _
  | overload => exact releaseDriver_beside (faultStop_beside (tripDriver_beside refl _) _ _) _

theorem sampleStation_keeps {s t : State} (h : Keeps s t) (filter : Nat) (pres : Levels) (n : StationId) :
    Keeps s (t.sampleStation filter pres n) := by
  unfold State.sampleStation
  split <;> exact h

/-- A step of the blocks writes bytes of the part's own only. -/
theorem BlockStep.keeps {s t : State} (h : BlockStep s t) : Keeps s t := by
  have refl : Keeps s s := .same _
  cases h with
  | requestSweep => exact requestSweep_keeps refl
  | expireSweepTimer => exact expireSweepTimer_keeps refl _
  | visitCard => exact visitCard_keeps refl _
  | endStray => exact endStray_keeps refl _
  | intakeVisit => exact intakeVisit_keeps refl _ _
  | takeNotice => exact takeNotice_keeps (setNotices_keeps refl _) _
  | sample => exact forAll_keeps _ (fun n _ hu => sampleStation_keeps hu _ _ n) _ refl
  | takeFit => exact takeFit_keeps refl _
  | takeRemoval => exact takeRemoval_keeps refl _
  | takeFault => exact takeFault_keeps (modEngine_keeps refl _ _) _ _
  | recheck => exact modStation_keeps refl _ _
  | clearFault => exact clearFault_keeps refl _
  | takeMclk => exact takeMclk_keeps refl _
  | takeMidx => exact takeMidx_keeps refl _
  | takeStopTimeout => exact takeStopTimeout_keeps refl _
  | expireGate => exact expireGate_keeps refl _ _
  | endPulse => exact endPulse_keeps refl _
  | modStage => exact modEngine_keeps refl _ _
  | closeWindow => exact closeWindow_keeps refl _ _
  | endSettle => exact toGating_keeps refl _ _
  | endLevel => exact endLevel_keeps refl _
  | endTail => exact endTail_keeps refl _
  | readShelf => exact readShelf_keeps refl _
  | endScoring => exact toWriting_keeps (modEngine_keeps refl _ _) _
  | writeResult => exact setPhase_keeps (writeResult_keeps refl _ _) _ _
  | deliver => exact deliver_keeps refl _ _ _
  | endOnEngine => exact endOnEngine_keeps refl _ _
  | stopReaches => exact stopReaches_keeps refl _ _
  | endStopped => exact endStopped_keeps refl _ _
  | overload => exact releaseDriver_keeps (faultStop_keeps (tripDriver_keeps refl _) _ _) _

/-! ## What the port's steps leave -/

/-- An offered byte changes of the registers the causes and REFUSED_AT only (01 R12). -/
theorem State.offerByte_rest (s : State) (a : Address) (v : Byte) :
    s.offerByte a v = { s with
      port := (s.offerByte a v).port, mem := (s.offerByte a v).mem
      regs := { s.regs with
        causes := (s.offerByte a v).regs.causes, refusedAt := (s.offerByte a v).regs.refusedAt } } := by
  unfold State.offerByte State.refuseByte
  dsimp only
  split_ifs <;> rfl

theorem offerByte_pending (s : State) (a : Address) (v : Byte) : (s.offerByte a v).pending = s.pending := by
  have h := congrArg State.pending (s.offerByte_rest a v)
  exact h

theorem offerByte_tracker (s : State) (a : Address) (v : Byte) : (s.offerByte a v).tracker = s.tracker := by
  have h := congrArg State.tracker (s.offerByte_rest a v)
  exact h

theorem offerByte_regs (s : State) (a : Address) (v : Byte) :
    (s.offerByte a v).regs = { s.regs with
      causes := (s.offerByte a v).regs.causes, refusedAt := (s.offerByte a v).regs.refusedAt } :=
  congrArg State.regs (s.offerByte_rest a v)

/-- The enabling of the part, and a sweep asked for in the same write (01 R15, R16). -/
theorem enables_beside (s : State) (sweep : Bool) :
    Beside s.enablePart (if sweep && s.enablePart.regs.enable then s.enablePart.requestSweep else s.enablePart) :=
  when_beside (.refl _) _ State.requestSweep fun _ hu => requestSweep_beside hu

theorem enablePart_cases (s : State) :
    (∃ offset, s.enablePart = s.rejectConfiguration offset) ∨
      ∃ snap, s.readConfiguration = .ok snap ∧ s.enablePart = s.acceptConfiguration snap := by
  unfold State.enablePart
  split
  · exact .inl ⟨_, rfl⟩
  · exact .inr ⟨_, ‹_›, rfl⟩

theorem rejectConfiguration_beside (s : State) (offset : Byte) : Beside s (s.rejectConfiguration offset) :=
  raise_beside (put_beside (.refl s) msConfigFault _) causeConfigRejected

theorem takeShelfFixed_beside (s : State) :
    Beside (s.setRegs { s.regs with shelfFixed := s.shelfFixedField }) s.takeShelfFixed := by
  unfold State.takeShelfFixed
  dsimp only
  split
  · exact forAll_beside (setCache_beside (.refl _) _) _ (fun e _ hu => modEngine_beside hu e _) _
  · exact .refl _

/-- Which registers a transaction end may change, and what it leaves (01 R14). -/
theorem endTransaction_rest (s : State) :
    s.endTransaction.pending = s.pending ∧ s.endTransaction.pins = s.pins ∧
      s.endTransaction.regs = { s.regs with
        causes := s.endTransaction.regs.causes, shelfFixed := s.endTransaction.regs.shelfFixed } := by
  have cancelled := forAll_beside (.refl s) (fun k t => if s.port.cancelNotes[k.val] then t.passCancel k else t)
    (fun k _ hu => when_beside hu _ (·.passCancel k) fun _ hu => passCancel_beside hu k) allCards
  have noticed := forAll_beside cancelled (fun n t => if s.port.setupNotes[n.val] then t.setupNotice n else t)
    (fun n _ hu => when_beside hu _ (·.setupNotice n) fun _ hu => setupNotice_beside hu n) allStations
  have shelf (b : Bool) (u : State) (h : Beside s u) : (if b then u.takeShelfFixed else u).pending = s.pending ∧
      (if b then u.takeShelfFixed else u).pins = s.pins ∧ (if b then u.takeShelfFixed else u).regs =
        { s.regs with
          causes := (if b then u.takeShelfFixed else u).regs.causes
          shelfFixed := (if b then u.takeShelfFixed else u).regs.shelfFixed } := by
    split
    · have taken := takeShelfFixed_beside u
      refine ⟨taken.pending.trans h.pending, taken.pins.trans h.pins, ?_⟩
      rw [taken.regs, State.setRegs_regs, h.regs]
    · exact ⟨h.pending, h.pins, by rw [h.regs]⟩
  have timed (u : State) := when_beside (.refl u) s.port.periodNote State.noticePeriod
    fun _ hu => noticePeriod_beside hu
  have reread (u : State) := forAll_beside (timed u) (fun e t => t.modEngine e Engine.afterTransaction)
    (fun e _ hu => modEngine_beside hu e _) allEngines
  obtain ⟨hpending, hpins, hregs⟩ := shelf s.port.shelfNote _ noticed
  refine ⟨(reread _).pending.trans hpending, (reread _).pins.trans hpins, ?_⟩
  unfold State.endTransaction
  dsimp only
  rw [State.setPort_regs, (reread _).regs, hregs]

/-! ## The queue -/

theorem Does.pending {c : Instr} {s t : State} (h : Does c s t) : t.pending = s.pending := by
  cases h with
  | front f => exact f.pending
  | block f _ h after => exact after.pending.trans (h.beside.pending.trans f.pending)
  | @offers _ _ u f => rw [offerByte_pending, f.pending]
  | @enables _ _ _ u f _ _ sweep =>
    refine (enables_beside u sweep).pending.trans (Eq.trans ?_ f.pending)
    obtain ⟨offset, eq⟩ | ⟨snap, _, eq⟩ := enablePart_cases u
    · rw [eq]; exact (rejectConfiguration_beside u offset).pending
    · rw [eq]; exact (acceptConfiguration_beside u snap).pending
  | disables f => exact (disablePart_beside _).pending.trans f.pending
  | @resetsSoft _ _ u f =>
    rw [State.softReset, State.setPort_pending, (finishReset_beside u).pending]
    exact f.pending
  | clears f => exact f.pending
  | masks f => exact f.pending
  | ends f => exact (endTransaction_rest _).1.trans f.pending
  | resets =>
    unfold State.assertReset
    dsimp only
    split <;> exact s.countFree_pending _
  | releases =>
    unfold State.releaseReset
    dsimp only
    split
    · rfl
    · exact (finishReset_beside _).pending
  | powersOn => rfl

/-- Settles O2: every command answers by a step of Does, and each of these leaves the queue. -/
theorem execAnswersNextAndKeepsTheQueue : Obligations.ExecAnswersNextAndKeepsTheQueue := by
  intro c s
  obtain ⟨t, answered, does⟩ := exec_answers c s
  exact ⟨t, answered, does.pending⟩

/-- Settles O1: the command at the front is run on the state with the queue's rest. -/
theorem stepRunsFrontCommand : Obligations.StepRunsFrontCommand := fun _ _ _ => rfl

/-! ## Exchange memory -/

/-- A command writes bytes of the part's own only, but a byte of a memory write and the power-on reset. -/
theorem Does.keeps {c : Instr} {s t : State} (h : Does c s t) :
    Keeps s t ∨ (c = .powerOnReset ∧ t = s.powerOn) ∨
      ∃ b u, c = .memoryWrite b ∧ FrontOnly s u ∧ t = u.offerByte s.port.pointer b := by
  have front {u w : State} (f : FrontOnly s u) (k : Keeps u w) : Keeps s w := by
    unfold Keeps at k ⊢; rwa [f.mem] at k
  cases h with
  | offers f => exact .inr (.inr ⟨_, _, rfl, f, rfl⟩)
  | powersOn => exact .inr (.inl ⟨rfl, rfl⟩)
  | front f => exact .inl (front f (.same _))
  | block f _ h after => exact .inl (by unfold Keeps; rw [after.mem]; exact front f h.keeps)
  | @enables _ _ _ u f _ _ sweep =>
    refine .inl (front f ?_)
    split
    · exact requestSweep_keeps (enablePart_keeps (.same _))
    · exact enablePart_keeps (.same _)
  | disables f => exact .inl (front f (disablePart_keeps (.same _)))
  | resetsSoft f => exact .inl (front f (softReset_keeps (.same _)))
  | clears f v => exact .inl (front f (.same _))
  | masks f v => exact .inl (front f (.same _))
  | ends f => exact .inl (front f (endTransaction_keeps (.same _)))
  | resets => exact .inl (assertReset_keeps (.same _) _)
  | releases => exact .inl (releaseReset_keeps (.same _))

theorem tick_mem (s : State) : s.tick.mem = s.mem := by rw [s.tick_rest]

theorem offerByte_mem (s : State) (a : Address) (v : Byte) :
    (s.offerByte a v).mem = if s.accepts a v then Memory.writeBytes s.mem a.toNat [v] else s.mem := by
  unfold State.offerByte
  split_ifs
  · rfl
  · exact State.refuseByte_mem _ _

/-- Settles O4: part-side writes and a stored byte keep the form, and the memory of a power-on reset has it. -/
theorem stepKeepsMemoryForm : Obligations.StepKeepsMemoryForm := by
  intro s t wf h
  obtain ⟨_, rfl⟩ | ⟨c, rest, _, does⟩ := step_cases h
  · rwa [tick_mem]
  · obtain keeps | ⟨_, rfl⟩ | ⟨b, u, _, f, rfl⟩ := does.keeps
    · exact keeps.wf wf
    · exact resetMemory_wf
    · rw [offerByte_mem, f.mem]
      split
      · exact Memory.wf_writeBytes _ _ wf
      · exact wf

/-- A byte that an offered one changes is at its own address and takes its value. -/
theorem offerByte_changes {s : State} (wf : Memory.wf s.mem = true) {a : Address} {v : Byte} {x : Nat}
    (h : (s.offerByte a v).byte x ≠ s.byte x) : a.toNat = x ∧ (s.offerByte a v).byte x = v := by
  have stored : (s.offerByte a v).byte x =
      if s.accepts a v then (s.put a.toNat [v]).byte x else s.byte x := by
    unfold State.byte
    rw [offerByte_mem]
    split <;> rfl
  rw [stored] at h ⊢
  split_ifs at h ⊢ with accepted
  · by_cases own : x = a.toNat
    · subst own
      exact ⟨rfl, by rw [State.byte_put wf]; simp⟩
    · exact absurd (State.byte_put_other s _ _ _ (by simp only [List.length_cons, List.length_nil]; omega)) h
  · exact absurd rfl h

/-- Settles O6: part-side writes leave the byte, and an offered byte changes none but its own address. -/
theorem onlyTheControllerWritesItsBytes : Obligations.OnlyTheControllerWritesItsBytes := by
  intro s t a wf unowned h changed
  obtain ⟨_, rfl⟩ | ⟨c, rest, queue, does⟩ := step_cases h
  · exact absurd (by simp only [State.byte, tick_mem]) changed
  rw [queue]
  obtain keeps | ⟨rfl, _⟩ | ⟨b, u, rfl, f, rfl⟩ := does.keeps
  · exact absurd (keeps.read unowned) changed
  · exact .inl rfl
  · have same : u.byte a = s.byte a := by simp only [State.byte, f.mem]
    rw [← same] at changed
    exact .inr ⟨b, rfl, offerByte_changes (f.mem ▸ wf) changed⟩

/-! ## The registers -/

theorem FrontOnly.sameRegs {s u : State} (f : FrontOnly s u) : SameRegs s u := .of_eq f.regs

/-- Settles O9, by what each step of Does leaves of the registers. -/
theorem registersChangeOnlyByTheirCommands : Obligations.RegistersChangeOnlyByTheirCommands := by
  intro c s t h
  have same {r : Registers} (hr : t.regs = r) (mask : r.mask = s.regs.mask)
      (enable : r.enable = s.regs.enable ∧ r.snapshot = s.regs.snapshot) (shelf : r.shelfFixed = s.regs.shelfFixed) :
      t.regs.mask = s.regs.mask ∧ (t.regs.enable = s.regs.enable ∧ t.regs.snapshot = s.regs.snapshot) ∧
        t.regs.shelfFixed = s.regs.shelfFixed := hr ▸ ⟨mask, enable, shelf⟩
  have kept (h : SameRegs s t) := same h rfl ⟨rfl, rfl⟩ rfl
  cases exec_does h with
  | front f => obtain ⟨h1, ⟨h2, h3⟩, h4⟩ := kept f.sameRegs; simp [h1, h2, h3, h4]
  | block f _ h after =>
    obtain ⟨h1, ⟨h2, h3⟩, h4⟩ := kept (f.sameRegs.trans (h.beside.sameRegs.trans after.sameRegs))
    simp [h1, h2, h3, h4]
  | clears f => obtain ⟨h1, ⟨h2, h3⟩, h4⟩ := kept (f.sameRegs.trans rfl); simp [h1, h2, h3, h4]
  | offers f =>
    rw [offerByte_regs, f.regs]
    simp
  | @enables b echo _ u f _ _ sweep =>
    have regs := (enables_beside u sweep).regs
    have accepted : ∃ on snap causes, u.enablePart.regs =
        { u.regs with enable := on, snapshot := snap, causes := causes } := by
      obtain ⟨offset, eq⟩ | ⟨snap, _, eq⟩ := enablePart_cases u
      · exact ⟨_, _, _, by rw [eq]; exact (rejectConfiguration_beside u offset).regs⟩
      · exact ⟨_, _, _, by rw [eq]; exact (acceptConfiguration_beside u snap).regs⟩
    obtain ⟨on, snap, causes, eq⟩ := accepted
    rw [regs, eq, f.regs]
    simp
  | disables f => rw [(disablePart_beside _).regs]; simp [f.regs]
  | masks f => simp [State.writeMask, f.regs]
  | @resetsSoft _ _ u f =>
    have regs := (finishReset_beside u).regs
    simp only [State.softReset, State.setPort_regs]
    rw [regs]
    simp [State.resetBlocks, Registers.reset, f.regs]
  | ends f => rw [(endTransaction_rest _).2.2]; simp [f.regs]
  | resets => simp
  | releases =>
    have : s.releaseReset.regs.mask = s.regs.mask := by
      unfold State.releaseReset
      dsimp only
      split
      · rfl
      · rw [(finishReset_beside _).regs]; rfl
    simp [this]
  | powersOn => simp

/-! ## The angle -/

/-- The angle's range rests on the snapshot and on the tracker but for its questions and watches. -/
theorem angleInRange_of_eq {s t : State} (h : s.angleInRange) (snapshot : t.regs.snapshot = s.regs.snapshot)
    (angle : t.tracker.angle = s.tracker.angle) (valid : t.tracker.valid = s.tracker.valid) : t.angleInRange := by
  unfold State.angleInRange
  rw [snapshot, angle, valid]
  exact h

theorem SameCore.angle {s t : State} (h : SameCore s t) : t.tracker.angle = s.tracker.angle := by
  unfold SameCore at h; rw [h]

theorem SameCore.valid {s t : State} (h : SameCore s t) : t.tracker.valid = s.tracker.valid := by
  unfold SameCore at h; rw [h]

theorem angleInRange_of_core {s t : State} (h : s.angleInRange) (snapshot : t.regs.snapshot = s.regs.snapshot)
    (core : SameCore s t) : t.angleInRange :=
  angleInRange_of_eq h snapshot core.angle core.valid

theorem FrontOnly.core {s u : State} (f : FrontOnly s u) : SameCore s u := by
  unfold SameCore; rw [f.tracker]

theorem Beside.snapshot {s t : State} (h : Beside s t) : t.regs.snapshot = s.regs.snapshot := by rw [h.regs]

/-- An advanced angle stays below PPC (04 R70). -/
theorem Tracker.advance_range {t : Tracker} {ppc : Half} (large : 16 ≤ ppc.toNat)
    (invalid : t.valid = false → t.angle = 0) :
    ((t.advance ppc).1.valid = true → (t.advance ppc).1.angle.toNat < ppc.toNat) ∧
      ((t.advance ppc).1.valid = false → (t.advance ppc).1.angle = 0) := by
  unfold Tracker.advance
  cases v : t.valid with
  | false => simpa [v] using invalid v
  | true =>
    simp only [Bool.not_true, Bool.false_eq_true, if_false]
    split_ifs with below
    · refine ⟨fun _ => ?_, fun h => by simp at h⟩
      have := ppc.isLt
      have one : (1 : Half).toNat = 1 := rfl
      simp only [BitVec.toNat_add, one]
      omega
    · simp

/-- An index brings the angle to 0 (04 R71). -/
theorem Tracker.index_angle (t : Tracker) (ppc : Half) :
    (t.index ppc).1.angle = 0 ∧ (t.index ppc).1.valid = true := by
  unfold Tracker.index
  split_ifs with v
  · exact ⟨rfl, rfl⟩
  · exact ⟨rfl, by simpa using v⟩
  · exact ⟨rfl, by simpa using v⟩

/-- The tracker's new fields stand until the next update. -/
theorem updateTracker_angle (s : State) (k : Tracker) (event : Bool) : (s.updateTracker k event).tracker = k := by
  unfold State.updateTracker State.raiseIf
  split <;> rfl

/-- An update of the tracker within the range, and the judgements after it. -/
theorem angleInRange_of_update {s t : State} {snap : Snapshot} (large : 16 ≤ snap.ppc.toNat) (k : Tracker) (event : Bool)
    (snapshot : t.regs.snapshot = some snap) (core : SameCore (s.updateTracker k event) t)
    (valid : k.valid = true → k.angle.toNat < snap.ppc.toNat) (invalid : k.valid = false → k.angle = 0) :
    t.angleInRange := by
  unfold SameCore at core
  rw [updateTracker_angle] at core
  unfold State.angleInRange
  rw [snapshot, core]
  exact ⟨fun _ h => (Option.some.inj h) ▸ large, fun h => ⟨snap, rfl, valid h⟩, invalid⟩

theorem judged_core (s : State) : SameCore s s.judgeWatches.judgeQuestions :=
  judgeQuestions_core (judgeWatches_core (.refl s))

theorem sampleStation_core {s t : State} (h : SameCore s t) (filter : Nat) (pres : Levels) (n : StationId) :
    SameCore s (t.sampleStation filter pres n) := by
  unfold State.sampleStation
  split <;> exact h

/-- In range, a snapshot bounds a valid angle. -/
theorem State.angleInRange.bounds {s : State} (h : s.angleInRange) {snap : Snapshot}
    (configured : s.regs.snapshot = some snap) :
    16 ≤ snap.ppc.toNat ∧ (s.tracker.valid = true → s.tracker.angle.toNat < snap.ppc.toNat) ∧
      (s.tracker.valid = false → s.tracker.angle = 0) := by
  refine ⟨h.1 snap configured, fun v => ?_, h.2.2⟩
  obtain ⟨snap', eq, below⟩ := h.2.1 v
  rw [configured] at eq
  exact (Option.some.inj eq) ▸ below

/-- A step of the blocks keeps the angle in its range. -/
theorem BlockStep.angleInRange {s t : State} (h : BlockStep s t) (range : s.angleInRange) : t.angleInRange := by
  have snapshot := h.beside.snapshot
  have same := SameCore.refl s
  have kept (core : SameCore s t) := angleInRange_of_core range snapshot core
  cases h with
  | takeMclk configured =>
    obtain ⟨large, _, invalid⟩ := range.bounds configured
    obtain ⟨valid', invalid'⟩ := Tracker.advance_range large invalid
    exact angleInRange_of_update large _ _ (snapshot.trans configured) (judged_core _) valid' invalid'
  | takeMidx configured =>
    obtain ⟨large, _, _⟩ := range.bounds configured
    obtain ⟨zero, valid⟩ := s.tracker.index_angle _
    exact angleInRange_of_update large _ _ (snapshot.trans configured) (judged_core _)
      (fun _ => by rw [zero]; simp; omega) (fun h => by simp [valid] at h)
  | takeStopTimeout timeout =>
    have core : SameCore (s.updateTracker { s.tracker with stopped := true, stopTimer := _ } true)
      (s.takeStopTimeout timeout) := judgeQuestions_core (.refl _)
    unfold SameCore at core
    rw [updateTracker_angle] at core
    unfold State.angleInRange
    rw [snapshot, core]
    exact range
  | requestSweep => exact kept (requestSweep_core same)
  | expireSweepTimer => exact kept (expireSweepTimer_core same _)
  | visitCard => exact kept (visitCard_core same _)
  | endStray => exact kept (endStray_core same _)
  | intakeVisit => exact kept (intakeVisit_core same _ _)
  | takeNotice => exact kept (takeNotice_core (setNotices_core same _) _)
  | sample => exact kept (forAll_core same _ (fun n _ hu => sampleStation_core hu _ _ n) _)
  | takeFit => exact kept (takeFit_core same _)
  | takeRemoval => exact kept (takeRemoval_core same _)
  | takeFault => exact kept (takeFault_core (modEngine_core same _ _) _ _)
  | recheck => exact kept (modStation_core same _ _)
  | clearFault => exact kept (clearFault_core same _)
  | expireGate => exact kept (expireGate_core same _ _)
  | endPulse => exact kept (endPulse_core same _)
  | modStage => exact kept (modEngine_core same _ _)
  | closeWindow => exact kept (closeWindow_core same _ _)
  | endSettle => exact kept (toGating_core same _ _)
  | endLevel => exact kept (endLevel_core same _)
  | endTail => exact kept (endTail_core same _)
  | readShelf => exact kept (readShelf_core same _)
  | endScoring => exact kept (endScoring_core same _ _)
  | writeResult => exact kept (setPhase_core (writeResult_core same _ _) _ _)
  | deliver => exact kept (deliver_core same _ _ _)
  | endOnEngine => exact kept (endOnEngine_core same _ _)
  | stopReaches => exact kept (stopReaches_core same _ _)
  | endStopped => exact kept (endStopped_core same _ _)
  | overload => exact kept (releaseDriver_core (faultStop_core (tripDriver_core same _) _ _) _)

/-! ## Enable, transaction end and resets on the tracker -/

theorem when_core {s t : State} (h : SameCore s t) (b : Bool) (act : State → State)
    (hk : ∀ u, SameCore s u → SameCore s (act u)) : SameCore s (if b then act t else t) := by
  split
  · exact hk t h
  · exact h

/-- An accepted configuration names a PPC of 16 or more (01 R16). -/
theorem readConfiguration_ppc {s : State} {snap : Snapshot} (h : s.readConfiguration = .ok snap) :
    16 ≤ snap.ppc.toNat := by
  unfold State.readConfiguration at h
  split_ifs at h with small
  split at h
  · cases h
  · cases h; exact Nat.le_of_not_lt small

/-- An accepted configuration after the tracker: engines, Supervisor, sweep timer and allocator are told (01 R16). -/
def State.tellBlocks (s : State) (first : Bool) : State :=
  let s4 := forAll allEngines (fun e t => t.resumeEngine e) s
  let s5 := if first then s4.activateSupervisor else s4
  (s5.setSweeper { s5.sweeper with timer := s5.readSweepPeriod }).allocate

/-- The snapshot taken, ENABLE set and config fault cleared (01 R16). -/
def State.takeConfiguration (s : State) (snap : Snapshot) : State :=
  (s.setRegs { s.regs with enable := true, snapshot := some snap }).put msConfigFault [codeNone]

/-- A configuration with the PPC of the one before leaves the tracker (01 R16, 04 R69). -/
theorem acceptConfiguration_same {s : State} {snap old : Snapshot} (before : s.regs.snapshot = some old)
    (same : old.ppc = snap.ppc) : s.acceptConfiguration snap = (s.takeConfiguration snap).tellBlocks false := by
  simp [State.acceptConfiguration, State.tellBlocks, State.takeConfiguration, State.configured, before, same]

/-- One with another PPC restarts the tracker. -/
theorem acceptConfiguration_changed {s : State} {snap old : Snapshot} (before : s.regs.snapshot = some old)
    (changed : old.ppc ≠ snap.ppc) :
    s.acceptConfiguration snap = (s.takeConfiguration snap).restartTracker.tellBlocks false := by
  simp [State.acceptConfiguration, State.tellBlocks, State.takeConfiguration, State.configured, before, changed]

/-- The first one restarts the tracker with its stop timer at 0, and the Supervisor becomes active. -/
theorem acceptConfiguration_first {s : State} {snap : Snapshot} (before : s.regs.snapshot = none) :
    s.acceptConfiguration snap =
      (((s.takeConfiguration snap).setTracker { s.tracker with stopTimer := 0 }).restartTracker).tellBlocks true := by
  simp [State.acceptConfiguration, State.tellBlocks, State.takeConfiguration, State.configured, before]

theorem tellBlocks_core {s t : State} (h : SameCore s t) (first : Bool) : SameCore s (t.tellBlocks first) :=
  allocate_core (setSweeper_core (when_core (forAll_core h _ (fun e _ hu => resumeEngine_core hu e) _) first
    State.activateSupervisor fun _ hu => activateSupervisor_core hu) _)

/-- An accepted configuration restarts the tracker where the PPC has changed, and else leaves angle and PPC (04 R69). -/
theorem acceptConfiguration_angleInRange {s : State} {snap : Snapshot} (range : s.angleInRange)
    (large : 16 ≤ snap.ppc.toNat) : (s.acceptConfiguration snap).angleInRange := by
  have snapshot : (s.acceptConfiguration snap).regs.snapshot = some snap := (acceptConfiguration_beside s snap).snapshot
  have restarted (u : State) (first : Bool) (h : s.acceptConfiguration snap = u.restartTracker.tellBlocks first) :
      (s.acceptConfiguration snap).angleInRange := by
    refine angleInRange_of_update (s := u) large { u.tracker with angle := 0, valid := false } false snapshot ?_
      (fun h => by simp at h) (fun _ => rfl)
    rw [h]
    exact tellBlocks_core (judged_core _) first
  cases before : s.regs.snapshot with
  | none => exact restarted _ _ (acceptConfiguration_first before)
  | some old =>
    by_cases same : old.ppc = snap.ppc
    · obtain ⟨_, valid, invalid⟩ := range.bounds before
      have core : SameCore (s.takeConfiguration snap) (s.acceptConfiguration snap) := by
        rw [acceptConfiguration_same before same]
        exact tellBlocks_core (.refl _) false
      have angle : (s.acceptConfiguration snap).tracker.angle = s.tracker.angle := core.angle
      have validity : (s.acceptConfiguration snap).tracker.valid = s.tracker.valid := core.valid
      unfold State.angleInRange
      rw [snapshot, angle, validity]
      exact ⟨fun _ h => (Option.some.inj h) ▸ large, fun h => ⟨snap, rfl, same ▸ valid h⟩, invalid⟩
    · exact restarted _ _ (acceptConfiguration_changed before same)

/-! ## The end of a reset -/

/-- State t comes from state s by writes of exchange memory and causes that are set. -/
def Rewrites (s t : State) : Prop :=
  t = { s with mem := t.mem, regs := { s.regs with causes := t.regs.causes } }

namespace Rewrites
variable {s t u : State}

theorem refl (s : State) : Rewrites s s := rfl

theorem trans (h : Rewrites s t) (k : Rewrites t u) : Rewrites s u := by
  obtain ⟨m, c, rfl⟩ : ∃ m c, t = { s with mem := m, regs := { s.regs with causes := c } } := ⟨_, _, h⟩
  exact k

theorem put (h : Rewrites s t) (a : Nat) (bs : List Byte) : Rewrites s (t.put a bs) :=
  h.trans rfl

theorem raise (h : Rewrites s t) (c : BitVec 5) : Rewrites s (t.raise c) := h.trans rfl

theorem raiseIf (h : Rewrites s t) (b : Bool) (c : BitVec 5) : Rewrites s (t.raiseIf b c) := by
  unfold State.raiseIf
  split
  · exact h.raise c
  · exact h

theorem forAll {α : Type} {act : α → State → State} (ha : ∀ x u, Rewrites s u → Rewrites s (act x u)) (xs : List α)
    (h : Rewrites s t) : Rewrites s (forAll xs act t) := forAll_invariant ha xs h

theorem resetRecord (h : Rewrites s t) (n : StationId) : Rewrites s (t.resetRecord n) :=
  forAll (fun _ _ hu => ((hu.put _ _).put _ _).put _ _) _ (h.put _ _)

theorem recoverCard (h : Rewrites s t) (k : CardId) : Rewrites s (t.recoverCard k) := by
  unfold State.recoverCard
  split
  · exact (((h.put _ _).put _ _).put _ _).raiseIf _ _
  · exact h

end Rewrites

/-- The end of a reset writes exchange memory and may set CARD_END, on the reset values of every block. -/
theorem finishReset_rewrites (s : State) : Rewrites s.resetBlocks s.finishReset :=
  .forAll (fun k _ hu => hu.recoverCard k) _
    (.forAll (fun n _ hu => hu.resetRecord n) _ ((Rewrites.refl s.resetBlocks).put _ _))

theorem finishReset_tracker (s : State) : s.finishReset.tracker = Tracker.reset :=
  congrArg State.tracker (finishReset_rewrites s)

theorem angleInRange_of_reset {t : State} (h : t.tracker = Tracker.reset) (off : t.regs.snapshot = none) :
    t.angleInRange := by
  unfold State.angleInRange
  rw [h, off]
  simp [Tracker.reset]

theorem finishReset_angleInRange (s : State) : s.finishReset.angleInRange :=
  angleInRange_of_reset (finishReset_tracker s) (finishReset_beside s).snapshot

theorem takeShelfFixed_core {s t : State} (h : SameCore s t) : SameCore s t.takeShelfFixed := by
  unfold State.takeShelfFixed
  dsimp only
  split
  · exact forAll_core (by exact h) _ (fun e _ hu => modEngine_core hu e _) _
  · exact h

theorem endTransaction_core (s : State) : SameCore s s.endTransaction := by
  have cancelled := forAll_core (.refl s) (fun k t => if s.port.cancelNotes[k.val] then t.passCancel k else t)
    (fun k _ hu => when_core hu _ (·.passCancel k) fun _ hu => passCancel_core hu k) allCards
  have noticed := forAll_core cancelled (fun n t => if s.port.setupNotes[n.val] then t.setupNotice n else t)
    (fun n _ hu => when_core hu _ (·.setupNotice n) fun _ hu => setupNotice_core hu n) allStations
  have shelf := when_core noticed s.port.shelfNote State.takeShelfFixed fun _ hu => takeShelfFixed_core hu
  have timed := when_core shelf s.port.periodNote State.noticePeriod fun _ hu => noticePeriod_core hu
  have reread := forAll_core timed (fun e t => t.modEngine e Engine.afterTransaction)
    (fun e _ hu => modEngine_core hu e _) allEngines
  unfold State.endTransaction
  dsimp only
  exact reread

/-- A command keeps the angle in its range. -/
theorem Does.angleInRange {c : Instr} {s t : State} (h : Does c s t) (range : s.angleInRange) : t.angleInRange := by
  have front {u w : State} (f : FrontOnly u w) (h : u.angleInRange) : w.angleInRange :=
    angleInRange_of_core h (by rw [f.regs]) f.core
  cases h with
  | front f => exact front f range
  | block f _ h after => exact front after (h.angleInRange (front f range))
  | offers f =>
    refine angleInRange_of_eq (front f range) ?_ ?_ ?_
    · rw [offerByte_regs]
    · rw [offerByte_tracker]
    · rw [offerByte_tracker]
  | @enables _ _ _ u f _ _ sweep =>
    have enabled : u.enablePart.angleInRange := by
      obtain ⟨offset, eq⟩ | ⟨snap, configuration, eq⟩ := enablePart_cases u
      · rw [eq]
        exact angleInRange_of_core (front f range) (rejectConfiguration_beside u offset).snapshot rfl
      · rw [eq]
        exact acceptConfiguration_angleInRange (front f range) (readConfiguration_ppc configuration)
    exact angleInRange_of_core enabled (enables_beside u sweep).snapshot
      (when_core (.refl _) _ State.requestSweep fun _ hu => requestSweep_core hu)
  | @disables _ _ u f =>
    refine angleInRange_of_core (front f range) (disablePart_beside u).snapshot ?_
    exact setSweeper_core (forAll_core (by exact SameCore.refl u) _ (fun e _ hu => holdEngine_core hu e) _) _
  | @resetsSoft _ _ u f =>
    rw [State.softReset]
    exact angleInRange_of_eq (finishReset_angleInRange u) (by rw [State.setPort_regs]) (by rw [State.setPort_tracker])
      (by rw [State.setPort_tracker])
  | clears f v => exact angleInRange_of_core (front f range) rfl rfl
  | masks f v => exact angleInRange_of_core (front f range) rfl rfl
  | ends f => exact angleInRange_of_core (front f range) (by rw [(endTransaction_rest _).2.2]) (endTransaction_core _)
  | resets =>
    refine angleInRange_of_core range (by rw [State.assertReset_regs]) ?_
    unfold SameCore State.assertReset
    dsimp only
    split <;> simp [State.beginReset]
  | releases =>
    unfold State.releaseReset
    dsimp only
    split
    · exact angleInRange_of_core range rfl rfl
    · exact finishReset_angleInRange _
  | powersOn => exact angleInRange_of_reset rfl rfl

/-- Settles O7: the clock leaves angle and snapshot, and every command keeps the range. -/
theorem stepKeepsTheAngleInRange : Obligations.StepKeepsTheAngleInRange := by
  intro s t range h
  obtain ⟨_, rfl⟩ | ⟨c, rest, _, does⟩ := step_cases h
  · have rest := s.tick_rest
    exact angleInRange_of_eq range (congrArg (·.regs.snapshot) rest) (congrArg (·.tracker.angle) rest)
      (congrArg (·.tracker.valid) rest)
  · exact does.angleInRange (angleInRange_of_core range rfl rfl)

end Sys2Proof.Machine
end

section
/-! The places of engines, stations and Crosspoint: what leaves them, what a grant and a release make of them (05 R85 to
R90). -/

namespace Sys2Proof.Machine

/-- Engine e is outside IDLE. -/
def State.busy (s : State) (e : EngineId) : Prop := (s.engine e).phase ≠ .idle

/-- Every place, every point and every engine's being busy are as before. -/
structure SamePlaces (s t : State) : Prop where
  holds : t.holds = s.holds
  crosspoint : t.crosspoint = s.crosspoint
  job : ∀ e, (t.engine e).job = (s.engine e).job
  busy : ∀ e, t.busy e ↔ s.busy e

section
variable {s t u : State}

theorem SamePlaces.refl (s : State) : SamePlaces s s := ⟨rfl, rfl, fun _ => rfl, fun _ => .rfl⟩

theorem SamePlaces.trans (h : SamePlaces s t) (k : SamePlaces t u) : SamePlaces s u :=
  ⟨k.holds.trans h.holds, k.crosspoint.trans h.crosspoint, fun e => (k.job e).trans (h.job e),
    fun e => (k.busy e).trans (h.busy e)⟩

theorem SamePlaces.of_eq (holds : t.holds = s.holds) (crosspoint : t.crosspoint = s.crosspoint)
    (engines : t.engines = s.engines) : SamePlaces s t :=
  ⟨holds, crosspoint, fun e => by rw [State.engine_eq engines e],
    fun e => by rw [State.busy, State.engine_eq engines e, State.busy]⟩

theorem FrontOnly.places (f : FrontOnly s t) : SamePlaces s t := .of_eq f.holds f.crosspoint f.engines

/-- The agreement of the places rests on them. -/
theorem SamePlaces.holdsAgree (h : SamePlaces s t) (agree : s.holdsAgree) : t.holdsAgree := by
  obtain ⟨held, points, free⟩ := agree
  refine ⟨fun e n => ?_, fun e => ?_, fun e => ?_⟩
  · simp only [State.holder, h.holds, h.job]
    exact held e n
  · simp only [State.point, h.crosspoint, h.job]
    exact points e
  · rw [h.job]
    exact (free e).trans (not_iff_not.mp (h.busy e)).symm

theorem forAll_places {α : Type} (h : SamePlaces s t) {act : α → State → State}
    (hk : ∀ x (u : State), SamePlaces s u → SamePlaces s (act x u)) (xs : List α) : SamePlaces s (forAll xs act t) :=
  forAll_invariant hk xs h

theorem when_places (h : SamePlaces s t) (b : Bool) (act : State → State)
    (hk : ∀ u, SamePlaces s u → SamePlaces s (act u)) : SamePlaces s (if b then act t else t) := by
  split
  · exact hk t h
  · exact h

/-! ## Updates that leave every place -/

theorem put_places (h : SamePlaces s t) (a : Nat) (bs : List Byte) :
    SamePlaces s (t.put a bs) := h.trans (.of_eq rfl rfl rfl)
theorem setPort_places (h : SamePlaces s t) (p : Port) : SamePlaces s (t.setPort p) := h.trans (.of_eq rfl rfl rfl)
theorem setRegs_places (h : SamePlaces s t) (r : Registers) : SamePlaces s (t.setRegs r) := h.trans (.of_eq rfl rfl rfl)
theorem setSweeper_places (h : SamePlaces s t) (w : Sweeper) :
    SamePlaces s (t.setSweeper w) := h.trans (.of_eq rfl rfl rfl)
theorem setWaiting_places (h : SamePlaces s t) (l : List Entry) :
    SamePlaces s (t.setWaiting l) := h.trans (.of_eq rfl rfl rfl)
theorem setNotices_places (h : SamePlaces s t) (l : List Notice) :
    SamePlaces s (t.setNotices l) := h.trans (.of_eq rfl rfl rfl)
theorem setTracker_places (h : SamePlaces s t) (k : Tracker) :
    SamePlaces s (t.setTracker k) := h.trans (.of_eq rfl rfl rfl)
theorem setCache_places (h : SamePlaces s t) (c : Cache) : SamePlaces s (t.setCache c) := h.trans (.of_eq rfl rfl rfl)
theorem setOverloadHold_places (h : SamePlaces s t) (l : Levels) :
    SamePlaces s (t.setOverloadHold l) := h.trans (.of_eq rfl rfl rfl)
theorem modStation_places (h : SamePlaces s t) (n : StationId) (f : Station → Station) :
    SamePlaces s (t.modStation n f) := h.trans (.of_eq rfl rfl rfl)
theorem setQuestion_places (h : SamePlaces s t) (e : EngineId) (q : Option Question) :
    SamePlaces s (t.setQuestion e q) := h.trans (.of_eq rfl rfl rfl)
theorem setWatch_places (h : SamePlaces s t) (e : EngineId) (w : Option Watch) :
    SamePlaces s (t.setWatch e w) := h.trans (.of_eq rfl rfl rfl)

theorem raiseIf_places (h : SamePlaces s t) (b : Bool) (c : BitVec 5) : SamePlaces s (t.raiseIf b c) :=
  when_places h b _ fun _ hu => setRegs_places hu _

/-! ## Updates of an engine -/

/-- An update of an engine that leaves its place and its being busy. -/
theorem modEngine_places (h : SamePlaces s t) (e : EngineId) {f : Engine → Engine}
    (job : (f (t.engine e)).job = (t.engine e).job) (busy : (f (t.engine e)).phase ≠ .idle ↔ t.busy e) :
    SamePlaces s (t.modEngine e f) := by
  refine h.trans ⟨rfl, rfl, fun e' => ?_, fun e' => ?_⟩
  · rw [State.engine_modEngine]
    split
    · rename_i eq; rw [eq, job]
    · rfl
  · rw [State.busy, State.engine_modEngine]
    split
    · rename_i eq; rw [eq, busy]
    · exact .rfl

/-- An update that leaves state and place. -/
theorem modEngine_stage_places (h : SamePlaces s t) (e : EngineId) {f : Engine → Engine}
    (keeps : ∀ g, (f g).phase = g.phase ∧ (f g).job = g.job := by intro g; exact ⟨rfl, rfl⟩) :
    SamePlaces s (t.modEngine e f) :=
  modEngine_places h e (keeps _).2 (by rw [(keeps _).1, State.busy])

/-- A busy engine goes on in some state outside IDLE. -/
theorem modEngine_busy_places (h : SamePlaces s t) {e : EngineId} (b : s.busy e) {f : Engine → Engine}
    (keeps : ∀ g, (f g).phase ≠ .idle ∧ (f g).job = g.job := by intro g; exact ⟨nofun, rfl⟩) : SamePlaces s (t.modEngine e f) :=
  modEngine_places h e (keeps _).2 (iff_of_true (keeps _).1 ((h.busy e).mpr b))

theorem setPhase_places (h : SamePlaces s t) {e : EngineId} (b : s.busy e) {p : Phase} (hp : p ≠ .idle := by nofun) :
    SamePlaces s (t.setPhase e p) := modEngine_busy_places h b fun _ => ⟨hp, rfl⟩

theorem addFlag_places (h : SamePlaces s t) (e : EngineId) (f : Half) : SamePlaces s (t.addFlag e f) :=
  modEngine_stage_places h e

theorem setVerdict_places (h : SamePlaces s t) (e : EngineId) (v : Verdict) : SamePlaces s (t.setVerdict e v) :=
  modEngine_stage_places h e

theorem stopNow_places (h : SamePlaces s t) {e : EngineId} (b : s.busy e) : SamePlaces s (t.stopNow e) :=
  setQuestion_places (setWatch_places (modEngine_busy_places h b) _ _) _ _

theorem faultStop_places (h : SamePlaces s t) {e : EngineId} (b : s.busy e) (c : FaultCause) :
    SamePlaces s (t.faultStop e c) :=
  stopNow_places (modEngine_stage_places h e) b

theorem busy_of_phase {e : EngineId} {p : Phase} (h : (s.engine e).phase = p) (hp : p ≠ .idle) : s.busy e := by
  rw [State.busy, h]; exact hp

theorem takeStop_places (h : SamePlaces s t) (e : EngineId) (x : Stop) : SamePlaces s (t.takeStop e x) := by
  unfold State.takeStop
  dsimp only
  split
  · exact h
  · exact h
  · rename_i notIdle _
    have b : s.busy e := (h.busy e).mp notIdle
    have fixed : SamePlaces s (t.modEngine e fun g => { g.fixOutcome (outcomeOf x) with stopAtHoldBegin := false }) :=
      modEngine_stage_places h e
    split_ifs
    · exact h
    · exact fixed
    · exact stopNow_places fixed b

theorem startRound_places (h : SamePlaces s t) {e : EngineId} (b : s.busy e) : SamePlaces s (t.startRound e) := by
  unfold State.startRound
  split
  · exact modEngine_busy_places h b fun g => ⟨nofun, by dsimp only; split <;> rfl⟩
  · exact h

theorem startFrame_places (h : SamePlaces s t) {e : EngineId} (b : s.busy e) : SamePlaces s (t.startFrame e) := by
  unfold State.startFrame
  split
  · exact modEngine_busy_places h b
  · exact h

theorem startWork_places (h : SamePlaces s t) {e : EngineId} (b : s.busy e) (w : Work) :
    SamePlaces s (t.startWork e w) := by
  unfold State.startWork
  split
  · split
    · exact faultStop_places h b _
    · cases w with
      | frame => exact startFrame_places h b
      | round => exact startRound_places h b
  · exact h

theorem judgeQuestion_places (h : SamePlaces s t) (e : EngineId) : SamePlaces s (t.judgeQuestion e) := by
  unfold State.judgeQuestion
  split
  · rename_i gating _
    have b : s.busy e := (h.busy e).mp (busy_of_phase gating nofun)
    dsimp only
    split
    · exact h
    · split
      · exact h
      · exact startWork_places (setWatch_places (setQuestion_places h _ _) _ _) b _
  · exact h

theorem judgeQuestions_places (h : SamePlaces s t) : SamePlaces s t.judgeQuestions :=
  forAll_places h (fun e _ hu => judgeQuestion_places hu e) _

theorem askQuestion_places (h : SamePlaces s t) {e : EngineId} (b : s.busy e) (w : Work) :
    SamePlaces s (t.askQuestion e w) :=
  judgeQuestion_places (setQuestion_places (setPhase_places h b) _ _) e

theorem judgeWatch_places (h : SamePlaces s t) (e : EngineId) : SamePlaces s (t.judgeWatch e) := by
  unfold State.judgeWatch
  split
  · split
    · exact modEngine_stage_places (setWatch_places h _ _) e fun g => by split <;> exact ⟨rfl, rfl⟩
    · exact h
  · exact h

theorem judgeWatches_places (h : SamePlaces s t) : SamePlaces s t.judgeWatches :=
  forAll_places h (fun e _ hu => judgeWatch_places hu e) _

theorem updateTracker_places (h : SamePlaces s t) (k : Tracker) (event : Bool) :
    SamePlaces s (t.updateTracker k event) :=
  raiseIf_places (put_places (put_places (setTracker_places h k) _ _) _ _) _ _

/-! ## Steps of an engine (05, 08) -/

theorem ite_phase_ne_idle {c : Prop} [Decidable c] {p q : Phase} (hp : p ≠ .idle) (hq : q ≠ .idle) :
    (if c then p else q) ≠ .idle := by split <;> assumption

theorem toGating_places (h : SamePlaces s t) {e : EngineId} (b : s.busy e) (w : Work) :
    SamePlaces s (t.toGating e w) := by
  unfold State.toGating
  split
  · exact askQuestion_places h b w
  · exact setPhase_places h b

theorem toWriting_places (h : SamePlaces s t) {e : EngineId} (b : s.busy e) : SamePlaces s (t.toWriting e) :=
  setPhase_places h b (ite_phase_ne_idle nofun nofun)

theorem beginSettling_places (h : SamePlaces s t) {e : EngineId} (b : s.busy e) : SamePlaces s (t.beginSettling e) :=
  modEngine_busy_places h b

theorem toSettling_places (h : SamePlaces s t) {e : EngineId} (b : s.busy e) : SamePlaces s (t.toSettling e) := by
  unfold State.toSettling
  split
  · exact beginSettling_places h b
  · exact setPhase_places h b

theorem beginScoring_places (h : SamePlaces s t) {e : EngineId} (b : s.busy e) : SamePlaces s (t.beginScoring e) :=
  modEngine_busy_places h b

theorem toScoring_places (h : SamePlaces s t) {e : EngineId} (b : s.busy e) : SamePlaces s (t.toScoring e) := by
  unfold State.toScoring
  split
  · exact beginScoring_places h b
  · exact setPhase_places h b

theorem lookupUnlisted_places (h : SamePlaces s t) {e : EngineId} (b : s.busy e) : SamePlaces s (t.lookupUnlisted e) :=
  toWriting_places (modEngine_stage_places (setVerdict_places h e _) e) b

theorem lookupFailed_places (h : SamePlaces s t) {e : EngineId} (b : s.busy e) (i : ShelfId) (x : ErrorCode) :
    SamePlaces s (t.lookupFailed e i x) :=
  toWriting_places (modEngine_stage_places h e) b

theorem lookupFound_places (h : SamePlaces s t) {e : EngineId} (b : s.busy e) (i : ShelfId) (p : Profile) :
    SamePlaces s (t.lookupFound e i p) := by
  have found : SamePlaces s (t.modEngine e fun g =>
      { g with profile := some p, profileIndex := some i, lookup := Lookup.reset }) :=
    modEngine_stage_places h e
  unfold State.lookupFound
  dsimp only
  split
  · exact toGating_places (modEngine_stage_places found e) b _
  · exact toWriting_places (addFlag_places (setVerdict_places found e _) e _) b

theorem beginLookup_places (h : SamePlaces s t) {e : EngineId} (b : s.busy e) : SamePlaces s (t.beginLookup e) := by
  have begun : SamePlaces s (t.modEngine e fun g => { g with
      phase := .computing .lookup, lookup := { Lookup.reset with fixedThroughout := t.regs.shelfFixed } }) :=
    modEngine_busy_places h b
  unfold State.beginLookup
  dsimp only
  split
  · split
    · exact lookupFound_places (addFlag_places (setCache_places begun _) e _) b _ _
    · exact begun
  · exact begun

theorem toLookup_places (h : SamePlaces s t) {e : EngineId} (b : s.busy e) : SamePlaces s (t.toLookup e) := by
  unfold State.toLookup
  split
  · exact beginLookup_places h b
  · exact setPhase_places h b

theorem offerRecord_places (h : SamePlaces s t) (e : EngineId) (i : ShelfId) (r : List Byte) :
    SamePlaces s (t.offerRecord e i r) := by
  unfold State.offerRecord
  split
  · exact setCache_places h _
  · exact h

theorem passOver_places (h : SamePlaces s t) {e : EngineId} (b : s.busy e) : SamePlaces s (t.passOver e) := by
  unfold State.passOver
  dsimp only
  split
  · exact lookupUnlisted_places h b
  · exact modEngine_stage_places h e

theorem damagedCandidate_places (h : SamePlaces s t) {e : EngineId} (b : s.busy e) :
    SamePlaces s (t.damagedCandidate e) := by
  unfold State.damagedCandidate
  dsimp only
  split
  · exact lookupFailed_places h b _ _
  · exact modEngine_stage_places h e

theorem readShelf_places (h : SamePlaces s t) {e : EngineId} (b : s.busy e) : SamePlaces s (t.readShelf e) := by
  have read (record : List Byte) (crc : Half) : SamePlaces s (t.modEngine e fun g =>
      { g with lookup := { g.lookup with buffer := record, crc := crc } }) :=
    modEngine_stage_places h e
  unfold State.readShelf
  dsimp only
  split_ifs
  · exact passOver_places (read _ _) b
  · exact damagedCandidate_places (read _ _) b
  · exact lookupFailed_places (read _ _) b _ _
  · exact lookupFound_places (offerRecord_places (read _ _) e _ _) b _ _

theorem resumeEngine_places (h : SamePlaces s t) (e : EngineId) : SamePlaces s (t.resumeEngine e) := by
  have b {next : NextStep} (held : (t.engine e).phase = .held next) : s.busy e :=
    (h.busy e).mp (busy_of_phase held nofun)
  unfold State.resumeEngine
  split
  · split
    · exact judgeQuestion_places (setQuestion_places (setPhase_places h (b ‹_›)) _ _) e
    · exact askQuestion_places h (b ‹_›) _
  · exact beginSettling_places h (b ‹_›)
  · exact beginLookup_places h (b ‹_›)
  · exact beginScoring_places h (b ‹_›)
  · exact setPhase_places h (b ‹_›)
  · exact h

theorem holdEngine_places (h : SamePlaces s t) (e : EngineId) : SamePlaces s (t.holdEngine e) := by
  unfold State.holdEngine
  split
  · rename_i gating
    have b : s.busy e := (h.busy e).mp (busy_of_phase gating nofun)
    exact setQuestion_places (setPhase_places h b) _ _
  · exact h

/-! ## Frames and rounds (07, 06) -/

theorem endLevel_places (h : SamePlaces s t) {e : EngineId} (b : s.busy e) : SamePlaces s (t.endLevel e) := by
  unfold State.endLevel
  dsimp only
  split
  · split
    · exact stopNow_places h b
    · exact modEngine_stage_places h e fun g => by unfold Engine.resample; split_ifs <;> exact ⟨rfl, rfl⟩
  · exact h

theorem goodFrame_places (h : SamePlaces s t) {e : EngineId} (b : s.busy e) (r : List Byte) :
    SamePlaces s (t.goodFrame e r) := by
  have recorded : SamePlaces s (t.modEngine e fun g => { g with tagRecord := some r }) :=
    modEngine_stage_places h e
  unfold State.goodFrame
  dsimp only
  split_ifs
  · exact toWriting_places recorded b
  · exact toWriting_places (modEngine_stage_places recorded e) b
  · exact toLookup_places recorded b

theorem failedFrame_places (h : SamePlaces s t) {e : EngineId} (b : s.busy e) (c : FrameCause) :
    SamePlaces s (t.failedFrame e c) := by
  have failed : SamePlaces s (t.modEngine e fun g =>
      { (if c = .disturbed then g.addFlag flagDisturbed else g) with lastFailure := some c }) :=
    modEngine_stage_places h e fun g => by dsimp only; split_ifs <;> exact ⟨rfl, rfl⟩
  unfold State.failedFrame
  dsimp only
  split
  · exact toGating_places failed b _
  · exact toWriting_places (setVerdict_places (addFlag_places failed e _) e _) b

theorem endTail_places (h : SamePlaces s t) {e : EngineId} (b : s.busy e) : SamePlaces s (t.endTail e) := by
  have counted : SamePlaces s ((t.modEngine e fun g =>
      { g with frameAttempts := g.frameAttempts + 1, frame := Frame.reset }).closeWatch e) :=
    setWatch_places (modEngine_stage_places h e) e none
  unfold State.endTail
  dsimp only
  split
  · exact goodFrame_places counted b _
  · exact failedFrame_places counted b _

theorem endPulse_places (h : SamePlaces s t) {e : EngineId} (b : s.busy e) : SamePlaces s (t.endPulse e) := by
  unfold State.endPulse
  split
  · exact stopNow_places h b
  · exact modEngine_busy_places h b fun g => ⟨nofun, (g.reach_keeps _ _ _).2⟩

theorem closeWindow_places (h : SamePlaces s t) {e : EngineId} (b : s.busy e) (n : Nat) :
    SamePlaces s (t.closeWindow e n) := by
  have judged : SamePlaces s ((t.modEngine e fun g => g.judgeRound n).closeWatch e) :=
    setWatch_places (modEngine_stage_places h e fun g => by unfold Engine.judgeRound; split <;> exact ⟨rfl, rfl⟩) e none
  unfold State.closeWindow
  dsimp only
  split
  · exact toScoring_places (modEngine_stage_places judged e) b
  · exact toSettling_places judged b

theorem expireGate_places (h : SamePlaces s t) {e : EngineId} (b : s.busy e) (w : Work) :
    SamePlaces s (t.expireGate e w) := by
  have flagged : SamePlaces s ((t.withdrawQuestion e).addFlag e flagGateTimeout) :=
    addFlag_places (setQuestion_places h e none) e _
  unfold State.expireGate
  cases w with
  | frame => exact toWriting_places (setVerdict_places flagged e _) b
  | round => exact toScoring_places (modEngine_stage_places flagged e) b

theorem stopReaches_places (h : SamePlaces s t) (e : EngineId) (x : Stop) : SamePlaces s (t.stopReaches e x) := by
  unfold State.stopReaches
  dsimp only
  split
  · exact takeStop_places (modEngine_stage_places h e) e x
  · exact modEngine_stage_places h e

/-! ## Stations (03) -/

theorem writeSlot_places (h : SamePlaces s t) (n : StationId) (p : SlotId) (f : SlotFields) :
    SamePlaces s (t.writeSlot n p f) := by
  unfold State.writeSlot
  dsimp only
  split
  · exact h
  · exact put_places (put_places (put_places (put_places h _ _) _ _) _ _) _ _

theorem resetSlots_places (h : SamePlaces s t) (n : StationId) (ps : List SlotId) : SamePlaces s (t.resetSlots n ps) :=
  forAll_places h (fun p _ hu => writeSlot_places hu n p _) ps

theorem refreshHeldPermit_places (h : SamePlaces s t) (n : StationId) : SamePlaces s (t.refreshHeldPermit n) := by
  unfold State.refreshHeldPermit
  split
  · exact modStation_places h n _
  · exact h

theorem settleRecord_places (h : SamePlaces s t) (n : StationId) (before : Byte × Byte × Byte) :
    SamePlaces s (t.settleRecord n before) := by
  have recorded := put_places h (stationBase n + stState) [(t.derived n (t.held n)).code]
  unfold State.settleRecord
  dsimp only
  refine modStation_places ?_ n _
  split
  · exact recorded
  · exact raiseIf_places (put_places (put_places recorded _ _) _ _) _ _

theorem stationEvent_places (h : SamePlaces s t) (n : StationId) {act : State → State}
    (ha : ∀ u, SamePlaces s u → SamePlaces s (act u)) : SamePlaces s (t.stationEvent n act) :=
  settleRecord_places (ha t h) n _

theorem markLoss_places (h : SamePlaces s t) (n : StationId) (l : Loss) : SamePlaces s (t.markLoss n l) :=
  when_places h _ _ fun _ hu => modStation_places hu n _

theorem sendStop_places (h : SamePlaces s t) (n : StationId) (x : Stop) : SamePlaces s (t.sendStop n x) := by
  unfold State.sendStop
  split
  · exact modEngine_stage_places h _
  · exact h

theorem tellList_places (h : SamePlaces s t) (n : StationId) (ev : StationEvent) : SamePlaces s (t.tellList n ev) :=
  setNotices_places h _

theorem clearFault_places (h : SamePlaces s t) (n : StationId) : SamePlaces s (t.clearFault n) :=
  stationEvent_places h n fun _ hu => put_places (modStation_places hu n _) _ _

theorem takeFault_places (h : SamePlaces s t) (n : StationId) (c : FaultCause) : SamePlaces s (t.takeFault n c) := by
  unfold State.takeFault
  dsimp only
  split
  · exact h
  · exact tellList_places (markLoss_places (stationEvent_places h n fun _ hu =>
      refreshHeldPermit_places (resetSlots_places (put_places (modStation_places hu n _) _ _) n _) n) n _) n _

theorem takeFit_places (h : SamePlaces s t) (n : StationId) : SamePlaces s (t.takeFit n) :=
  stationEvent_places h n fun _ hu => put_places (modStation_places hu n _) _ _

theorem takeRemoval_places (h : SamePlaces s t) (n : StationId) : SamePlaces s (t.takeRemoval n) :=
  tellList_places (markLoss_places (sendStop_places (stationEvent_places h n fun _ hu =>
    refreshHeldPermit_places (resetSlots_places (put_places (modStation_places hu n _) _ _) n _) n) n _) n _) n _

theorem disableStation_places (h : SamePlaces s t) (n : StationId) : SamePlaces s (t.disableStation n) :=
  tellList_places (markLoss_places (sendStop_places (stationEvent_places h n fun _ hu =>
    refreshHeldPermit_places (resetSlots_places (put_places (modStation_places hu n _) _ _) n _) n) n _) n _) n _

theorem enableStation_places (h : SamePlaces s t) (n : StationId) : SamePlaces s (t.enableStation n) :=
  stationEvent_places h n fun _ hu => modStation_places hu n _

theorem changeRoster_places (h : SamePlaces s t) (n : StationId) (c : Setup) : SamePlaces s (t.changeRoster n c) :=
  tellList_places (stationEvent_places h n fun _ hu => resetSlots_places (modStation_places hu n _) n _) n _

theorem changePolicy_places (h : SamePlaces s t) (n : StationId) (b : Bool) : SamePlaces s (t.changePolicy n b) := by
  unfold State.changePolicy State.evaluatePermit
  exact modStation_places (modStation_places h n _) n _

theorem changeArcs_places (h : SamePlaces s t) (n : StationId) (a b : Half) : SamePlaces s (t.changeArcs n a b) := by
  unfold State.changeArcs
  dsimp only
  split
  · exact judgeQuestion_places (modStation_places h n _) _
  · exact modStation_places h n _

/-- What each part of acting on setup keeps, the whole keeps (03 R47 to R50). -/
theorem State.actOnSetup_stages {P : State → Prop} {n : StationId} {c : Setup} {held : Bool} (h : P s)
    (disable : ∀ u, P u → P (u.disableStation n)) (enable : ∀ u, P u → P (u.enableStation n))
    (roster : ∀ u, P u → P (u.changeRoster n c)) (policy : ∀ u, P u → P (u.changePolicy n c.advise))
    (restart : ∀ u, P u → P (u.changeRestart n c.auto))
    (arcs : ∀ u, P u → P (u.changeArcs n c.arcStart c.arcEnd)) : P (s.actOnSetup n c held) := by
  have when {u v : State} (q : Prop) [Decidable q] (hu : P u) (hv : P v) : P (if q then v else u) := by
    split_ifs <;> assumption
  have switched : P (if (s.station n).setup.enabled && !c.enabled then s.disableStation n
      else if !(s.station n).setup.enabled && c.enabled then s.enableStation n else s) := by
    split_ifs
    · exact disable s h
    · exact enable s h
    · exact h
  have rostered := when (held = true) (when (rosterDiffers (s.station n).setup c = true) switched (roster _ switched))
    switched
  have policied := when (held = true) (when ((s.station n).setup.advise ≠ c.advise) rostered (policy _ rostered))
    rostered
  have restarted := when ((s.station n).setup.auto ≠ c.auto) policied (restart _ policied)
  exact when _ restarted (arcs _ restarted)

theorem actOnSetup_places (h : SamePlaces s t) (n : StationId) (c : Setup) (held : Bool) :
    SamePlaces s (t.actOnSetup n c held) :=
  State.actOnSetup_stages (P := SamePlaces s) h (fun _ hu => disableStation_places hu n)
    (fun _ hu => enableStation_places hu n) (fun _ hu => changeRoster_places hu n c)
    (fun _ hu => changePolicy_places hu n _) (fun _ hu => modStation_places hu n _)
    fun _ hu => changeArcs_places hu n _ _

theorem setupNotice_places (h : SamePlaces s t) (n : StationId) : SamePlaces s (t.setupNotice n) := by
  unfold State.setupNotice
  dsimp only
  split_ifs
  · exact h
  · exact modStation_places (actOnSetup_places h n _ _) n _
  · exact actOnSetup_places h n _ _

theorem activateSupervisor_places (h : SamePlaces s t) : SamePlaces s t.activateSupervisor :=
  forAll_places h (fun n _ hu => stationEvent_places hu n fun _ hv => modStation_places hv n _) _

theorem holdBegin_places (h : SamePlaces s t) (n : StationId) (e : EngineId) : SamePlaces s (t.holdBegin n e) := by
  have event : SamePlaces s (t.stationEvent n fun s => (s.modStation n fun t =>
      { t with heldPermit := t.permit, lossMark := s.lossAtHoldBegin n }).put (stationBase n + stHolder)
        [BitVec.ofNat 8 e.val]) :=
    stationEvent_places h n fun _ hu => put_places (modStation_places hu n _) _ _
  unfold State.holdBegin
  dsimp only
  split
  · exact modEngine_stage_places event e
  · exact event

theorem holdEnd_places (h : SamePlaces s t) (n : StationId) : SamePlaces s (t.holdEnd n) := by
  have event : SamePlaces s ((t.stationEvent n fun s => s.put (stationBase n + stHolder) [codeNone]).modStation n
      fun t => { t with deferred := false }) :=
    modStation_places (stationEvent_places h n fun _ hu => put_places hu _ _) n _
  unfold State.holdEnd
  dsimp only
  split
  · exact setupNotice_places event n
  · exact event

/-! ## Cards (02) -/

theorem finishCard_places (h : SamePlaces s t) (k : CardId) (b : Byte) (notify : Bool) :
    SamePlaces s (t.finishCard k b notify) := raiseIf_places (put_places (put_places h _ _) _ _) _ _

theorem endCard_places (h : SamePlaces s t) (k : CardId) (b : Byte) (x : ErrorCode) (notify : Bool) :
    SamePlaces s (t.endCard k b x notify) := finishCard_places (put_places h _ _) k b notify

theorem endBlank_places (h : SamePlaces s t) (k : CardId) (b : Byte) (x : ErrorCode) :
    SamePlaces s (t.endBlank k b x) := endCard_places (put_places h _ _) k b x _

theorem takeNotice_places (h : SamePlaces s t) (m : Notice) : SamePlaces s (t.takeNotice m) :=
  forAll_places h (fun _ _ hu => endCard_places (setWaiting_places hu _) _ _ _ _) _

theorem requestSweep_places (h : SamePlaces s t) : SamePlaces s t.requestSweep := by
  unfold State.requestSweep
  split
  · exact when_places h _ _ fun _ hu => setSweeper_places hu _
  · exact setSweeper_places h _

theorem nextVisit_places (h : SamePlaces s t) (k : CardId) : SamePlaces s (t.nextVisit k) := by
  unfold State.nextVisit
  split <;> exact setSweeper_places h _

theorem visitCard_places (h : SamePlaces s t) (k : CardId) : SamePlaces s (t.visitCard k) := by
  unfold State.visitCard
  dsimp only
  split_ifs
  · exact nextVisit_places h k
  · exact setSweeper_places h _
  · exact setSweeper_places h _
  · exact nextVisit_places h k

theorem intakeClearFault_places (h : SamePlaces s t) (k : CardId) (n : StationId) :
    SamePlaces s (t.intakeClearFault k n) := by
  unfold State.intakeClearFault
  split_ifs
  · exact endBlank_places h k _ _
  · exact endBlank_places h k _ _
  · exact endBlank_places h k _ _
  · exact endBlank_places (clearFault_places h n) k _ _

theorem intakeForget_places (h : SamePlaces s t) (k : CardId) (n : StationId) :
    SamePlaces s (t.intakeForget k n) := by
  unfold State.intakeForget
  split
  · exact endBlank_places h k _ _
  · exact endBlank_places (stationEvent_places h n fun _ hu =>
      forAll_places hu (fun p _ hv => writeSlot_places hv n p _) _) k _ _

theorem noticePeriod_places (h : SamePlaces s t) : SamePlaces s t.noticePeriod := by
  unfold State.noticePeriod
  split
  · exact when_places h _ _ fun _ hu => setSweeper_places hu _
  · exact h

theorem passCancel_places (h : SamePlaces s t) (k : CardId) : SamePlaces s (t.passCancel k) := by
  unfold State.passCancel State.cancelPending
  split_ifs
  · exact finishCard_places (setWaiting_places h _) k _ _
  · exact h
  · split
    · exact modEngine_stage_places h _
    · exact h
  · exact h

theorem acceptDelivery_places (h : SamePlaces s t) (n : StationId) (tag : Byte) (d : Parcel) :
    SamePlaces s (t.acceptDelivery n tag d) := by
  refine stationEvent_places h n fun u hu => refreshHeldPermit_places ?_ n
  split
  · refine writeSlot_places ?_ n _ _
    unfold State.resetOnSerial State.resetSlot
    split
    · split
      · exact writeSlot_places hu n _ _
      · exact hu
    · exact hu
  · exact hu

/-! ## Grant and release -/

/-- The places after engine e has been given the station n of a card. -/
theorem holdsAgree_bound {e : EngineId} {n : StationId} (agree : s.holdsAgree)
    (free : (s.engine e).job = none) (eligible : s.holder n = none)
    (holder : ∀ n', t.holder n' = if n' = n then some e else s.holder n')
    (point : ∀ e', t.point e' = if e' = e then some n else s.point e')
    (own : (t.engine e).job.map (·.station) = some n ∧ t.busy e)
    (others : ∀ e', e' ≠ e → (t.engine e').job = (s.engine e').job ∧ (t.busy e' ↔ s.busy e')) : t.holdsAgree := by
  obtain ⟨held, points, idle⟩ := agree
  refine ⟨fun e' n' => ?_, fun e' => ?_, fun e' => ?_⟩
  · rw [holder]
    by_cases he : e' = e
    · subst he
      rw [own.1]
      have unheld : s.holder n' ≠ some e' := fun h => by simpa [free] using (held e' n').mp h
      by_cases hn : n' = n
      · simp [hn]
      · simp [hn, unheld, Ne.symm hn]
    · rw [(others e' he).1, ← held e' n']
      by_cases hn : n' = n
      · simp [hn, eligible, Ne.symm he]
      · simp [hn]
  · rw [point]
    by_cases he : e' = e
    · simp [he, own.1]
    · rw [if_neg he, (others e' he).1, points]
  · by_cases he : e' = e
    · subst he
      exact iff_of_false (fun h => by simp [h] at own) own.2
    · rw [(others e' he).1, idle e']
      exact (not_iff_not.mp (others e' he).2).symm

/-- The places after engine e has released the station n of its card. -/
theorem holdsAgree_released {e : EngineId} {n : StationId} (agree : s.holdsAgree)
    (busy : (s.engine e).job.map (·.station) = some n)
    (holder : ∀ n', t.holder n' = if n' = n then none else s.holder n')
    (point : ∀ e', t.point e' = if e' = e then none else s.point e')
    (own : (t.engine e).job = none ∧ (t.engine e).phase = .idle)
    (others : ∀ e', e' ≠ e → t.engine e' = s.engine e') : t.holdsAgree := by
  obtain ⟨held, points, idle⟩ := agree
  have holds : s.holder n = some e := (held e n).mpr busy
  refine ⟨fun e' n' => ?_, fun e' => ?_, fun e' => ?_⟩
  · rw [holder]
    by_cases he : e' = e
    · subst he
      by_cases hn : n' = n
      · simp [hn, own.1]
      · have unheld : s.holder n' ≠ some e' := fun h =>
          hn (Option.some.inj (((held e' n').mp h).symm.trans busy))
        simp [hn, own.1, unheld]
    · rw [others e' he, ← held e' n']
      by_cases hn : n' = n
      · simp [hn, holds, Ne.symm he]
      · simp [hn]
  · rw [point]
    by_cases he : e' = e
    · simp [he, own.1]
    · rw [if_neg he, others e' he, points]
  · by_cases he : e' = e
    · subst he; simp [own.1, own.2]
    · rw [others e' he, idle e']

/-- The places of a grant before its question: engine, station and point are bound, the engine started (05 R87). -/
def State.bind (s : State) (x : Entry) (e : EngineId) : State :=
  (((s.setWaiting (s.waiting.erase x)).modEngine e fun g =>
    g.start { card := x.card, station := x.station } (s.readHeader x.card)).setHold x.station (some e)).setPoint e
    (some x.station)

theorem grant_eq (s : State) (x : Entry) (e : EngineId) :
    s.grant x e = ((((s.bind x e).put (cardBase x.card + cdEngine) [BitVec.ofNat 8 e.val]).put (cardBase x.card)
      [statusRunning]).holdBegin x.station e).askQuestion e .frame := rfl

theorem bind_engine (s : State) (x : Entry) (e e' : EngineId) :
    (s.bind x e).engine e' = if e' = e then
      (s.engine e).start { card := x.card, station := x.station } (s.readHeader x.card) else s.engine e' :=
  (s.setWaiting (s.waiting.erase x)).engine_modEngine e e' fun g =>
    g.start { card := x.card, station := x.station } (s.readHeader x.card)

theorem bind_holder (s : State) (x : Entry) (e : EngineId) (n : StationId) :
    (s.bind x e).holder n = if n = x.station then some e else s.holder n :=
  State.holder_setHold _ _ _ _

theorem bind_point (s : State) (x : Entry) (e e' : EngineId) :
    (s.bind x e).point e' = if e' = e then some x.station else s.point e' :=
  State.point_setPoint _ _ _ _

theorem grant_holdsAgree {x : Entry} {e : EngineId} (agree : s.holdsAgree) (free : (s.engine e).job = none)
    (eligible : s.holder x.station = none) : (s.grant x e).holdsAgree := by
  have begun : SamePlaces (s.bind x e) _ :=
    holdBegin_places (put_places (put_places (.refl (s.bind x e)) (cardBase x.card + cdEngine)
      [BitVec.ofNat 8 e.val]) (cardBase x.card) [statusRunning]) x.station e
  rw [grant_eq]
  generalize State.holdBegin _ _ _ = u at begun ⊢
  refine (judgeQuestion_places (.refl ((u.setPhase e (.gating .frame)).setQuestion e _)) e).holdsAgree ?_
  refine holdsAgree_bound agree free eligible (n := x.station) (e := e) (fun n' => ?_) (fun e' => ?_) ⟨?_, ?_⟩
    fun e' he => ⟨?_, ?_⟩
  · rw [← bind_holder]; simp only [State.holder]; exact congrArg (·[n'.val]) begun.holds
  · rw [← bind_point]; simp only [State.point]; exact congrArg (·[e'.val]) begun.crosspoint
  · change ((u.setPhase e (.gating .frame)).engine e).job.map _ = _
    rw [State.setPhase, State.engine_modEngine_self]
    dsimp only
    rw [begun.job, bind_engine, if_pos rfl]
    rfl
  · change ((u.setPhase e (.gating .frame)).engine e).phase ≠ _
    rw [State.setPhase, State.engine_modEngine_self]
    nofun
  · change ((u.setPhase e (.gating .frame)).engine e').job = _
    rw [State.setPhase, State.engine_modEngine_other _ _ _ _ he, begun.job, bind_engine, if_neg he]
  · change ((u.setPhase e (.gating .frame)).engine e').phase ≠ _ ↔ _
    rw [State.setPhase, State.engine_modEngine_other _ _ _ _ he]
    refine (begun.busy e').trans ?_
    rw [State.busy, bind_engine, if_neg he, State.busy]

/-! ## The allocator's choice -/

theorem freeEngine_free {e : EngineId} (h : s.freeEngine = some e) : (s.engine e).job = none := by
  have := List.find?_some h
  simpa using this

/-- The better of an entry and one before is one of the two. -/
theorem betterEntry_mem {best : Option Entry} {x y : Entry} (h : betterEntry best x = some y) :
    y = x ∨ best = some y := by
  unfold betterEntry at h
  split at h
  · exact .inl (Option.some.inj h).symm
  · split_ifs at h
    · exact .inl (Option.some.inj h).symm
    · exact .inr h

theorem foldl_betterEntry_mem {xs : List Entry} {best : Option Entry} {y : Entry}
    (h : xs.foldl betterEntry best = some y) : y ∈ xs ∨ best = some y := by
  induction xs generalizing best with
  | nil => exact .inr h
  | cons x xs ih =>
    obtain later | here := ih h
    · exact .inl (List.mem_cons_of_mem _ later)
    · obtain rfl | before := betterEntry_mem here
      · exact .inl List.mem_cons_self
      · exact .inr before

theorem chooseEntry_mem {x : Entry} (h : s.chooseEntry = some x) : x ∈ s.waiting ∧ s.holder x.station = none := by
  obtain mem | none := foldl_betterEntry_mem h
  · obtain ⟨listed, eligible⟩ := List.mem_filter.mp mem
    exact ⟨listed, by simpa [State.eligible, State.held] using eligible⟩
  · cases none

theorem grantAll_holdsAgree (fuel : Nat) (agree : s.holdsAgree) : (State.grantAll fuel s).holdsAgree := by
  induction fuel generalizing s with
  | zero => exact agree
  | succ k ih =>
    rw [State.grantAll]
    split
    · exact ih (grant_holdsAgree agree (freeEngine_free ‹_›) (chooseEntry_mem ‹_›).2)
    · exact agree

theorem allocate_holdsAgree (agree : s.holdsAgree) : s.allocate.holdsAgree := by
  unfold State.allocate
  split
  · exact grantAll_holdsAgree 4 agree
  · exact agree

/-- A release of the station of the engine's card. -/
theorem release_holdsAgree {e : EngineId} {n : StationId} (agree : s.holdsAgree)
    (busy : (s.engine e).job.map (·.station) = some n) : (s.release e n).holdsAgree := by
  refine allocate_holdsAgree ((holdEnd_places (.refl _) n).holdsAgree ?_)
  refine holdsAgree_released agree busy (fun n' => State.holder_setHold _ _ _ _)
    (fun e' => State.point_setPoint _ _ _ _) ?_ fun e' he => s.engine_modEngine_other e e' _ he
  change (((s.modEngine e Engine.retire).engine e).job = none ∧ ((s.modEngine e Engine.retire).engine e).phase = .idle)
  rw [State.engine_modEngine_self]
  exact ⟨rfl, rfl⟩

/-! ## Every command -/

theorem intakeCard_holdsAgree (agree : s.holdsAgree) (k : CardId) : (s.intakeCard k).holdsAgree := by
  have ended {u : State} (h : SamePlaces s u) := h.holdsAgree agree
  have same := SamePlaces.refl s
  unfold State.intakeCard
  dsimp only
  split
  · exact ended (endBlank_places same k _ _)
  · split
    · exact ended (endBlank_places same k _ _)
    · split_ifs
      · exact ended (intakeClearFault_places same k _)
      · exact ended (intakeForget_places same k _)
      · exact allocate_holdsAgree (ended (setWaiting_places (setSweeper_places (put_places (put_places
          (put_places same _ _) _ _) _ _) _) _))

theorem intakeVisit_holdsAgree (agree : s.holdsAgree) (k : CardId) (bytes : List Byte) :
    (s.intakeVisit k bytes).holdsAgree := by
  unfold State.intakeVisit
  split
  · exact (nextVisit_places (.refl s) k).holdsAgree agree
  · exact (nextVisit_places (.refl _) k).holdsAgree (intakeCard_holdsAgree agree k)

/-- The engine that drives a station's line high is busy. -/
theorem driver_busy {n : StationId} {e : EngineId} (h : s.driver n = some e) : s.busy e := by
  have driving := List.find?_some h
  simp only [Bool.and_eq_true, Engine.outputHigh] at driving
  intro idle
  simp [idle] at driving

theorem writeResult_places (h : SamePlaces s t) (k : CardId) (g : Engine) : SamePlaces s (t.writeResult k g) :=
  put_places (put_places (put_places h _ _) _ _) _ _

/-- A step of the blocks keeps the agreement of the places. -/
theorem BlockStep.holdsAgree (h : BlockStep s t) (agree : s.holdsAgree) : t.holdsAgree := by
  have same := SamePlaces.refl s
  have kept (places : SamePlaces s t) := places.holdsAgree agree
  cases h with
  | requestSweep => exact kept (requestSweep_places same)
  | expireSweepTimer => exact kept (setSweeper_places (requestSweep_places same) _)
  | visitCard => exact kept (visitCard_places same _)
  | endStray => exact kept (nextVisit_places (endBlank_places same _ _ _) _)
  | intakeVisit => exact intakeVisit_holdsAgree agree _ _
  | takeNotice => exact kept (takeNotice_places (setNotices_places same _) _)
  | sample =>
    exact kept (forAll_places same (fun n _ hu => when_places hu _ _ fun _ hv => modStation_places hv n _) _)
  | takeFit => exact kept (takeFit_places same _)
  | takeRemoval => exact kept (takeRemoval_places same _)
  | takeFault => exact kept (takeFault_places (modEngine_stage_places same _) _ _)
  | recheck => exact kept (modStation_places same _ _)
  | clearFault => exact kept (clearFault_places same _)
  | takeMclk => exact kept (judgeQuestions_places (judgeWatches_places (updateTracker_places same _ _)))
  | takeMidx => exact kept (judgeQuestions_places (judgeWatches_places (updateTracker_places same _ _)))
  | takeStopTimeout => exact kept (judgeQuestions_places (updateTracker_places same _ _))
  | expireGate gating => exact kept (expireGate_places same (busy_of_phase gating nofun) _)
  | endPulse pulsing => exact kept (endPulse_places same (busy_of_phase pulsing nofun))
  | modStage e keeps => exact kept (modEngine_stage_places same e keeps)
  | closeWindow listening => exact kept (closeWindow_places same (busy_of_phase listening nofun) _)
  | endSettle settling => exact kept (toGating_places same (busy_of_phase settling nofun) _)
  | endLevel reading => exact kept (endLevel_places same (busy_of_phase reading nofun))
  | endTail reading => exact kept (endTail_places same (busy_of_phase reading nofun))
  | readShelf looking => exact kept (readShelf_places same (busy_of_phase looking nofun))
  | endScoring scoring =>
    exact kept (toWriting_places (modEngine_stage_places same _) (busy_of_phase scoring nofun))
  | writeResult writing => exact kept (setPhase_places (writeResult_places same _ _) (busy_of_phase writing nofun))
  | deliver writing n d =>
    refine kept ?_
    unfold State.deliver
    dsimp only
    exact modEngine_busy_places (when_places same _ (·.acceptDelivery n _ d) fun _ hu => acceptDelivery_places hu n _ d)
      (busy_of_phase writing nofun)
  | endOnEngine busy =>
    refine release_holdsAgree ((endCard_places same _ _ _ _).holdsAgree agree) ?_
    rw [(endCard_places same _ _ _ _).job, busy]
    rfl
  | stopReaches => exact kept (stopReaches_places same _ _)
  | @endStopped e j busy =>
    have written : SamePlaces s ((s.writeStopped j.card (s.engine e) (stoppedEnd (s.engine e).stopOutcome).1).finishCard
        j.card (stoppedEnd (s.engine e).stopOutcome).2 (s.engine e).header.notify) :=
      finishCard_places (put_places (put_places (put_places same _ _) _ _) _ _) _ _ _
    refine release_holdsAgree (written.holdsAgree agree) ?_
    rw [written.job, busy]
    rfl
  | overload driving =>
    exact kept (when_places (faultStop_places (setOverloadHold_places same _) (driver_busy driving) _) _ _
      fun _ hu => setOverloadHold_places hu _)

theorem tellBlocks_holdsAgree (first : Bool) (agree : s.holdsAgree) : (s.tellBlocks first).holdsAgree := by
  refine allocate_holdsAgree ((setSweeper_places (when_places (forAll_places (.refl s)
    (fun e _ hu => resumeEngine_places hu e) _) first State.activateSupervisor
    fun _ hu => activateSupervisor_places hu) _).holdsAgree agree)

theorem acceptConfiguration_holdsAgree (snap : Snapshot) (agree : s.holdsAgree) :
    (s.acceptConfiguration snap).holdsAgree := by
  have taken : SamePlaces s (s.takeConfiguration snap) := put_places (setRegs_places (.refl s) _) _ _
  have restarted {u : State} (h : SamePlaces s u) : SamePlaces s u.restartTracker :=
    judgeQuestions_places (judgeWatches_places (updateTracker_places h _ _))
  cases before : s.regs.snapshot with
  | none =>
    rw [acceptConfiguration_first before]
    exact tellBlocks_holdsAgree _ ((restarted (setTracker_places taken _)).holdsAgree agree)
  | some old =>
    by_cases same : old.ppc = snap.ppc
    · rw [acceptConfiguration_same before same]
      exact tellBlocks_holdsAgree _ (taken.holdsAgree agree)
    · rw [acceptConfiguration_changed before same]
      exact tellBlocks_holdsAgree _ ((restarted taken).holdsAgree agree)

/-- With every engine at its reset value and no place held the places agree. -/
theorem holdsAgree_of_reset (engines : t.engines = Vector.replicate 4 Engine.reset)
    (holds : t.holds = Vector.replicate 12 none) (points : t.crosspoint = Vector.replicate 4 none) : t.holdsAgree := by
  have engine (e : EngineId) : t.engine e = Engine.reset := by simp [State.engine, engines]
  refine ⟨fun e n => ?_, fun e => ?_, fun e => ?_⟩
  · rw [engine]; simp [State.holder, holds, Engine.reset]
  · rw [engine]; simp [State.point, points, Engine.reset]
  · rw [engine]; simp [Engine.reset]

theorem finishReset_holdsAgree (s : State) : s.finishReset.holdsAgree :=
  have rewritten := finishReset_rewrites s
  holdsAgree_of_reset (congrArg State.engines rewritten) (congrArg State.holds rewritten)
    (congrArg State.crosspoint rewritten)

theorem endTransaction_places (s : State) : SamePlaces s s.endTransaction := by
  have cancelled := forAll_places (.refl s) (act := fun k t => if s.port.cancelNotes[k.val] then t.passCancel k else t)
    (fun k _ hu => when_places hu _ (·.passCancel k) fun _ hu => passCancel_places hu k) allCards
  have noticed := forAll_places cancelled (act := fun n t => if s.port.setupNotes[n.val] then t.setupNotice n else t)
    (fun n _ hu => when_places hu _ (·.setupNotice n) fun _ hu => setupNotice_places hu n) allStations
  have shelf := when_places noticed s.port.shelfNote State.takeShelfFixed fun u hu => by
    unfold State.takeShelfFixed
    dsimp only
    split
    · exact forAll_places (setCache_places (setRegs_places hu _) _)
        (fun e _ hv => modEngine_stage_places hv e) _
    · exact setRegs_places hu _
  have timed := when_places shelf s.port.periodNote State.noticePeriod fun _ hu => noticePeriod_places hu
  have reread := forAll_places timed (act := fun e t => t.modEngine e Engine.afterTransaction)
    (fun e _ hu => modEngine_stage_places hu e fun g => by
      obtain ⟨eq, _⟩ | ⟨eq, _⟩ := g.afterTransaction_cases <;> rw [eq] <;> exact ⟨rfl, rfl⟩) allEngines
  unfold State.endTransaction
  dsimp only
  exact setPort_places reread _

/-- A command keeps the agreement of the places. -/
theorem Does.holdsAgree {c : Instr} (h : Does c s t) (agree : s.holdsAgree) : t.holdsAgree := by
  have front {u w : State} (f : FrontOnly u w) (h : u.holdsAgree) := f.places.holdsAgree h
  cases h with
  | front f => exact front f agree
  | block f _ h after => exact front after (h.holdsAgree (front f agree))
  | @offers _ _ u f =>
    have agreed : u.holdsAgree := front f agree
    have offered (a : Address) (b : Byte) : SamePlaces u (u.offerByte a b) := by
      obtain ⟨port, mem, regs, eq⟩ : ∃ port mem regs, u.offerByte a b = { u with port, mem, regs } :=
        ⟨_, _, _, u.offerByte_rest a b⟩
      rw [eq]
      exact .of_eq rfl rfl rfl
    exact (offered _ _).holdsAgree agreed
  | @enables _ _ _ u f _ _ sweep =>
    have enabled : u.enablePart.holdsAgree := by
      obtain ⟨offset, eq⟩ | ⟨snap, _, eq⟩ := enablePart_cases u
      · rw [eq]; exact (setRegs_places (put_places (.refl u) _ _) _).holdsAgree (front f agree)
      · rw [eq]; exact acceptConfiguration_holdsAgree snap (front f agree)
    exact (when_places (.refl _) _ State.requestSweep fun _ hu => requestSweep_places hu).holdsAgree enabled
  | @disables _ _ u f =>
    exact (setSweeper_places (forAll_places (setRegs_places (.refl u) _) (fun e _ hu => holdEngine_places hu e) _)
      _).holdsAgree (front f agree)
  | @resetsSoft _ _ u f => exact (setPort_places (.refl u.finishReset) _).holdsAgree (finishReset_holdsAgree u)
  | clears f v => exact (setRegs_places (.refl _) _).holdsAgree (front f agree)
  | masks f v => exact (setRegs_places (.refl _) _).holdsAgree (front f agree)
  | ends f => exact (endTransaction_places _).holdsAgree (front f agree)
  | resets =>
    unfold State.assertReset
    dsimp only
    split
    · exact holdsAgree_of_reset rfl rfl rfl
    · exact front ((FrontOnly.refl s).countFree _) agree
  | releases =>
    unfold State.releaseReset
    dsimp only
    split
    · exact agree
    · exact finishReset_holdsAgree _
  | powersOn => exact holdsAgree_of_reset rfl rfl rfl

/-- A tick leaves an engine's place and state (06 R108). -/
theorem Engine.tick_keeps (g : Engine) (echo ref : Bool) :
    (g.tick echo ref).phase = g.phase ∧ (g.tick echo ref).job = g.job := by
  unfold Engine.tick
  split <;> simp_all

theorem tick_places (s : State) : SamePlaces s s.tick := by
  refine ⟨by rw [s.tick_rest], by rw [s.tick_rest], fun e => ?_, fun e => ?_⟩
  · obtain eq | eq := s.tick_engine e <;> rw [eq]
    exact ((s.engine e).tick_keeps _ _).2
  · unfold State.busy
    obtain eq | eq := s.tick_engine e <;> rw [eq]
    rw [((s.engine e).tick_keeps _ _).1]

end

/-- Settles O8: but for a grant, a release and a reset every step leaves the places, and these keep their agreement. -/
theorem stepKeepsHoldsAndPointsAgreeing : Obligations.StepKeepsHoldsAndPointsAgreeing := by
  intro s t agree h
  obtain ⟨_, rfl⟩ | ⟨c, rest, _, does⟩ := step_cases h
  · exact (tick_places s).holdsAgree agree
  · exact does.holdsAgree ((SamePlaces.of_eq (t := { s with pending := rest }) rfl rfl rfl).holdsAgree agree)

end Sys2Proof.Machine
end

section
/-! What an operation of an engine leaves: everything but the engine, its question and its watch (04, 05, 06, 07). -/

namespace Sys2Proof.Machine

/-! ## Places read after an update of something else -/

section
variable (s : State) (e e' : EngineId) (n n' : StationId)

@[simp] theorem State.engine_setQuestion (q : Option Question) : (s.setQuestion e q).engine e' = s.engine e' := rfl
@[simp] theorem State.engine_setWatch (w : Option Watch) : (s.setWatch e w).engine e' = s.engine e' := rfl
@[simp] theorem State.engine_setCache (c : Cache) : (s.setCache c).engine e' = s.engine e' := rfl
@[simp] theorem State.engine_put (a : Nat) (bs : List Byte) : (s.put a bs).engine e' = s.engine e' := rfl
@[simp] theorem State.engine_modStation (f : Station → Station) : (s.modStation n f).engine e' = s.engine e' := rfl
@[simp] theorem State.engine_sampleEcho (l : Levels) : (s.sampleEcho l).engine e' = s.engine e' := rfl
@[simp] theorem State.engine_setTracker (k : Tracker) : (s.setTracker k).engine e' = s.engine e' := rfl
@[simp] theorem State.question_modEngine (f : Engine → Engine) : (s.modEngine e f).question e' = s.question e' := rfl
@[simp] theorem State.question_setWatch (w : Option Watch) : (s.setWatch e w).question e' = s.question e' := rfl
@[simp] theorem State.question_setCache (c : Cache) : (s.setCache c).question e' = s.question e' := rfl
@[simp] theorem State.question_put (a : Nat) (bs : List Byte) : (s.put a bs).question e' = s.question e' := rfl
@[simp] theorem State.question_sampleEcho (l : Levels) : (s.sampleEcho l).question e' = s.question e' := rfl
@[simp] theorem State.question_setQuestion_self (q : Option Question) : (s.setQuestion e q).question e = q := by
  simp [State.question_setQuestion]
@[simp] theorem State.watch_modEngine (f : Engine → Engine) : (s.modEngine e f).watch e' = s.watch e' := rfl
@[simp] theorem State.watch_setQuestion (q : Option Question) : (s.setQuestion e q).watch e' = s.watch e' := rfl
@[simp] theorem State.watch_setCache (c : Cache) : (s.setCache c).watch e' = s.watch e' := rfl
@[simp] theorem State.watch_put (a : Nat) (bs : List Byte) : (s.put a bs).watch e' = s.watch e' := rfl
@[simp] theorem State.watch_sampleEcho (l : Levels) : (s.sampleEcho l).watch e' = s.watch e' := rfl
@[simp] theorem State.watch_setWatch_self (w : Option Watch) : (s.setWatch e w).watch e = w := by
  simp [State.watch_setWatch]
@[simp] theorem State.station_modEngine (f : Engine → Engine) : (s.modEngine e f).station n' = s.station n' := rfl
@[simp] theorem State.station_setQuestion (q : Option Question) : (s.setQuestion e q).station n' = s.station n' := rfl
@[simp] theorem State.station_setWatch (w : Option Watch) : (s.setWatch e w).station n' = s.station n' := rfl
@[simp] theorem State.station_put (a : Nat) (bs : List Byte) : (s.put a bs).station n' = s.station n' := rfl
@[simp] theorem State.station_sampleEcho (l : Levels) : (s.sampleEcho l).station n' = s.station n' := rfl
@[simp] theorem State.echoHigh_modEngine (f : Engine → Engine) : (s.modEngine e f).echoHigh n' = s.echoHigh n' := rfl
@[simp] theorem State.echoHigh_setQuestion (q : Option Question) :
    (s.setQuestion e q).echoHigh n' = s.echoHigh n' := rfl
@[simp] theorem State.echoHigh_setWatch (w : Option Watch) : (s.setWatch e w).echoHigh n' = s.echoHigh n' := rfl

@[simp] theorem State.setPhase_engine (p : Phase) :
    (s.setPhase e p).engine e = { s.engine e with phase := p } := s.engine_modEngine_self e _
@[simp] theorem State.setPhase_question (p : Phase) : (s.setPhase e p).question e' = s.question e' := rfl
@[simp] theorem State.setPhase_watch (p : Phase) : (s.setPhase e p).watch e' = s.watch e' := rfl
@[simp] theorem State.setPhase_station (p : Phase) : (s.setPhase e p).station n = s.station n := rfl
end

/-! ## The frame -/

/-- Nothing but engines, questions and watches has changed. -/
def Within (s t : State) : Prop :=
  t = { s with
    engines := t.engines
    tracker := { s.tracker with questions := t.tracker.questions, watches := t.tracker.watches } }

/-- Nothing but engine e, its question and its watch has changed. -/
structure OnEngine (e : EngineId) (s t : State) : Prop where
  rest : Within s t
  other : ∀ e', e' ≠ e → t.engine e' = s.engine e' ∧ t.question e' = s.question e' ∧ t.watch e' = s.watch e'

section
variable {s t u : State} {e : EngineId}

theorem Within.refl (s : State) : Within s s := rfl

theorem Within.trans (h : Within s t) (k : Within t u) : Within s u := by
  refine Eq.trans k ?_
  rw [h]

theorem OnEngine.refl (e : EngineId) (s : State) : OnEngine e s s := ⟨.refl s, fun _ _ => ⟨rfl, rfl, rfl⟩⟩

theorem OnEngine.trans (h : OnEngine e s t) (k : OnEngine e t u) : OnEngine e s u := by
  refine ⟨h.rest.trans k.rest, fun e' he => ?_⟩
  obtain ⟨engine, question, watch⟩ := h.other e' he
  obtain ⟨engine', question', watch'⟩ := k.other e' he
  exact ⟨engine'.trans engine, question'.trans question, watch'.trans watch⟩

theorem Within.mem (h : Within s t) : t.mem = s.mem := by rw [h]
theorem Within.regs (h : Within s t) : t.regs = s.regs := by rw [h]
theorem Within.stations (h : Within s t) : t.stations = s.stations := by rw [h]
theorem Within.holds (h : Within s t) : t.holds = s.holds := by rw [h]
theorem Within.pins (h : Within s t) : t.pins = s.pins := by rw [h]
theorem Within.cache (h : Within s t) : t.cache = s.cache := by rw [h]
theorem Within.core (h : Within s t) : SameCore s t := by rw [SameCore, h]
theorem Within.station (h : Within s t) (n : StationId) : t.station n = s.station n := by
  rw [State.station, h.stations, State.station]

theorem Within.setCache (h : Within s t) (c : Cache) : Within (s.setCache c) (t.setCache c) := by
  rw [Within, State.setCache, h]
  rfl

theorem OnEngine.setCache (h : OnEngine e s t) (c : Cache) : OnEngine e (s.setCache c) (t.setCache c) :=
  ⟨h.rest.setCache c, h.other⟩

/-! ## Updates of the engine's own -/

theorem modEngine_onEngine (h : OnEngine e s t) (f : Engine → Engine) : OnEngine e s (t.modEngine e f) :=
  h.trans ⟨rfl, fun _ he => ⟨State.engine_modEngine_other _ _ _ _ he, rfl, rfl⟩⟩

theorem setQuestion_onEngine (h : OnEngine e s t) (q : Option Question) : OnEngine e s (t.setQuestion e q) :=
  h.trans ⟨rfl, fun _ he => ⟨rfl, (State.question_setQuestion _ _ _ _).trans (if_neg he), rfl⟩⟩

theorem setWatch_onEngine (h : OnEngine e s t) (w : Option Watch) : OnEngine e s (t.setWatch e w) :=
  h.trans ⟨rfl, fun _ he => ⟨rfl, rfl, (State.watch_setWatch _ _ _ _).trans (if_neg he)⟩⟩

theorem setPhase_onEngine (h : OnEngine e s t) (p : Phase) : OnEngine e s (t.setPhase e p) := modEngine_onEngine h _
theorem addFlag_onEngine (h : OnEngine e s t) (f : Half) : OnEngine e s (t.addFlag e f) := modEngine_onEngine h _
theorem setVerdict_onEngine (h : OnEngine e s t) (v : Verdict) : OnEngine e s (t.setVerdict e v) :=
  modEngine_onEngine h _
theorem toWriting_onEngine (h : OnEngine e s t) : OnEngine e s (t.toWriting e) := setPhase_onEngine h _
theorem beginSettling_onEngine (h : OnEngine e s t) : OnEngine e s (t.beginSettling e) := modEngine_onEngine h _
theorem beginScoring_onEngine (h : OnEngine e s t) : OnEngine e s (t.beginScoring e) := modEngine_onEngine h _

theorem stopNow_onEngine (h : OnEngine e s t) : OnEngine e s (t.stopNow e) :=
  setQuestion_onEngine (setWatch_onEngine (modEngine_onEngine h _) _) _

theorem faultStop_onEngine (h : OnEngine e s t) (c : FaultCause) : OnEngine e s (t.faultStop e c) :=
  stopNow_onEngine (modEngine_onEngine h _)

theorem takeStop_onEngine (h : OnEngine e s t) (x : Stop) : OnEngine e s (t.takeStop e x) := by
  unfold State.takeStop
  dsimp only
  split
  · exact h
  · exact h
  · split_ifs
    · exact h
    · exact modEngine_onEngine h _
    · exact stopNow_onEngine (modEngine_onEngine h _)

theorem startRound_onEngine (h : OnEngine e s t) : OnEngine e s (t.startRound e) := by
  unfold State.startRound
  split
  · exact modEngine_onEngine h _
  · exact h

theorem startFrame_onEngine (h : OnEngine e s t) : OnEngine e s (t.startFrame e) := by
  unfold State.startFrame
  split
  · exact modEngine_onEngine h _
  · exact h

theorem startWork_onEngine (h : OnEngine e s t) (w : Work) : OnEngine e s (t.startWork e w) := by
  unfold State.startWork
  split
  · split
    · exact faultStop_onEngine h _
    · cases w with
      | frame => exact startFrame_onEngine h
      | round => exact startRound_onEngine h
  · exact h

theorem judgeQuestion_onEngine (h : OnEngine e s t) : OnEngine e s (t.judgeQuestion e) := by
  unfold State.judgeQuestion
  split
  · dsimp only
    split
    · exact h
    · split
      · exact h
      · exact startWork_onEngine (setWatch_onEngine (setQuestion_onEngine h _) _) _
  · exact h

theorem askQuestion_onEngine (h : OnEngine e s t) (w : Work) : OnEngine e s (t.askQuestion e w) :=
  judgeQuestion_onEngine (setQuestion_onEngine (setPhase_onEngine h _) _)

theorem judgeWatch_onEngine (h : OnEngine e s t) : OnEngine e s (t.judgeWatch e) := by
  unfold State.judgeWatch
  split
  · split
    · exact modEngine_onEngine (setWatch_onEngine h _) _
    · exact h
  · exact h

theorem toGating_onEngine (h : OnEngine e s t) (w : Work) : OnEngine e s (t.toGating e w) := by
  unfold State.toGating
  split
  · exact askQuestion_onEngine h w
  · exact setPhase_onEngine h _

theorem toSettling_onEngine (h : OnEngine e s t) : OnEngine e s (t.toSettling e) := by
  unfold State.toSettling
  split
  · exact beginSettling_onEngine h
  · exact setPhase_onEngine h _

theorem toScoring_onEngine (h : OnEngine e s t) : OnEngine e s (t.toScoring e) := by
  unfold State.toScoring
  split
  · exact beginScoring_onEngine h
  · exact setPhase_onEngine h _

theorem lookupUnlisted_onEngine (h : OnEngine e s t) : OnEngine e s (t.lookupUnlisted e) :=
  toWriting_onEngine (modEngine_onEngine (setVerdict_onEngine h _) _)

theorem lookupFailed_onEngine (h : OnEngine e s t) (i : ShelfId) (x : ErrorCode) :
    OnEngine e s (t.lookupFailed e i x) :=
  toWriting_onEngine (modEngine_onEngine h _)

theorem lookupFound_onEngine (h : OnEngine e s t) (i : ShelfId) (p : Profile) : OnEngine e s (t.lookupFound e i p) := by
  unfold State.lookupFound
  dsimp only
  split
  · exact toGating_onEngine (modEngine_onEngine (modEngine_onEngine h _) _) _
  · exact toWriting_onEngine (addFlag_onEngine (setVerdict_onEngine (modEngine_onEngine h _) _) _)

theorem passOver_onEngine (h : OnEngine e s t) : OnEngine e s (t.passOver e) := by
  unfold State.passOver
  dsimp only
  split
  · exact lookupUnlisted_onEngine h
  · exact modEngine_onEngine h _

theorem damagedCandidate_onEngine (h : OnEngine e s t) : OnEngine e s (t.damagedCandidate e) := by
  unfold State.damagedCandidate
  dsimp only
  split
  · exact lookupFailed_onEngine h _ _
  · exact modEngine_onEngine h _

theorem holdEngine_onEngine (h : OnEngine e s t) : OnEngine e s (t.holdEngine e) := by
  unfold State.holdEngine
  split
  · exact setQuestion_onEngine (setPhase_onEngine h _) _
  · exact h

theorem endLevel_onEngine (h : OnEngine e s t) : OnEngine e s (t.endLevel e) := by
  unfold State.endLevel
  dsimp only
  split
  · split
    · exact stopNow_onEngine h
    · exact modEngine_onEngine h _
  · exact h

theorem failedFrame_onEngine (h : OnEngine e s t) (c : FrameCause) : OnEngine e s (t.failedFrame e c) := by
  unfold State.failedFrame
  dsimp only
  split
  · exact toGating_onEngine (modEngine_onEngine h _) _
  · exact toWriting_onEngine (setVerdict_onEngine (addFlag_onEngine (modEngine_onEngine h _) _) _)

theorem endPulse_onEngine (h : OnEngine e s t) : OnEngine e s (t.endPulse e) := by
  unfold State.endPulse
  split
  · exact stopNow_onEngine h
  · exact modEngine_onEngine h _

theorem closeWindow_onEngine (h : OnEngine e s t) (n : Nat) : OnEngine e s (t.closeWindow e n) := by
  have judged : OnEngine e s ((t.modEngine e fun g => g.judgeRound n).closeWatch e) :=
    setWatch_onEngine (modEngine_onEngine h _) _
  unfold State.closeWindow
  dsimp only
  split
  · exact toScoring_onEngine (modEngine_onEngine judged _)
  · exact toSettling_onEngine judged

theorem expireGate_onEngine (h : OnEngine e s t) (w : Work) : OnEngine e s (t.expireGate e w) := by
  have ended : OnEngine e s ((t.withdrawQuestion e).addFlag e flagGateTimeout) :=
    addFlag_onEngine (setQuestion_onEngine h _) _
  cases w with
  | frame => exact toWriting_onEngine (setVerdict_onEngine ended _)
  | round => exact toScoring_onEngine (modEngine_onEngine ended _)

theorem stopReaches_onEngine (h : OnEngine e s t) (x : Stop) : OnEngine e s (t.stopReaches e x) := by
  unfold State.stopReaches
  dsimp only
  split
  · exact takeStop_onEngine (modEngine_onEngine h _) x
  · exact modEngine_onEngine h _

theorem endScoring_onEngine (h : OnEngine e s t) (p : Profile) : OnEngine e s (t.endScoring e p) :=
  toWriting_onEngine (modEngine_onEngine h _)

/-! ## Steps that may ask or fill the cache (08) -/

theorem beginLookup_onEngine (e : EngineId) (s : State) :
    OnEngine e (s.setCache (s.beginLookup e).cache) (s.beginLookup e) := by
  have begun := modEngine_onEngine (.refl e s)
    fun g => { g with phase := .computing .lookup, lookup := { Lookup.reset with fixedThroughout := s.regs.shelfFixed } }
  unfold State.beginLookup
  dsimp only
  split
  · split
    · rename_i p x _
      have found := lookupFound_onEngine (addFlag_onEngine (begun.setCache (s.cache.touch p)) flagCacheHit) x.index
        (profileOf x.copy)
      have cache : _ = s.cache.touch p := found.rest.cache
      rw [cache]
      exact found
    · exact begun
  · exact begun

theorem toLookup_onEngine (e : EngineId) (s : State) : OnEngine e (s.setCache (s.toLookup e).cache) (s.toLookup e) := by
  unfold State.toLookup
  split
  · exact beginLookup_onEngine e s
  · exact setPhase_onEngine (.refl e s) _

/-- An operation that leaves the cache, then one that may change it. -/
theorem OnEngine.trans_cache (h : OnEngine e s t) (k : OnEngine e (t.setCache u.cache) u) :
    OnEngine e (s.setCache u.cache) u :=
  (h.setCache u.cache).trans k

/-- An operation that leaves the cache is one that may change it. -/
theorem OnEngine.with_cache (h : OnEngine e s t) : OnEngine e (s.setCache t.cache) t := by
  rw [h.rest.cache]
  exact h

theorem goodFrame_onEngine (e : EngineId) (s : State) (r : List Byte) :
    OnEngine e (s.setCache (s.goodFrame e r).cache) (s.goodFrame e r) := by
  have recorded := modEngine_onEngine (.refl e s) fun g => { g with tagRecord := some r }
  unfold State.goodFrame
  dsimp only
  split_ifs
  · exact (toWriting_onEngine recorded).with_cache
  · exact (toWriting_onEngine (modEngine_onEngine recorded _)).with_cache
  · exact recorded.trans_cache (toLookup_onEngine e _)

theorem endTail_onEngine (e : EngineId) (s : State) :
    OnEngine e (s.setCache (s.endTail e).cache) (s.endTail e) := by
  have counted : OnEngine e s ((s.modEngine e fun g =>
      { g with frameAttempts := g.frameAttempts + 1, frame := Frame.reset }).closeWatch e) :=
    setWatch_onEngine (modEngine_onEngine (.refl e s) _) _
  unfold State.endTail
  dsimp only
  split
  · exact counted.trans_cache (goodFrame_onEngine e _ _)
  · exact (failedFrame_onEngine counted _).with_cache

theorem offerRecord_onEngine (e : EngineId) (s : State) (i : ShelfId) (r : List Byte) :
    OnEngine e (s.setCache (s.offerRecord e i r).cache) (s.offerRecord e i r) := by
  unfold State.offerRecord
  dsimp only
  split
  · exact .refl e _
  · exact .refl e _

theorem readShelf_onEngine (e : EngineId) (s : State) :
    OnEngine e (s.setCache (s.readShelf e).cache) (s.readShelf e) := by
  have read := modEngine_onEngine (.refl e s) fun g => { g with lookup := { g.lookup with
    buffer := s.bytes (shelfBase (s.engine e).lookup.index) 64
    crc := crcOf ((s.bytes (shelfBase (s.engine e).lookup.index) 64).take 62) } }
  unfold State.readShelf
  dsimp only
  split_ifs
  · exact (passOver_onEngine read).with_cache
  · exact (damagedCandidate_onEngine read).with_cache
  · exact (lookupFailed_onEngine read _ _).with_cache
  · refine read.trans_cache ?_
    generalize State.modEngine _ _ _ = v
    have offered := offerRecord_onEngine e v (s.engine e).lookup.index (s.bytes (shelfBase (s.engine e).lookup.index) 64)
    generalize State.offerRecord v _ _ _ = w at offered ⊢
    have found := lookupFound_onEngine (.refl e w) (s.engine e).lookup.index
      (profileOf (s.bytes (shelfBase (s.engine e).lookup.index) 64))
    rw [found.rest.cache]
    exact offered.trans found

theorem resumeEngine_onEngine (e : EngineId) (s : State) :
    OnEngine e (s.setCache (s.resumeEngine e).cache) (s.resumeEngine e) := by
  have same := OnEngine.refl e s
  unfold State.resumeEngine
  split
  · split
    · exact (judgeQuestion_onEngine (setQuestion_onEngine (setPhase_onEngine same _) _)).with_cache
    · exact (askQuestion_onEngine same _).with_cache
  · exact (beginSettling_onEngine same).with_cache
  · exact beginLookup_onEngine e s
  · exact (beginScoring_onEngine same).with_cache
  · exact (setPhase_onEngine same _).with_cache
  · exact same.with_cache

/-! ## Every engine in turn -/

theorem forAll_within {act : EngineId → State → State} (h : ∀ e u, OnEngine e u (act e u)) (xs : List EngineId)
    (s : State) : Within s (forAll xs act s) :=
  forAll_invariant (P := Within s) (fun e _ hu => hu.trans (h e _).rest) xs (.refl s)

theorem judgeQuestions_within (h : Within s t) : Within s t.judgeQuestions :=
  h.trans (forAll_within (fun e u => judgeQuestion_onEngine (.refl e u)) _ _)

theorem judgeWatches_within (h : Within s t) : Within s t.judgeWatches :=
  h.trans (forAll_within (fun e u => judgeWatch_onEngine (.refl e u)) _ _)

/-- State u has the own of engine e as in state s, and differs in nothing but engines, questions and watches. -/
structure Apart (e : EngineId) (s u : State) : Prop where
  rest : Within s u
  engine : u.engine e = s.engine e
  question : u.question e = s.question e
  watch : u.watch e = s.watch e

theorem Apart.refl (e : EngineId) (s : State) : Apart e s s := ⟨.refl s, rfl, rfl, rfl⟩

theorem Apart.step (h : Apart e s u) {e' : EngineId} (k : OnEngine e' u t) (ne : e ≠ e') : Apart e s t := by
  obtain ⟨engine, question, watch⟩ := k.other e ne
  exact ⟨h.rest.trans k.rest, engine.trans h.engine, question.trans h.question, watch.trans h.watch⟩

theorem forAll_apart {act : EngineId → State → State} (h : ∀ e u, OnEngine e u (act e u)) {xs : List EngineId}
    (other : e ∉ xs) (k : Apart e s u) : Apart e s (forAll xs act u) := by
  induction xs generalizing u with
  | nil => exact k
  | cons x xs ih =>
    rw [List.mem_cons, not_or] at other
    obtain ⟨ne, rest⟩ := other
    exact ih rest (k.step (h x u) ne)

/-- After every engine in turn, the own of engine e is what its turn has made of it. -/
theorem forAll_own {act : EngineId → State → State} (h : ∀ e u, OnEngine e u (act e u)) (e : EngineId) (s : State) :
    ∃ u, Apart e s u ∧ Apart e (act e u) (forAll allEngines act s) := by
  obtain ⟨before, after, eq⟩ := List.append_of_mem (mem_allEngines e)
  have nodup := allEngines_nodup
  rw [eq, List.nodup_middle, List.nodup_cons, List.mem_append, not_or] at nodup
  have split : forAll allEngines act s = forAll after act (act e (forAll before act s)) := by
    rw [eq]; simp [forAll]
  rw [split]
  exact ⟨_, forAll_apart h nodup.1.1 (.refl e s), forAll_apart h nodup.1.2 (.refl e _)⟩

end

end Sys2Proof.Machine
end

section
/-! What the permit of a station rests on, and what each operation leaves of it (03 R57, R58). -/

namespace Sys2Proof.Machine

/-- PERMITn is what Table 3-4 gives for the derived state. -/
def State.permitSettled (s : State) (n : StationId) : Prop :=
  (s.station n).permit = permitOf (s.derived n (s.held n)) (s.station n).setup.advise (s.station n).heldPermit

/-- Every PERMITn is. -/
def State.permitsSettled (s : State) : Prop := ∀ n, s.permitSettled n

/-- What of a station its derived state and its permit rest on. -/
def Station.permitPart (x : Station) : (Bool × Bool × Fin 5 × Vector (BitVec 6) 4) × Bool × Bool × Bool × Bool :=
  ((x.setup.enabled, x.setup.advise, x.setup.rosterCount, x.setup.roster), x.fault, x.present, x.heldPermit, x.permit)

/-- What the permit of station n rests on is as before. -/
structure SamePermit (n : StationId) (s t : State) : Prop where
  configured : t.configured = s.configured
  held : t.held n = s.held n
  part : (t.station n).permitPart = (s.station n).permitPart
  slots : ∀ p, t.slotVerdict n p = s.slotVerdict n p

/-- That of every station is. -/
def SamePermits (s t : State) : Prop := ∀ n, SamePermit n s t

/-- That of every station but n is. -/
def OnStation (n : StationId) (s t : State) : Prop := ∀ m, m ≠ n → SamePermit m s t

section
variable {s t u : State} {n m : StationId}

theorem SamePermit.refl (n : StationId) (s : State) : SamePermit n s s := ⟨rfl, rfl, rfl, fun _ => rfl⟩

theorem SamePermit.trans (h : SamePermit n s t) (k : SamePermit n t u) : SamePermit n s u :=
  ⟨k.configured.trans h.configured, k.held.trans h.held, k.part.trans h.part, fun p => (k.slots p).trans (h.slots p)⟩

theorem SamePermits.refl (s : State) : SamePermits s s := fun n => .refl n s
theorem SamePermits.trans (h : SamePermits s t) (k : SamePermits t u) : SamePermits s u := fun n => (h n).trans (k n)
theorem OnStation.refl (n : StationId) (s : State) : OnStation n s s := fun m _ => .refl m s
theorem OnStation.trans (h : OnStation n s t) (k : OnStation n t u) : OnStation n s u :=
  fun m hm => (h m hm).trans (k m hm)
theorem SamePermits.onStation (h : SamePermits s t) (n : StationId) : OnStation n s t := fun m _ => h m

theorem Setup.activeSlots_eq {c d : Setup} (count : c.rosterCount = d.rosterCount) (roster : c.roster = d.roster) :
    c.activeSlots = d.activeSlots := by
  unfold Setup.activeSlots
  congr 1
  funext p
  simp only [Setup.activeAt, count, roster]

/-- The derived state rests on what the permit rests on. -/
theorem SamePermit.derived (h : SamePermit n s t) (held : Bool) : t.derived n held = s.derived n held := by
  have part := h.part
  simp only [Station.permitPart, Prod.mk.injEq] at part
  obtain ⟨⟨enabled, _, count, roster⟩, fault, present, _, _⟩ := part
  have slots : t.slotVerdict n = s.slotVerdict n := funext h.slots
  simp only [State.derived, h.configured, enabled, count, fault, present, slots, Setup.activeSlots_eq count roster]

theorem SamePermit.settled (h : SamePermit n s t) (settled : s.permitSettled n) : t.permitSettled n := by
  have part := h.part
  simp only [Station.permitPart, Prod.mk.injEq] at part
  obtain ⟨⟨_, advise, _, _⟩, _, _, heldPermit, permit⟩ := part
  rw [State.permitSettled, h.derived, h.held, permit, advise, heldPermit]
  exact settled

theorem SamePermits.settled (h : SamePermits s t) (settled : s.permitsSettled) : t.permitsSettled :=
  fun n => (h n).settled (settled n)

/-! ## Operations that leave every permit's ground -/

theorem SamePermits.of_eq (regs : t.configured = s.configured) (holds : t.holds = s.holds)
    (stations : t.stations = s.stations) (mem : t.mem = s.mem) : SamePermits s t :=
  fun n => ⟨regs, by simp only [State.held, State.holder, holds], by rw [State.station_eq stations],
    fun p => by simp only [State.slotVerdict, State.byte, mem]⟩

theorem Within.permits (h : Within s t) : SamePermits s t :=
  .of_eq (by simp only [State.configured, h.regs]) h.holds h.stations h.mem

theorem OnEngine.permits {e : EngineId} (h : OnEngine e s t) : SamePermits s t := h.rest.permits

theorem OnEngine.permits_cache {e : EngineId} (h : OnEngine e (s.setCache t.cache) t) : SamePermits s t :=
  (SamePermits.of_eq (s := s) (t := s.setCache t.cache) rfl rfl rfl rfl).trans h.permits

/-- Bytes put where no slot of station n has its verdict. -/
theorem put_samePermit (a : Nat) (bs : List Byte)
    (apart : ∀ p : SlotId, slotBase n p < a ∨ a + bs.length ≤ slotBase n p) : SamePermit n s (s.put a bs) :=
  ⟨rfl, rfl, rfl, fun p => s.byte_put_other a _ bs (apart p)⟩

/-- Bytes put below the station records or above them. -/
theorem put_permits (h : SamePermits s t) (a : Nat) (bs : List Byte) (apart : a + bs.length ≤ 0x100 ∨ 0x700 ≤ a) :
    SamePermits s (t.put a bs) := by
  refine h.trans fun n => put_samePermit a bs fun p => ?_
  simp only [slotBase, stationBase]
  omega

/-- Bytes put in a card. -/
theorem putCard_permits (h : SamePermits s t) (k : CardId) (o : Nat) (bs : List Byte) :
    SamePermits s (t.put (cardBase k + o) bs) :=
  put_permits h _ _ (.inr (by simp only [cardBase]; omega))

theorem putStatus_permits (h : SamePermits s t) (k : CardId) (bs : List Byte) : SamePermits s (t.put (cardBase k) bs) :=
  putCard_permits h k 0 bs

theorem modStation_permits (h : SamePermits s t) (n : StationId) {f : Station → Station}
    (keeps : ∀ x, (f x).permitPart = x.permitPart := by intro x; rfl) : SamePermits s (t.modStation n f) := by
  refine h.trans fun m => ⟨rfl, rfl, ?_, fun _ => rfl⟩
  rw [State.station_modStation]
  split
  · rename_i eq; rw [keeps, eq]
  · rfl

theorem setRegs_permits (h : SamePermits s t) (r : Registers) (same : r.snapshot = t.regs.snapshot := by rfl) :
    SamePermits s (t.setRegs r) :=
  h.trans (.of_eq (by simp only [State.configured, State.setRegs_regs, same]) rfl rfl rfl)

theorem setSweeper_permits (h : SamePermits s t) (w : Sweeper) : SamePermits s (t.setSweeper w) :=
  h.trans (.of_eq rfl rfl rfl rfl)
theorem setWaiting_permits (h : SamePermits s t) (l : List Entry) : SamePermits s (t.setWaiting l) :=
  h.trans (.of_eq rfl rfl rfl rfl)
theorem setNotices_permits (h : SamePermits s t) (l : List Notice) : SamePermits s (t.setNotices l) :=
  h.trans (.of_eq rfl rfl rfl rfl)
theorem setTracker_permits (h : SamePermits s t) (k : Tracker) : SamePermits s (t.setTracker k) :=
  h.trans (.of_eq rfl rfl rfl rfl)
theorem setCache_permits (h : SamePermits s t) (c : Cache) : SamePermits s (t.setCache c) :=
  h.trans (.of_eq rfl rfl rfl rfl)
theorem setPort_permits (h : SamePermits s t) (p : Port) : SamePermits s (t.setPort p) :=
  h.trans (.of_eq rfl rfl rfl rfl)
theorem setOverloadHold_permits (h : SamePermits s t) (l : Levels) : SamePermits s (t.setOverloadHold l) :=
  h.trans (.of_eq rfl rfl rfl rfl)
theorem modEngine_permits (h : SamePermits s t) (e : EngineId) (f : Engine → Engine) :
    SamePermits s (t.modEngine e f) := h.trans (.of_eq rfl rfl rfl rfl)

theorem FrontOnly.permits (f : FrontOnly s t) : SamePermits s t :=
  .of_eq (by simp only [State.configured, f.regs]) f.holds f.stations f.mem

theorem when_permits (h : SamePermits s t) (b : Bool) (act : State → State)
    (hk : ∀ u, SamePermits s u → SamePermits s (act u)) : SamePermits s (if b then act t else t) := by
  split
  · exact hk t h
  · exact h

theorem raiseIf_permits (h : SamePermits s t) (b : Bool) (c : BitVec 5) : SamePermits s (t.raiseIf b c) :=
  when_permits h b (State.raise · c) fun _ hu => setRegs_permits hu _

theorem updateTracker_permits (h : SamePermits s t) (k : Tracker) (event : Bool) :
    SamePermits s (t.updateTracker k event) := by
  unfold State.updateTracker State.writeTracker
  refine raiseIf_permits (put_permits (put_permits (setTracker_permits h k) _ _ (.inl ?_)) _ _ (.inl ?_)) _ _ <;>
    simp [msAngle, msCycles, halfBytes, longBytes]

theorem judged_permits (h : SamePermits s t) : SamePermits s (t.judgeWatches).judgeQuestions :=
  h.trans (judgeQuestions_within (judgeWatches_within (.refl t))).permits

theorem finishCard_permits (h : SamePermits s t) (k : CardId) (b : Byte) (notify : Bool) :
    SamePermits s (t.finishCard k b notify) := raiseIf_permits (putStatus_permits (putCard_permits h k _ _) k _) _ _

theorem endCard_permits (h : SamePermits s t) (k : CardId) (b : Byte) (x : ErrorCode) (notify : Bool) :
    SamePermits s (t.endCard k b x notify) := finishCard_permits (putCard_permits h k _ _) k b notify

theorem endBlank_permits (h : SamePermits s t) (k : CardId) (b : Byte) (x : ErrorCode) :
    SamePermits s (t.endBlank k b x) := endCard_permits (putCard_permits h k _ _) k b x _

theorem requestSweep_permits (h : SamePermits s t) : SamePermits s t.requestSweep := by
  unfold State.requestSweep
  split
  · exact when_permits h t.regs.enable (fun u => u.setSweeper { t.sweeper with visit := some (.header 0), ending := false })
      fun _ hu => setSweeper_permits hu _
  · exact setSweeper_permits h _

theorem nextVisit_permits (h : SamePermits s t) (k : CardId) : SamePermits s (t.nextVisit k) := by
  unfold State.nextVisit
  split
  · exact setSweeper_permits h _
  · exact setSweeper_permits h _

theorem visitCard_permits (h : SamePermits s t) (k : CardId) : SamePermits s (t.visitCard k) := by
  unfold State.visitCard
  dsimp only
  split_ifs
  · exact nextVisit_permits h k
  · exact setSweeper_permits h _
  · exact setSweeper_permits h _
  · exact nextVisit_permits h k

theorem takeNotice_permits (h : SamePermits s t) (x : Notice) : SamePermits s (t.takeNotice x) := by
  unfold State.takeNotice
  exact forAll_invariant (P := SamePermits s) (fun _ _ hu => endCard_permits (setWaiting_permits hu _) _ _ _ _) _ h

theorem markLoss_permits (h : SamePermits s t) (n : StationId) (l : Loss) : SamePermits s (t.markLoss n l) :=
  when_permits h (t.held n) _ fun _ hu => modStation_permits hu n

theorem sendStop_permits (h : SamePermits s t) (n : StationId) (x : Stop) : SamePermits s (t.sendStop n x) := by
  unfold State.sendStop
  split
  · exact modEngine_permits h _ _
  · exact h

theorem tellList_permits (h : SamePermits s t) (n : StationId) (x : StationEvent) : SamePermits s (t.tellList n x) :=
  setNotices_permits h _

theorem passCancel_permits (h : SamePermits s t) (k : CardId) : SamePermits s (t.passCancel k) := by
  unfold State.passCancel State.cancelPending
  split_ifs
  · exact finishCard_permits (setWaiting_permits h _) k _ _
  · exact h
  · split
    · exact modEngine_permits h _ _
    · exact h
  · exact h

/-! ## Operations of one station -/

theorem modStation_onStation (h : OnStation n s t) (f : Station → Station) : OnStation n s (t.modStation n f) :=
  h.trans fun m hm => ⟨rfl, rfl, by rw [State.station_modStation_other _ _ _ _ hm], fun _ => rfl⟩

/-- Bytes put in the record of station n. -/
theorem put_onStation (h : OnStation n s t) (a : Nat) (bs : List Byte)
    (inside : stationBase n ≤ a ∧ a + bs.length ≤ stationBase n + 128) : OnStation n s (t.put a bs) := by
  refine h.trans fun m hm => put_samePermit a bs fun p => ?_
  have differ : m.val ≠ n.val := fun eq => hm (Fin.ext eq)
  simp only [slotBase, stationBase] at inside ⊢
  omega

theorem setHold_onStation (h : OnStation n s t) (e : Option EngineId) : OnStation n s (t.setHold n e) :=
  h.trans fun m hm =>
    ⟨rfl, by rw [State.held, State.holder_setHold, if_neg hm, State.held], rfl, fun _ => rfl⟩

theorem setPoint_onStation (h : OnStation n s t) (e : EngineId) (x : Option StationId) :
    OnStation n s (t.setPoint e x) :=
  h.trans fun _ _ => ⟨rfl, rfl, rfl, fun _ => rfl⟩

theorem writeSlot_onStation (h : OnStation n s t) (p : SlotId) (f : SlotFields) :
    OnStation n s (t.writeSlot n p f) := by
  unfold State.writeSlot
  dsimp only
  split
  · exact h
  · refine put_onStation (put_onStation (put_onStation (put_onStation h _ _ ?_) _ _ ?_) _ _ ?_) _ _ ?_ <;>
      (simp only [slotBase, halfBytes, longBytes, List.length_append, List.length_cons, List.length_nil]; omega)

theorem resetSlots_onStation (h : OnStation n s t) (ps : List SlotId) : OnStation n s (t.resetSlots n ps) :=
  forAll_invariant (P := OnStation n s) (fun p _ hu => writeSlot_onStation hu p _) ps h

theorem refreshHeldPermit_onStation (h : OnStation n s t) : OnStation n s (t.refreshHeldPermit n) := by
  unfold State.refreshHeldPermit
  split
  · exact modStation_onStation h _
  · exact h

theorem evaluatePermit_settles (s : State) (n : StationId) : (s.evaluatePermit n).permitSettled n := by
  have station : (s.evaluatePermit n).station n = _ := State.station_modStation_self _ _ _
  rw [State.permitSettled, station]
  have derived : (s.evaluatePermit n).derived n (s.held n) = s.derived n (s.held n) := by
    unfold State.evaluatePermit
    have slots (f : Station → Station) : (s.modStation n f).slotVerdict n = s.slotVerdict n := rfl
    simp only [State.derived, State.station_modStation_self, slots]
    rfl
  exact congrArg (permitOf · _ _) derived.symm

theorem evaluatePermit_onStation (h : OnStation n s t) : OnStation n s (t.evaluatePermit n) := modStation_onStation h _

theorem stampAndFlag_onStation (h : OnStation n s t) : OnStation n s (t.stampAndFlag n) := by
  unfold State.stampAndFlag
  dsimp only
  have stamped := put_onStation h (stationBase n + stStamp) (longBytes t.tracker.cycles)
    (by simp only [stStamp, longBytes, List.length_cons, List.length_nil]; omega)
  have flagged := put_onStation stamped (stationBase n + stChangeFlag) [1]
    (by simp only [stChangeFlag, List.length_cons, List.length_nil]; omega)
  exact flagged.trans ((raiseIf_permits (.refl _) _ _).onStation n)

/-- An event of station n leaves the permits of the others and settles its own. -/
theorem stationEvent_settles {act : State → State} (but : ∀ m, m ≠ n → s.permitSettled m) (own : OnStation n s (act s)) :
    (s.stationEvent n act).permitsSettled := by
  intro m
  unfold State.stationEvent State.settleRecord
  dsimp only
  by_cases hm : m = n
  · subst hm
    exact evaluatePermit_settles _ m
  · have settled := put_onStation own (stationBase n + stState) [((act s).derived n ((act s).held n)).code]
      (by simp only [stState, List.length_cons, List.length_nil]; omega)
    refine (evaluatePermit_onStation ?_ m hm).settled (but m hm)
    split
    · exact settled
    · exact stampAndFlag_onStation settled

end

end Sys2Proof.Machine
end

section
/-! Every step keeps every permit as Table 3-4 gives it (03 R57, R58). -/

namespace Sys2Proof.Machine

section
variable {s t : State} {n : StationId}

/-! ## Events of a station -/

/-- An event of a station keeps every permit settled. -/
theorem stationEvent_settled {act : State → State} (h : s.permitsSettled) (own : OnStation n s (act s)) :
    (s.stationEvent n act).permitsSettled := stationEvent_settles (fun m _ => h m) own

theorem putPresent_onStation (h : OnStation n s t) (b : Byte) :
    OnStation n s (t.put (stationBase n + stPresent) [b]) :=
  put_onStation h _ _ (by simp only [stPresent, List.length_cons, List.length_nil]; omega)

theorem putFaultCause_onStation (h : OnStation n s t) (b : Byte) :
    OnStation n s (t.put (stationBase n + stFaultCause) [b]) :=
  put_onStation h _ _ (by simp only [stFaultCause, List.length_cons, List.length_nil]; omega)

theorem putHolder_onStation (h : OnStation n s t) (b : Byte) :
    OnStation n s (t.put (stationBase n + stHolder) [b]) :=
  put_onStation h _ _ (by simp only [stHolder, List.length_cons, List.length_nil]; omega)

theorem clearFault_settled (h : s.permitsSettled) (n : StationId) : (s.clearFault n).permitsSettled :=
  stationEvent_settled h (putFaultCause_onStation (modStation_onStation (.refl n s) _) _)

theorem takeFit_settled (h : s.permitsSettled) (n : StationId) : (s.takeFit n).permitsSettled :=
  stationEvent_settled h (putPresent_onStation (modStation_onStation (.refl n s) _) _)

theorem takeFault_settled (h : s.permitsSettled) (n : StationId) (c : FaultCause) :
    (s.takeFault n c).permitsSettled := by
  unfold State.takeFault
  split
  · exact h
  · refine (tellList_permits (markLoss_permits (.refl _) n _) n _).settled (stationEvent_settled h ?_)
    exact refreshHeldPermit_onStation (resetSlots_onStation (putFaultCause_onStation
      (modStation_onStation (.refl n s) _) _) _)

theorem takeRemoval_settled (h : s.permitsSettled) (n : StationId) : (s.takeRemoval n).permitsSettled := by
  refine (tellList_permits (markLoss_permits (sendStop_permits (.refl _) n _) n _) n _).settled
    (stationEvent_settled h ?_)
  exact refreshHeldPermit_onStation (resetSlots_onStation (putPresent_onStation
    (modStation_onStation (.refl n s) _) _) _)

theorem forgetSlots_settled (h : s.permitsSettled) (n : StationId) : (s.forgetSlots n).permitsSettled :=
  stationEvent_settled h (forAll_invariant (P := OnStation n s) (fun p _ hu => writeSlot_onStation hu p _) _ (.refl n s))

theorem acceptDelivery_settled (h : s.permitsSettled) (n : StationId) (tag : Byte) (d : Parcel) :
    (s.acceptDelivery n tag d).permitsSettled := by
  refine stationEvent_settled h (refreshHeldPermit_onStation ?_)
  have reset (p : SlotId) : OnStation n s (s.resetOnSerial n p d) := by
    unfold State.resetOnSerial
    split
    · split
      · exact writeSlot_onStation (.refl n s) p _
      · exact .refl n s
    · exact .refl n s
  split
  · exact writeSlot_onStation (reset _) _ _
  · exact .refl n s

/-! ## Setup (03 R46 to R50) -/

theorem disableStation_settled (h : s.permitsSettled) (n : StationId) : (s.disableStation n).permitsSettled := by
  refine (tellList_permits (markLoss_permits (sendStop_permits (.refl _) n _) n _) n _).settled
    (stationEvent_settled h ?_)
  exact refreshHeldPermit_onStation (resetSlots_onStation (putPresent_onStation
    (modStation_onStation (.refl n s) _) _) _)

theorem enableStation_settled (h : s.permitsSettled) (n : StationId) : (s.enableStation n).permitsSettled :=
  stationEvent_settled h (modStation_onStation (.refl n s) _)

theorem changeRoster_settled (h : s.permitsSettled) (n : StationId) (c : Setup) :
    (s.changeRoster n c).permitsSettled :=
  (tellList_permits (.refl _) n _).settled (stationEvent_settled h
    (resetSlots_onStation (modStation_onStation (.refl n s) _) _))

theorem changePolicy_settled (h : s.permitsSettled) (n : StationId) (b : Bool) : (s.changePolicy n b).permitsSettled := by
  intro m
  unfold State.changePolicy
  by_cases hm : m = n
  · subst hm
    exact evaluatePermit_settles _ m
  · exact (evaluatePermit_onStation (modStation_onStation (.refl n s) _) m hm).settled (h m)

theorem changeArcs_settled (h : s.permitsSettled) (n : StationId) (a b : Half) : (s.changeArcs n a b).permitsSettled := by
  unfold State.changeArcs
  dsimp only
  have written : SamePermits s (s.modStation n fun x =>
      { x with setup := { x.setup with arcStart := a, arcEnd := b } }) := modStation_permits (.refl s) n
  split
  · exact (written.trans (judgeQuestion_onEngine (.refl _ _)).permits).settled h
  · exact written.settled h

theorem setupNotice_settled (h : s.permitsSettled) (n : StationId) : (s.setupNotice n).permitsSettled := by
  have acted (c : Setup) (held : Bool) : (s.actOnSetup n c held).permitsSettled :=
    State.actOnSetup_stages (P := State.permitsSettled) h (fun _ hu => disableStation_settled hu n)
      (fun _ hu => enableStation_settled hu n) (fun _ hu => changeRoster_settled hu n c)
      (fun _ hu => changePolicy_settled hu n _) (fun u hu => (modStation_permits (.refl u) n).settled hu)
      fun _ hu => changeArcs_settled hu n _ _
  unfold State.setupNotice
  dsimp only
  split_ifs
  · exact h
  · exact (modStation_permits (.refl _) n).settled (acted _ _)
  · exact acted _ _

theorem activateStation_onStation (s : State) (n : StationId) : OnStation n s (s.activateStation n) := by
  unfold State.activateStation State.stationEvent State.settleRecord
  dsimp only
  have put : OnStation n s _ := put_onStation (modStation_onStation (.refl n s) fun t =>
      { Station.reset with setup := s.readSetup n, permit := t.permit }) (stationBase n + stState)
    [((s.modStation n fun t => { Station.reset with setup := s.readSetup n, permit := t.permit }).derived n
      ((s.modStation n fun t => { Station.reset with setup := s.readSetup n, permit := t.permit }).held n)).code]
    (by simp only [stState, List.length_cons, List.length_nil]; omega)
  refine evaluatePermit_onStation ?_
  split
  · exact put
  · exact stampAndFlag_onStation put

theorem activateStation_settles (s : State) (n : StationId) : (s.activateStation n).permitSettled n :=
  evaluatePermit_settles _ n

/-- After the activation of every station every permit is settled, whatever they were. -/
theorem activateSupervisor_settled (s : State) : s.activateSupervisor.permitsSettled := by
  intro n
  unfold State.activateSupervisor
  obtain ⟨before, after, eq⟩ := List.append_of_mem (mem_allStations n)
  have nodup := allStations_nodup
  rw [eq, List.nodup_middle, List.nodup_cons, List.mem_append, not_or] at nodup
  have split : forAll allStations (fun n t => t.activateStation n) s =
      forAll after (fun n t => t.activateStation n)
        ((forAll before (fun n t => t.activateStation n) s).activateStation n) := by
    rw [eq]; simp [forAll]
  rw [split]
  have keeps : ∀ xs : List StationId, n ∉ xs → ∀ u : State, u.permitSettled n →
      (forAll xs (fun n t => t.activateStation n) u).permitSettled n := by
    intro xs
    induction xs with
    | nil => exact fun _ _ hu => hu
    | cons m ms ih =>
      intro other u hu
      rw [List.mem_cons, not_or] at other
      exact ih other.2 _ ((activateStation_onStation u m n other.1).settled hu)
  exact keeps after nodup.1.2 _ (activateStation_settles _ n)

/-! ## Grants and releases (05 R86 to R88) -/

theorem grant_settled (h : s.permitsSettled) (x : Entry) (e : EngineId) : (s.grant x e).permitsSettled := by
  rw [grant_eq]
  have bound : OnStation x.station s (s.bind x e) :=
    setPoint_onStation (setHold_onStation
      ((modEngine_permits (setWaiting_permits (.refl s) _) e _).onStation x.station) (some e)) e _
  have written := bound.trans ((putStatus_permits (putCard_permits (.refl (s.bind x e)) x.card cdEngine
    [BitVec.ofNat 8 e.val]) x.card [statusRunning]).onStation x.station)
  generalize State.put (State.put _ _ _) _ _ = u at written ⊢
  refine (askQuestion_onEngine (.refl e _) .frame).permits.settled ?_
  have begun : (u.stationEvent x.station fun u =>
      (u.modStation x.station fun t => { t with heldPermit := t.permit, lossMark := u.lossAtHoldBegin x.station }).put
        (stationBase x.station + stHolder) [BitVec.ofNat 8 e.val]).permitsSettled :=
    stationEvent_settles (fun m hm => (written m hm).settled (h m))
      (putHolder_onStation (modStation_onStation (.refl _ u) _) _)
  unfold State.holdBegin
  dsimp only
  split
  · exact (modEngine_permits (.refl _) e _).settled begun
  · exact begun

theorem allocate_settled (h : s.permitsSettled) : s.allocate.permitsSettled := by
  have granted (fuel : Nat) : ∀ u : State, u.permitsSettled → (State.grantAll fuel u).permitsSettled := by
    induction fuel with
    | zero => exact fun _ hu => hu
    | succ k ih =>
      intro u hu
      rw [State.grantAll]
      split
      · exact ih _ (grant_settled hu _ _)
      · exact hu
  unfold State.allocate
  split
  · exact granted 4 s h
  · exact h

theorem release_settled (h : s.permitsSettled) (e : EngineId) (n : StationId) : (s.release e n).permitsSettled := by
  have freed : OnStation n s (((s.modEngine e Engine.retire).setHold n none).setPoint e none) :=
    setPoint_onStation (setHold_onStation ((modEngine_permits (.refl s) e _).onStation n) none) e none
  refine allocate_settled ?_
  generalize State.setPoint _ _ _ = u at freed ⊢
  have ended : ((u.stationEvent n fun u => u.put (stationBase n + stHolder) [codeNone]).modStation n
      fun t => { t with deferred := false }).permitsSettled :=
    (modStation_permits (.refl _) n).settled (stationEvent_settles (fun m hm => (freed m hm).settled (h m))
      (putHolder_onStation (.refl n u) _))
  unfold State.holdEnd
  dsimp only
  split
  · exact setupNotice_settled ended n
  · exact ended

/-! ## The commands -/

theorem intakeCard_settled (h : s.permitsSettled) (k : CardId) : (s.intakeCard k).permitsSettled := by
  have ended (u : State) (hu : u.permitsSettled) (b : Byte) (x : ErrorCode) : (u.endBlank k b x).permitsSettled :=
    (endBlank_permits (.refl u) k b x).settled hu
  unfold State.intakeCard
  dsimp only
  split
  · exact ended s h _ _
  · split
    · exact ended s h _ _
    · rename_i n _
      split_ifs
      · unfold State.intakeClearFault
        split_ifs
        · exact ended s h _ _
        · exact ended s h _ _
        · exact ended s h _ _
        · exact ended _ (clearFault_settled h n) _ _
      · unfold State.intakeForget
        split_ifs
        · exact ended s h _ _
        · exact ended _ (forgetSlots_settled h n) _ _
      · exact allocate_settled ((setWaiting_permits (setSweeper_permits (putStatus_permits (putCard_permits
          (putCard_permits (.refl s) k _ _) k _ _) k _) _) _).settled h)

theorem intakeVisit_settled (h : s.permitsSettled) (k : CardId) (bytes : List Byte) :
    (s.intakeVisit k bytes).permitsSettled := by
  unfold State.intakeVisit
  split
  · exact (nextVisit_permits (.refl s) k).settled h
  · exact (nextVisit_permits (.refl _) k).settled (intakeCard_settled h k)

theorem writeResult_permits (s : State) (k : CardId) (g : Engine) : SamePermits s (s.writeResult k g) :=
  putCard_permits (putCard_permits (putCard_permits (.refl s) k _ _) k _ _) k _ _

/-- A step of the blocks keeps every permit settled. -/
theorem BlockStep.settled (h : BlockStep s t) (settled : s.permitsSettled) : t.permitsSettled := by
  have same := SamePermits.refl s
  have quiet (keeps : SamePermits s t) := keeps.settled settled
  have own (e : EngineId) := OnEngine.refl e s
  cases h with
  | requestSweep => exact quiet (requestSweep_permits same)
  | expireSweepTimer => exact quiet (setSweeper_permits (requestSweep_permits same) _)
  | visitCard => exact quiet (visitCard_permits same _)
  | endStray => exact quiet (nextVisit_permits (endBlank_permits same _ _ _) _)
  | intakeVisit => exact intakeVisit_settled settled _ _
  | takeNotice => exact quiet (takeNotice_permits (setNotices_permits same _) _)
  | sample =>
    exact quiet (forAll_invariant (P := SamePermits s) (fun n u hu => when_permits hu _ (State.modStation · n _)
      fun _ hv => modStation_permits hv n fun x => by unfold Station.sample; split <;> rfl) _ same)
  | takeFit => exact takeFit_settled settled _
  | takeRemoval => exact takeRemoval_settled settled _
  | takeFault => exact takeFault_settled ((modEngine_permits same _ _).settled settled) _ _
  | recheck => exact quiet (modStation_permits same _)
  | clearFault => exact clearFault_settled settled _
  | takeMclk => exact quiet (judged_permits (updateTracker_permits same _ _))
  | takeMidx => exact quiet (judged_permits (updateTracker_permits same _ _))
  | takeStopTimeout =>
    exact quiet ((updateTracker_permits same _ _).trans (judgeQuestions_within (.refl _)).permits)
  | expireGate => exact quiet (expireGate_onEngine (own _) _).permits
  | endPulse => exact quiet (endPulse_onEngine (own _)).permits
  | modStage => exact quiet (modEngine_permits same _ _)
  | closeWindow => exact quiet (closeWindow_onEngine (own _) _).permits
  | endSettle => exact quiet (toGating_onEngine (own _) _).permits
  | endLevel => exact quiet (endLevel_onEngine (own _)).permits
  | endTail => exact quiet (endTail_onEngine _ s).permits_cache
  | readShelf => exact quiet (readShelf_onEngine _ s).permits_cache
  | endScoring => exact quiet (endScoring_onEngine (own _) _).permits
  | writeResult => exact quiet (modEngine_permits (writeResult_permits s _ _) _ _)
  | deliver =>
    unfold State.deliver
    dsimp only
    refine (modEngine_permits (.refl _) _ _).settled ?_
    split
    · exact acceptDelivery_settled settled _ _ _
    · exact settled
  | endOnEngine => exact release_settled ((endCard_permits same _ _ _ _).settled settled) _ _
  | stopReaches => exact quiet (stopReaches_onEngine (own _) _).permits
  | endStopped =>
    exact release_settled ((finishCard_permits (putCard_permits (putCard_permits (putCard_permits same _ _ _) _ _ _)
      _ _ _) _ _ _).settled settled) _ _
  | overload => 
    refine quiet (when_permits ((setOverloadHold_permits same _).trans
      (faultStop_onEngine (.refl _ _) _).permits) _ (State.setOverloadHold · _) fun _ hu => setOverloadHold_permits hu _)

end

end Sys2Proof.Machine
end

section
/-! The ownership of a byte by its place in a record, and the permits over every command (01 R8 to R11, 03 R57). -/

namespace Sys2Proof.Machine

/-! ## Records by address (01 Table 1-3) -/

theorem stationAt_stationBase (n : StationId) {o : Nat} (ho : o < 128) :
    stationAt (stationBase n + o) = some (n, o) := by
  have inside : 0x100 ≤ stationBase n + o ∧ stationBase n + o < 0x700 := by simp only [stationBase]; omega
  rw [stationAt, dif_pos inside]
  simp only [stationBase, Option.some.injEq, Prod.mk.injEq, Fin.ext_iff]
  omega

theorem stationAt_none {a : Nat} (h : a < 0x100 ∨ 0x700 ≤ a) : stationAt a = none := dif_neg (by omega)

theorem cardAt_cardBase (k : CardId) {o : Nat} (ho : o < 64) : cardAt (cardBase k + o) = some (k, o) := by
  have inside : 0x800 ≤ cardBase k + o ∧ cardBase k + o < 0x1000 := by simp only [cardBase]; omega
  rw [cardAt, dif_pos inside]
  simp only [cardBase, Option.some.injEq, Prod.mk.injEq, Fin.ext_iff]
  omega

theorem cardAt_none {a : Nat} (h : a < 0x800 ∨ 0x1000 ≤ a) : cardAt a = none := dif_neg (by omega)

theorem State.accepts_station (s : State) {a : Address} {v : Byte} {n : StationId} {o : Nat} (ho : o < 128)
    (h : a.toNat = stationBase n + o) : s.accepts a v = stationByteAccepted o (s.held n) v := by
  have low : ¬(stationBase n + o < 0x80) := by simp only [stationBase]; omega
  have status : ¬(stationBase n + o < 0xA0) := by simp only [stationBase]; omega
  simp only [State.accepts, h, if_neg low, if_neg status, stationAt_stationBase n ho]

theorem State.accepts_card (s : State) {a : Address} {v : Byte} {k : CardId} {o : Nat} (ho : o < 64)
    (h : a.toNat = cardBase k + o) : s.accepts a v = cardByteAccepted o (s.cardStatus k) := by
  have low : ¬(cardBase k + o < 0x80) := by simp only [cardBase]; omega
  have status : ¬(cardBase k + o < 0xA0) := by simp only [cardBase]; omega
  have noStation : stationAt (cardBase k + o) = none := stationAt_none (by simp only [cardBase]; omega)
  simp only [State.accepts, h, if_neg low, if_neg status, noStation, cardAt_cardBase k ho]

/-- The controller cannot write the verdict of a slot (01 R9). -/
theorem State.accepts_slotVerdict (s : State) {a : Address} {v : Byte} {n : StationId} {p : SlotId}
    (h : a.toNat = slotBase n p) : s.accepts a v = false := by
  rw [s.accepts_station (n := n) (o := 0x20 + 20 * p.val) (by omega) (by rw [h, slotBase, Nat.add_assoc])]
  unfold stationByteAccepted
  have middle : ¬(0x20 + 20 * p.val < 0x20) ∧ 0x20 + 20 * p.val < 0x70 := by omega
  have place : (0x20 + 20 * p.val - 0x20) % 20 = 0 := by omega
  rw [if_neg (by omega), if_neg (by omega), if_neg (by omega), if_neg (by omega), if_neg middle.1, if_pos middle.2, place]
  rfl

/-! ## Reset -/

theorem State.derived_unconfigured {s : State} (h : s.configured = false) (n : StationId) (held : Bool) :
    s.derived n held = .off := by
  simp [State.derived, stationStateOf, h]

/-- Before a configuration a low permit is settled. -/
theorem permitsSettled_of_unconfigured {s : State} (h : s.configured = false) (low : ∀ n, (s.station n).permit = false) :
    s.permitsSettled := by
  intro n
  rw [State.permitSettled, State.derived_unconfigured h, low n]
  rfl

theorem permitsFollow_running {s : State} (h : s.inReset = false) : s.permitsFollow ↔ s.permitsSettled := by
  simp only [State.permitsFollow, State.permitsSettled, State.permitSettled, h, Bool.false_eq_true, if_false]

theorem permitsFollow_reset {s : State} (h : s.inReset = true) :
    s.permitsFollow ↔ ∀ n, (s.station n).permit = false := by
  simp only [State.permitsFollow, h, if_true]

/-- A reset that ends leaves every permit low, the part not configured. -/
theorem permitsFollow_of_reset {s : State} (configured : s.configured = false)
    (stations : s.stations = Vector.replicate 12 Station.reset) : s.permitsFollow := by
  have low (n : StationId) : (s.station n).permit = false := by simp [State.station, stations, Station.reset]
  cases reset : s.inReset with
  | true => exact (permitsFollow_reset reset).mpr low
  | false => exact (permitsFollow_running reset).mpr (permitsSettled_of_unconfigured configured low)

theorem finishReset_permitsFollow (s : State) : s.finishReset.permitsFollow := by
  have rewritten := finishReset_rewrites s
  refine permitsFollow_of_reset ?_ (congrArg State.stations rewritten)
  have snapshot : s.finishReset.regs.snapshot = none := congrArg (fun t => t.regs.snapshot) rewritten
  simp [State.configured, snapshot]

/-! ## Every command -/

section
variable {s t u : State}

/-- With every ground of a permit as before, and a reset lasting as before, the permits follow as before. -/
theorem SamePermits.follow (h : SamePermits s t) (reset : t.inReset = s.inReset) (follow : s.permitsFollow) :
    t.permitsFollow := by
  cases lasts : s.inReset with
  | false => exact (permitsFollow_running (reset.trans lasts)).mpr (h.settled ((permitsFollow_running lasts).mp follow))
  | true =>
    refine (permitsFollow_reset (reset.trans lasts)).mpr fun n => ?_
    have part := (h n).part
    simp only [Station.permitPart, Prod.mk.injEq] at part
    rw [part.2.2.2.2]
    exact (permitsFollow_reset lasts).mp follow n

theorem FrontOnly.follow (f : FrontOnly s t) (follow : s.permitsFollow) : t.permitsFollow :=
  f.permits.follow f.inReset follow

/-- An offered byte is none of a slot's verdict. -/
theorem offerByte_permits (s : State) (a : Address) (v : Byte) : SamePermits s (s.offerByte a v) := by
  have rest : ∀ n, (s.offerByte a v).station n = s.station n ∧ (s.offerByte a v).held n = s.held n := by
    rw [s.offerByte_rest a v]
    exact fun _ => ⟨rfl, rfl⟩
  refine fun n => ⟨by rw [State.configured, offerByte_regs, State.configured], (rest n).2, by rw [(rest n).1],
    fun p => ?_⟩
  by_cases at_ : a.toNat = slotBase n p
  · simp only [State.slotVerdict, State.byte, offerByte_mem, s.accepts_slotVerdict at_]
    rfl
  · have other := s.byte_put_other a.toNat (slotBase n p) [v] (by simp only [List.length_singleton]; omega)
    unfold State.slotVerdict State.byte
    rw [offerByte_mem]
    split
    · exact other
    · rfl

theorem tellBlocks_settled (first : Bool) (h : first = true ∨ s.permitsSettled) : (s.tellBlocks first).permitsSettled := by
  refine allocate_settled ((setSweeper_permits (.refl _) _).settled ?_)
  split
  · exact activateSupervisor_settled _
  · obtain contra | settled := h
    · contradiction
    · exact forAll_invariant (P := State.permitsSettled)
        (fun e u hu => (resumeEngine_onEngine e u).permits_cache.settled hu) _ settled

theorem restartTracker_permits (s : State) : SamePermits s s.restartTracker :=
  judged_permits (updateTracker_permits (.refl s) _ _)

theorem acceptConfiguration_settled (snap : Snapshot) (h : s.permitsSettled) :
    (s.acceptConfiguration snap).permitsSettled := by
  cases before : s.regs.snapshot with
  | none =>
    rw [acceptConfiguration_first before]
    exact tellBlocks_settled _ (.inl rfl)
  | some old =>
    have taken : SamePermits s (s.takeConfiguration snap) := by
      have registers : SamePermits s (s.setRegs { s.regs with enable := true, snapshot := some snap }) :=
        .of_eq (by simp [State.configured, before]) rfl rfl rfl
      exact put_permits registers msConfigFault [codeNone] (.inl (by decide))
    by_cases same : old.ppc = snap.ppc
    · rw [acceptConfiguration_same before same]
      exact tellBlocks_settled _ (.inr (taken.settled h))
    · rw [acceptConfiguration_changed before same]
      exact tellBlocks_settled _ (.inr ((taken.trans (restartTracker_permits _)).settled h))

theorem enablePart_settled (h : s.permitsSettled) : s.enablePart.permitsSettled := by
  obtain ⟨offset, eq⟩ | ⟨snap, _, eq⟩ := enablePart_cases s
  · rw [eq]
    exact (setRegs_permits (put_permits (.refl s) msConfigFault [offset] (.inl (show (0x86 : Nat) ≤ 0x100 by decide)))
      _).settled h
  · rw [eq]
    exact acceptConfiguration_settled snap h

theorem enablePart_pins (s : State) : s.enablePart.pins = s.pins := by
  obtain ⟨offset, eq⟩ | ⟨snap, _, eq⟩ := enablePart_cases s
  · rw [eq, (rejectConfiguration_beside s offset).pins]
  · rw [eq, (acceptConfiguration_beside s snap).pins]
    rfl

theorem endTransaction_settled (h : s.permitsSettled) : s.endTransaction.permitsSettled := by
  have cancelled := (forAll_invariant (P := SamePermits s)
    (act := fun k t => if s.port.cancelNotes[k.val] then t.passCancel k else t)
    (fun k _ hu => when_permits hu _ (·.passCancel k) fun _ hv => passCancel_permits hv k) allCards (.refl s)).settled h
  have noticed := forAll_invariant (P := State.permitsSettled)
    (act := fun n t => if s.port.setupNotes[n.val] then t.setupNotice n else t)
    (fun n u hu => by
      split
      · exact setupNotice_settled hu n
      · exact hu) allStations cancelled
  unfold State.endTransaction
  dsimp only
  generalize forAll allStations _ _ = u at noticed ⊢
  have shelf := when_permits (.refl u) s.port.shelfNote State.takeShelfFixed fun v hv => by
    unfold State.takeShelfFixed
    dsimp only
    split
    · exact forAll_invariant (P := SamePermits u) (fun e _ hw => modEngine_permits hw e _) _
        (setCache_permits (setRegs_permits hv _) _)
    · exact setRegs_permits hv _
  have timed := when_permits shelf s.port.periodNote State.noticePeriod fun v hv => by
    unfold State.noticePeriod
    split
    · exact when_permits hv v.regs.enable (fun w => w.setSweeper { v.sweeper with timer := v.readSweepPeriod })
        fun _ hw => setSweeper_permits hw _
    · exact hv
  have reread := forAll_invariant (P := SamePermits u) (act := fun e t => t.modEngine e Engine.afterTransaction)
    (fun e _ hw => modEngine_permits hw e _) allEngines timed
  exact (setPort_permits reread _).settled noticed

/-- A command keeps every permit as Table 3-4 gives it. -/
theorem Does.permitsFollow {c : Instr} (h : Does c s t) (follow : s.permitsFollow) : t.permitsFollow := by
  have front {u w : State} (f : FrontOnly u w) (h : u.permitsFollow) := f.follow h
  have running {u w : State} (f : FrontOnly s u) (run : u.inReset = false) (same : w.inReset = u.inReset)
      (h : u.permitsSettled → w.permitsSettled) : w.permitsFollow :=
    (permitsFollow_running (same.trans run)).mpr (h ((permitsFollow_running run).mp (front f follow)))
  cases h with
  | front f => exact front f follow
  | @block _ _ u w _ f run h after =>
    exact front after (running f run (by simp only [State.inReset, h.beside.pins]) h.settled)
  | @offers _ _ u f =>
    have reset : (u.offerByte s.port.pointer ‹_›).inReset = u.inReset := by rw [u.offerByte_rest]; rfl
    exact (offerByte_permits u _ _).follow reset (front f follow)
  | @enables _ _ _ u f run _ sweep =>
    have pins := (enables_beside u sweep).pins.trans (enablePart_pins u)
    refine running f run (by rw [State.inReset, pins, State.inReset]) fun settled => ?_
    exact (when_permits (.refl _) _ State.requestSweep fun _ hu => requestSweep_permits hu).settled
      (enablePart_settled settled)
  | @disables _ _ u f run =>
    have pins : u.disablePart.pins = u.pins := (disablePart_beside u).pins
    refine running f run (by rw [State.inReset, pins, State.inReset]) fun settled => ?_
    exact (setSweeper_permits ((setRegs_permits (.refl u) { u.regs with enable := false }).trans
      (forAll_within (fun e v => holdEngine_onEngine (.refl e v)) _ _).permits) _).settled settled
  | @resetsSoft _ _ u f => 
    have finished := finishReset_permitsFollow u
    unfold State.softReset
    generalize u.finishReset = w at finished ⊢
    exact (setPort_permits (.refl w) _).follow rfl finished
  | @clears _ _ u f v => exact (setRegs_permits (.refl u) _).follow rfl (front f follow)
  | @masks _ _ u f v => exact (setRegs_permits (.refl u) _).follow rfl (front f follow)
  | @ends _ _ u f run =>
    have pins : u.endTransaction.pins = u.pins := (endTransaction_rest u).2.1
    exact running f run (by rw [State.inReset, pins, State.inReset]) endTransaction_settled
  | @resets low _ =>
    unfold State.assertReset
    dsimp only
    split
    · refine (permitsFollow_reset (by simp [State.inReset])).mpr fun n => ?_
      simp [State.station, State.beginReset, State.setPins]
    · exact front ((FrontOnly.refl s).countFree _) follow
  | releases low =>
    unfold State.releaseReset
    dsimp only
    split
    · rename_i por
      have lasts : (s.setPins { s.pins with resetLow := false }).inReset = true := by simp [State.inReset, por]
      have lasted : s.inReset = true := by simp [State.inReset, low]
      exact (permitsFollow_reset lasts).mpr ((permitsFollow_reset lasted).mp follow)
    · exact finishReset_permitsFollow _
  | powersOn => exact permitsFollow_of_reset rfl rfl

theorem tick_permits (s : State) : SamePermits s s.tick := by
  refine fun n => ⟨by rw [s.tick_rest]; rfl, by rw [s.tick_rest]; rfl, ?_, fun p => by rw [s.tick_rest]; rfl⟩
  obtain eq | eq := s.tick_station n <;> rw [eq]
  rfl

end

/-! ## Table 3-4 without a hold -/

theorem verdicts_all (s : State) (n : StationId) (b : Byte) :
    (∀ x ∈ (s.station n).setup.activeSlots.map (s.slotVerdict n), x = b) ↔
      ∀ p : SlotId, (s.station n).setup.activeAt p = true → s.byte (slotBase n p) = b := by
  simp [Setup.activeSlots, State.slotVerdict, mem_allSlots]

/-- Under ENFORCE the state of a station that is not held gives the permit only as GENUINE. -/
theorem permitOf_stationState_enforce (running fault present held : Bool) (count : Fin 5) (verdicts : List Byte) :
    permitOf (stationStateOf running fault present false count verdicts) false held = true ↔
      running = true ∧ fault = false ∧ present = true ∧ count ≠ 0 ∧ ∀ x ∈ verdicts, x = slotGenuine := by
  have excludes (v : Byte) (h : verdicts.contains v = true) (ne : v ≠ slotGenuine) :
      ¬∀ x ∈ verdicts, x = slotGenuine := fun all => ne (all v (by simpa using h))
  unfold stationStateOf
  split_ifs with run flt prs hld cnt counterfeit unreadable suspect genuine
  · exact iff_of_false nofun fun ⟨on, _⟩ => by simp [on] at run
  · exact iff_of_false nofun fun ⟨_, clear, _⟩ => by simp [clear] at flt
  · exact iff_of_false nofun fun ⟨_, _, there, _⟩ => by simp [there] at prs
  · exact absurd hld nofun
  · exact iff_of_false nofun fun ⟨_, _, _, counts, _⟩ => counts cnt
  · exact iff_of_false nofun fun ⟨_, _, _, _, all⟩ => excludes _ counterfeit (by decide) all
  · exact iff_of_false nofun fun ⟨_, _, _, _, all⟩ => excludes _ unreadable (by decide) all
  · exact iff_of_false nofun fun ⟨_, _, _, _, all⟩ => excludes _ suspect (by decide) all
  · exact iff_of_true rfl ⟨by simpa using run, by simpa using flt, by simpa using prs, cnt, by simpa using genuine⟩
  · exact iff_of_false nofun fun ⟨_, _, _, _, all⟩ => genuine (by simpa using all)

/-- Under ADVISE the slots do not count. -/
theorem permitOf_stationState_advise (running fault present held : Bool) (count : Fin 5) (verdicts : List Byte) :
    permitOf (stationStateOf running fault present false count verdicts) true held = true ↔
      running = true ∧ fault = false ∧ present = true := by
  unfold stationStateOf
  cases running <;> cases fault <;> cases present <;> simp [permitOf]; split_ifs <;> rfl

theorem State.configured_iff (s : State) : s.configured = true ↔ s.regs.snapshot ≠ none := by
  simp [State.configured, Option.isSome_iff_ne_none]

/-- Settles O38: every event of a station ends by evaluating its permit, and nothing else touches what it rests on. -/
theorem permitFollowsTheSlots : Obligations.PermitFollowsTheSlots := by
  refine ⟨fun s t follow h => ?_, fun s n held => ⟨?_, ?_⟩⟩
  · obtain ⟨_, rfl⟩ | ⟨c, rest, _, does⟩ := step_cases h
    · exact (tick_permits s).follow (by rw [s.tick_rest]; rfl) follow
    · exact does.permitsFollow ((SamePermits.of_eq (t := { s with pending := rest }) rfl rfl rfl rfl).follow rfl follow)
  · rw [State.derived, permitOf_stationState_enforce, Bool.and_eq_true, State.configured_iff, and_assoc,
      verdicts_all]
    simp only [Fin.ne_iff_vne, Fin.val_zero, Nat.one_le_iff_ne_zero]
    rfl
  · rw [State.derived, permitOf_stationState_advise, Bool.and_eq_true, State.configured_iff, and_assoc]

/-- Settles O5: the reset state is that of a part not configured, with no engine busy. -/
theorem resetMeetsTheInvariants : Obligations.ResetMeetsTheInvariants :=
  ⟨resetMemory_wf, holdsAgree_of_reset rfl rfl rfl, angleInRange_of_reset rfl rfl, permitsFollow_of_reset rfl rfl⟩

end Sys2Proof.Machine
end

section
/-! The SPI port byte by byte (01 R1 to R6, R18, R19). -/

namespace Sys2Proof.Machine

section
variable {s : State} {kind : Transaction} {b : Byte}

/-! ## A byte the port takes -/

/-- A byte of a transaction in progress goes to the port where it is one of the row's. -/
theorem clockByte_taking (running : s.inReset = false) (low : s.pins.csLow = true) (taking : s.port.taking = true)
    {fits : Bool} (fit : fits = true) (b : Byte) : s.clockByte fits b = s.portByte b := by
  simp [State.clockByte, running, low, taking, fit]

theorem State.takes.clockByte (h : s.takes kind) {fits : Bool} (fit : fits = true) (b : Byte) :
    s.clockByte fits b = s.portByte b := by
  obtain ⟨running, low, taking, _⟩ := h
  exact clockByte_taking running low taking fit b

theorem State.takes.isByteOf (h : s.takes kind) (b : Byte) : s.port.isByteOf kind b = true := by
  obtain ⟨_, _, _, command⟩ := h
  simp [Port.isByteOf, command]

/-- A byte of a discarded transaction is ignored (01 R20). -/
theorem clockByte_discarding (running : s.inReset = false) (low : s.pins.csLow = true)
    (idle : s.port.taking = false) (discarding : s.port.discarding = true) (fits : Bool) (b : Byte) :
    s.clockByte fits b = { s with port := { s.port with shifted := 0 } } := by
  simp [State.clockByte, running, low, idle, State.idleByte, discarding]
  rfl

/-- The command byte, whatever the row (01 R2). -/
theorem portByte_command (fresh : s.port.command = none) (b : Byte) :
    s.portByte b = { s with port := { s.port.counted (s.attention.extractLsb' 8 8) with
      command := some (transactionOf b) } } := by
  unfold State.portByte
  rw [fresh]
  rfl

theorem isWriteByteOf_command (fresh : s.port.command = none) (index : Byte → Bool) (value : Half → Bool) :
    s.port.isWriteByteOf 0xB2 index value = true := by
  simp only [Port.isWriteByteOf, fresh]
  decide

theorem isByteOf_command (fresh : s.port.command = none) (h : transactionOf b = kind) :
    s.port.isByteOf kind b = true := by
  simp [Port.isByteOf, fresh, h]

theorem transactionOf_void (h : b ∉ [0xA1, 0xA2, 0xB1, 0xB2]) : transactionOf b = .void := by
  simp only [List.mem_cons, List.not_mem_nil, or_false, not_or] at h
  obtain ⟨noRead, noWrite, noRegRead, noRegWrite⟩ := h
  rw [transactionOf, if_neg noRead, if_neg noWrite, if_neg noRegRead, if_neg noRegWrite]

/-- ENABLE's byte goes to the port with the ECHO levels of the moment (01 R15). -/
theorem execEnable_taking (running : s.inReset = false) (low : s.pins.csLow = true) (taking : s.port.taking = true)
    (echo : Levels) (fits : s.port.isEnableByte b = true) :
    exec (.enable b echo) s = .next ((s.sampleEcho echo).portByte b) := by
  have sampled : (s.sampleEcho echo).clockByte true b = (s.sampleEcho echo).portByte b :=
    clockByte_taking (s := s.sampleEcho echo) running low taking rfl b
  change execEnable b echo s = _
  simp [execEnable, State.whenever, running, low, fits, sampled]

/-- Settles O10: the fall of CS loads the port afresh, and byte 1 latches its command in every row. -/
theorem transactionStartsAndLatchesItsCommand : Obligations.TransactionStartsAndLatchesItsCommand := by
  refine ⟨fun s running high => ?_, fun s b echo running low taking fresh => ?_⟩
  · change Host.Outcome.next s.startTransaction = _
    simp only [State.startTransaction, high, running]
    rfl
  · have read {k : Transaction} {c : Byte} (h : transactionOf c = k) :
        Host.Outcome.next (s.clockByte (s.port.isByteOf k c) c) = (.next { s with
          port := { s.port.counted (s.attention.extractLsb' 8 8) with command := some k } } :
          Host.Outcome State Fault Refusal) := by
      rw [clockByte_taking running low taking (isByteOf_command fresh h), portByte_command fresh, h]
    have write (index : Byte → Bool) (value : Half → Bool) :
        Host.Outcome.next (s.clockByte (s.port.isWriteByteOf 0xB2 index value) 0xB2) = (.next { s with
          port := { s.port.counted (s.attention.extractLsb' 8 8) with command := some .registerWrite } } :
          Host.Outcome State Fault Refusal) := by
      rw [clockByte_taking running low taking (isWriteByteOf_command fresh _ _), portByte_command fresh]
      rfl
    refine ⟨read rfl, read rfl, read rfl, ?_, fun c hc => ?_, fun other => read (transactionOf_void other)⟩
    · rw [execEnable_taking running low taking echo (isWriteByteOf_command fresh _ _), portByte_command (s := s.sampleEcho echo) fresh]
      rfl
    · simp only [List.mem_cons, List.not_mem_nil, or_false] at hc
      obtain rfl | rfl | rfl | rfl | rfl | rfl := hc
      all_goals exact write _ _

/-! ## Reads -/

/-- Settles O11: the pointer is loaded by bytes 2 and 3, and every byte from the third on fetches the next. -/
theorem memoryReadByte : Obligations.MemoryReadByte := by
  intro s b takes
  have taken : exec (.memoryRead b) s = .next (s.portByte b) := by
    change Host.Outcome.next (s.clockByte _ b) = _
    rw [takes.clockByte (takes.isByteOf b)]
  obtain ⟨_, _, _, command⟩ := takes
  rw [taken]
  unfold State.portByte
  rw [command]
  refine ⟨fun first => ?_, fun second a ha => ?_, fun later => ?_⟩
  · dsimp only
    rw [State.memoryReadByte, if_pos first]
    rfl
  · subst ha
    dsimp only
    rw [State.memoryReadByte, if_neg (by omega), if_pos second]
    rfl
  · dsimp only
    rw [State.memoryReadByte, if_neg (by omega), if_neg (by omega)]
    rfl

/-- Settles O13: a void transaction shifts out 0x00, and so does a discarded one in every row. -/
theorem ignoredBytesChangeNothing : Obligations.IgnoredBytesChangeNothing := by
  refine ⟨fun s b takes => ?_, fun s b running low idle discarding c hc => ?_⟩
  · change Host.Outcome.next (s.clockByte _ b) = _
    rw [takes.clockByte (takes.isByteOf b)]
    obtain ⟨_, _, _, command⟩ := takes
    unfold State.portByte
    rw [command]
    rfl
  · have ignored (fits : Bool) : Host.Outcome.next (s.clockByte fits b) =
        (.next { s with port := { s.port with shifted := 0 } } : Host.Outcome State Fault Refusal) := by
      rw [clockByte_discarding running low idle discarding]
    simp only [List.mem_cons, List.not_mem_nil, or_false] at hc
    obtain rfl | rfl | rfl | rfl | rfl | rfl | rfl | rfl | rfl | rfl := hc
    all_goals exact ignored _

/-! ## Register values (11 Tables 11-2 to 11-5) -/

theorem Engine.working_iff (g : Engine) : g.working = true ↔ g.phase ≠ .idle ∧ ∀ next, g.phase ≠ .held next := by
  unfold Engine.working
  split <;> simp_all

theorem State.active_iff (s : State) :
    s.active = true ↔ ∃ e, (s.engine e).phase ≠ .idle ∧ ∀ next, (s.engine e).phase ≠ .held next := by
  simp only [State.active, List.any_eq_true, Engine.working_iff]
  exact ⟨fun ⟨e, _, h⟩ => ⟨e, h⟩, fun ⟨e, h⟩ => ⟨e, mem_allEngines e, h⟩⟩

/-- The stations stand in ascending order in the list of all. -/
theorem allStations_eq (m : Fin 12) : allStations[m.val]'(by simp [allStations]) = m := by
  revert m; decide

/-- The first of all stations with a property is the lowest one. -/
theorem find_allStations {p : StationId → Bool} {n : StationId} (here : p n = true)
    (none : ∀ m, m < n → p m = false) : allStations.find? p = some n := by
  refine List.find?_eq_some_iff_getElem.mpr ⟨here, n.val, by simp [allStations], allStations_eq n, fun j hj => ?_⟩
  have := none ⟨j, by omega⟩ (Fin.lt_def.mpr hj)
  rw [← allStations_eq ⟨j, by omega⟩] at this
  simpa using this

end

end Sys2Proof.Machine
end

section
/-! Register values, register writes and the ownership rules (01 R4 to R12, R18, R19, 11 R194, R195). -/

namespace Sys2Proof.Machine

section
variable {s : State}

/-! ## The values of the registers (11 Tables 11-2 to 11-5) -/

theorem attention_causes (l : BitVec 4) (c : BitVec 5) :
    (l ++ (0 : BitVec 7) ++ c).setWidth 12 = (c.setWidth 12 : BitVec 12) := by
  ext i hi
  simp only [BitVec.getElem_setWidth, BitVec.getLsbD_append]
  by_cases low : i < 5
  · simp [low]
  · simp [low, show i - 5 < 7 by omega, BitVec.getLsbD_of_ge c i (by omega)]

theorem attention_station (l : BitVec 4) (c : BitVec 5) : (l ++ (0 : BitVec 7) ++ c).extractLsb' 12 4 = l := by
  ext i hi
  simp only [BitVec.getElem_extractLsb', BitVec.getLsbD_append, show ¬12 + i < 5 by omega, if_false,
    show ¬12 + i - 5 < 7 by omega, show 12 + i - 5 - 7 = i by omega, BitVec.getLsbD_eq_getElem hi]

theorem runControl_bits (configured active enable : Bool) (i : Nat) :
    ((0 : BitVec 6) ++ BitVec.ofBool configured ++ BitVec.ofBool active ++ (0 : BitVec 7) ++
      BitVec.ofBool enable).getLsbD i =
      (decide (i = 0) && enable || decide (i = 8) && active || decide (i = 9) && configured) := by
  by_cases low : i < 16
  · revert configured active enable
    interval_cases i <;> decide
  · rw [BitVec.getLsbD_of_ge _ _ (by omega)]
    simp [show i ≠ 0 ∧ i ≠ 8 ∧ i ≠ 9 by omega]

theorem zero_append_eq_setWidth {k n : Nat} (x : BitVec n) : (0 : BitVec k) ++ x = x.setWidth (k + n) := by
  refine BitVec.eq_of_toNat_eq ?_
  have fits : x.toNat < 2 ^ (k + n) := x.isLt.trans_le (Nat.pow_le_pow_right (by omega) (by omega))
  simp [BitVec.toNat_append, Nat.mod_eq_of_lt fits]

theorem State.lowestChanged_of {n : StationId} (changed : s.byte (stationBase n + 0x18) = 1)
    (none : ∀ m, m < n → s.byte (stationBase m + 0x18) ≠ 1) : s.lowestChanged = BitVec.ofNat 4 n.val := by
  have found := find_allStations (p := fun n => s.byte (stationBase n + stChangeFlag) = 1) (n := n)
    (decide_eq_true changed) fun m hm => decide_eq_false (none m hm)
  rw [State.lowestChanged, found]

theorem State.lowestChanged_none (none : ∀ n : StationId, s.byte (stationBase n + 0x18) ≠ 1) :
    s.lowestChanged = 0xF := by
  have notFound : (allStations.find? fun n => s.byte (stationBase n + stChangeFlag) = 1) = Option.none :=
    List.find?_eq_none.mpr fun n _ => of_decide_eq_false (decide_eq_false (none n)) ∘ of_decide_eq_true
  rw [State.lowestChanged, notFound]

/-- Settles O12: the pairs of a register read, and the values the registers give. -/
theorem registerReads : Obligations.RegisterReads := by
  refine ⟨fun s b takes => ?_, fun s => ?_⟩
  · have taken : exec (.registerRead b) s = .next (s.portByte b) := by
      change Host.Outcome.next (s.clockByte _ b) = _
      rw [takes.clockByte (takes.isByteOf b)]
    obtain ⟨_, _, _, command⟩ := takes
    rw [taken]
    unfold State.portByte
    rw [command]
    dsimp only
    refine ⟨fun first => ?_, fun later even => ?_, fun later odd => ?_⟩
    · rw [State.registerReadByte, if_pos first]
      rfl
    · rw [State.registerReadByte, if_neg (by omega), if_pos even]
      rfl
    · rw [State.registerReadByte, if_neg (by omega), if_neg (by omega)]
      rfl
  · have causes : s.registerValue 2 = s.attention := rfl
    refine ⟨rfl, runControl_bits _ _ _, s.active_iff, attention_causes _ _, fun n changed lower => ?_, fun none => ?_,
      zero_append_eq_setWidth _, zero_append_eq_setWidth _, fun i large => ?_⟩
    · rw [causes, State.attention, attention_station, State.lowestChanged_of changed lower]
    · rw [causes, State.attention, attention_station, State.lowestChanged_none none]
    · have far (j : Byte) (hj : j.toNat ≤ 4) : i ≠ j := fun eq => by subst eq; omega
      rw [State.registerValue, if_neg (far 0 (by decide)), if_neg (far 1 (by decide)), if_neg (far 2 (by decide)),
        if_neg (far 3 (by decide)), if_neg (far 4 (by decide))]

/-! ## Ownership (01 R8 to R11) -/

/-- Settles O16: by area the rule of Table 1-3, in a record that of its field. -/
theorem ownershipRules : Obligations.OwnershipRules := by
  intro s a v
  refine ⟨fun area => ?_, fun above area => ?_, fun area => ?_, fun n o ho at_ => ?_, fun k o ho at_ => ?_,
    fun above area => ?_⟩
  · simp [State.accepts, area, or_assoc]
  · simp [State.accepts, area, show ¬a.toNat < 0x80 by omega]
  · have low : ¬a.toNat < 0x80 ∧ ¬a.toNat < 0xA0 := by omega
    simp only [State.accepts, if_neg low.1, if_neg low.2, stationAt_none (a := a.toNat) (by omega),
      cardAt_none (a := a.toNat) (by omega), if_neg (show ¬(0x1000 ≤ a.toNat ∧ a.toNat < 0x2000) by omega)]
  · rw [s.accepts_station ho at_]
    unfold stationByteAccepted
    refine ⟨fun setup => ?_, fun above below => ?_, fun flag => ?_, fun p j hj slot => ?_, fun unused => ?_⟩
    · rw [if_pos setup]
    · rw [if_neg (by omega), if_neg (by omega), if_pos below]
    · rw [if_neg (by omega), if_neg (by omega), if_neg (by omega), if_pos flag, decide_eq_true_iff]
    · have place : (o - 0x20) % 20 = j := by omega
      rw [if_neg (by omega), if_neg (by omega), if_neg (by omega), if_neg (by omega), if_neg (by omega),
        if_pos (by omega), place]
      simp
    · split_ifs <;> first | rfl | omega
  · rw [s.accepts_card ho at_]
    unfold cardByteAccepted
    have ruled : (decide (s.cardStatus k = statusTaken) || decide (s.cardStatus k = statusRunning)) = true ↔
        ¬(s.cardStatus k ≠ 0x02 ∧ s.cardStatus k ≠ 0x03) := by
      rw [Bool.or_eq_true, decide_eq_true_iff, decide_eq_true_iff, ← not_or, not_not]
      rfl
    split_ifs with taken
    · rw [decide_eq_true_iff, or_iff_right (ruled.mp taken)]
      rfl
    · exact iff_of_true rfl (.inl (not_not.mp (mt ruled.mpr taken)))
  · have low : ¬a.toNat < 0x80 ∧ ¬a.toNat < 0xA0 := by omega
    simp only [State.accepts, if_neg low.1, if_neg low.2, stationAt_none (a := a.toNat) (by omega),
      cardAt_none (a := a.toNat) (by omega), if_pos (And.intro above area)]

/-! ## Register writes (01 R6, R18, R19, 11 R194) -/

/-- The high byte of a register write is taken with the pair's low byte. -/
theorem portByte_writing {index : Byte} (writing : s.writing index) (high : Byte) :
    s.portByte high = (s.setPort s.port.pairWritten).writeRegister index (halfOf s.port.lowByte high) := by
  obtain ⟨⟨_, _, _, command⟩, at_, later, odd⟩ := writing
  unfold State.portByte
  rw [command]
  dsimp only
  rw [State.registerWriteByte, if_neg (by omega), if_neg (by omega)]
  dsimp only
  rw [← at_]
  rfl

theorem isWriteByteOf_writing {index : Byte} (writing : s.writing index) {high : Byte} {named : Byte → Bool}
    {value : Half → Bool} (names : named index = true) (valued : value (halfOf s.port.lowByte high) = true) :
    s.port.isWriteByteOf high named value = true := by
  obtain ⟨⟨_, _, _, command⟩, at_, later, _⟩ := writing
  simp [Port.isWriteByteOf, command, at_, names, valued, show s.port.count ≠ 1 by omega]

/-- The high byte of a write goes to the register. -/
theorem clockByte_writing {index : Byte} (writing : s.writing index) {high : Byte} {named : Byte → Bool}
    {value : Half → Bool} (names : named index = true) (valued : value (halfOf s.port.lowByte high) = true) :
    s.clockByte (s.port.isWriteByteOf high named value) high =
      (s.setPort s.port.pairWritten).writeRegister index (halfOf s.port.lowByte high) := by
  rw [writing.1.clockByte (isWriteByteOf_writing writing names valued), portByte_writing writing]

/-- An earlier byte of a register write is kept by the port: the index, or a low byte. -/
theorem portByte_index (takes : s.takes .registerWrite) (first : s.port.count = 1) (b : Byte) :
    s.portByte b = { s with port := { s.port.counted 0 with regIndex := b } } := by
  obtain ⟨_, _, _, command⟩ := takes
  unfold State.portByte
  rw [command]
  dsimp only
  rw [State.registerWriteByte, if_pos first]
  rfl

theorem portByte_low (takes : s.takes .registerWrite) (even : s.port.count % 2 = 0)
    (b : Byte) : s.portByte b = { s with port := { s.port.counted 0 with lowByte := b } } := by
  obtain ⟨_, _, _, command⟩ := takes
  unfold State.portByte
  rw [command]
  dsimp only
  rw [State.registerWriteByte, if_neg (by omega), if_pos even]
  rfl

theorem isWriteByteOf_index (takes : s.takes .registerWrite) (first : s.port.count = 1) {b : Byte}
    {named : Byte → Bool} (value : Half → Bool) (names : named b = true) :
    s.port.isWriteByteOf b named value = true := by
  obtain ⟨_, _, _, command⟩ := takes
  simp [Port.isWriteByteOf, command, first, names]

theorem isWriteByteOf_low (takes : s.takes .registerWrite) (even : s.port.count % 2 = 0)
    (b : Byte) {named : Byte → Bool} (value : Half → Bool) (names : named s.port.regIndex = true) :
    s.port.isWriteByteOf b named value = true := by
  obtain ⟨_, _, _, command⟩ := takes
  simp [Port.isWriteByteOf, command, show s.port.count ≠ 1 by omega, even, names]

theorem not_written_index {i : Byte} (h : i ∉ [1, 2, 3]) : (i ≠ 1 && i ≠ 2 && i ≠ 3) = true := by
  simpa [and_assoc] using h

/-- Settles O17: index and low byte are kept, and a write of a read-only register ends with them. -/
theorem registerWritesAreTakenInPairs : Obligations.RegisterWritesAreTakenInPairs := by
  refine ⟨fun s b echo takes => ⟨fun first => ?_, fun later even => ?_⟩, fun s high index other writing => ?_⟩
  · have kept {named : Byte → Bool} (value : Half → Bool) (names : named b = true) :
        Host.Outcome.next (s.clockByte (s.port.isWriteByteOf b named value) b) =
          (.next { s with port := { s.port.counted 0 with regIndex := b } } : Host.Outcome State Fault Refusal) := by
      rw [takes.clockByte (isWriteByteOf_index takes first value names), portByte_index takes first]
    refine ⟨fun h => ?_, fun h c hc => ?_, fun h => ?_, fun h => ?_, fun h => ?_, fun h => ?_⟩
    · rw [execEnable_taking takes.1 takes.2.1 takes.2.2.1 echo (isWriteByteOf_index takes first _ (by simp [h])),
        portByte_index (s := s.sampleEcho echo) takes first]
      rfl
    · simp only [List.mem_cons, List.not_mem_nil, or_false] at hc
      obtain rfl | rfl := hc <;> exact kept _ (by simp [h])
    · exact kept _ (by simp [h])
    · exact kept _ (by simp [h])
    · exact kept _ (by simp [h])
    · exact kept _ (not_written_index h)
  · have kept {named : Byte → Bool} (value : Half → Bool) (names : named s.port.regIndex = true) :
        Host.Outcome.next (s.clockByte (s.port.isWriteByteOf b named value) b) =
          (.next { s with port := { s.port.counted 0 with lowByte := b } } : Host.Outcome State Fault Refusal) := by
      rw [takes.clockByte (isWriteByteOf_low takes even b value names), portByte_low takes even]
    refine ⟨fun h => ?_, fun h c hc => ?_, fun h => ?_, fun h => ?_, fun h => ?_, fun h => ?_⟩
    · rw [execEnable_taking takes.1 takes.2.1 takes.2.2.1 echo (isWriteByteOf_low takes even b _ (by simp [h])),
        portByte_low (s := s.sampleEcho echo) takes even]
      rfl
    · simp only [List.mem_cons, List.not_mem_nil, or_false] at hc
      obtain rfl | rfl := hc <;> exact kept _ (by simp [h])
    · exact kept _ (by simp [h])
    · exact kept _ (by simp [h])
    · exact kept _ (by simp [h])
    · exact kept _ (not_written_index h)
  · have readOnly := not_written_index other
    change Host.Outcome.next (s.clockByte _ high) = _
    rw [clockByte_writing writing readOnly rfl]
    simp only [Bool.and_eq_true, decide_eq_true_eq] at readOnly
    obtain ⟨⟨one, two⟩, three⟩ := readOnly
    rw [State.writeRegister, if_neg one, if_neg two, if_neg three]
    rfl

theorem halfOf_getLsbD {low high : Byte} {i : Nat} (hi : i < 8) : (halfOf low high).getLsbD i = low.getLsbD i := by
  rw [halfOf, BitVec.getLsbD_append, if_pos hi]

theorem clearAttention_causes (s : State) (v : Half) {i : Nat} (hi : i < 5) :
    (s.clearAttention v).regs.causes.getLsbD i = (s.regs.causes.getLsbD i && !v.getLsbD i) := by
  simp [State.clearAttention, hi]

theorem attn_iff (s : State) (running : s.inReset = false) :
    s.attn = true ↔ ∃ i, i < 5 ∧ s.regs.causes.getLsbD i = true ∧ s.regs.mask.getLsbD i = true := by
  have nonzero (x : BitVec 5) : x ≠ 0 ↔ ∃ i, i < 5 ∧ x.getLsbD i = true := by
    constructor
    · intro ne
      by_contra none
      push Not at none
      exact ne (BitVec.eq_of_getLsbD_eq fun i hi => by simpa using none i hi)
    · rintro ⟨i, _, set⟩ rfl
      simp at set
  rw [State.attn, running, Bool.not_false, Bool.true_and, decide_eq_true_iff, nonzero]
  simp

/-- Settles O18: the pair's low byte says which causes are cleared and which are unmasked. -/
theorem attentionAndMaskWrites : Obligations.AttentionAndMaskWrites := by
  refine ⟨fun s high writing => ?_, fun s high writing => ?_⟩
  · refine ⟨(s.setPort s.port.pairWritten).clearAttention (halfOf s.port.lowByte high), ?_, rfl, fun i hi => ?_⟩
    · change Host.Outcome.next (s.clockByte _ high) = _
      rw [clockByte_writing writing rfl rfl]
      rfl
    · rw [clearAttention_causes _ _ hi, halfOf_getLsbD (by omega)]
      rfl
  · have stored : (halfOf s.port.lowByte high).setWidth 5 = (s.port.lowByte.setWidth 5 : BitVec 5) :=
      BitVec.eq_of_getLsbD_eq fun i hi => by simp [hi, halfOf_getLsbD (show i < 8 by omega)]
    refine ⟨(s.setPort s.port.pairWritten).writeMask (halfOf s.port.lowByte high), ?_, ?_, ?_, ?_⟩
    · change Host.Outcome.next (s.clockByte _ high) = _
      rw [clockByte_writing writing rfl rfl]
      rfl
    · rw [State.writeMask, stored]
      rfl
    · change (0 : BitVec 11) ++ (halfOf s.port.lowByte high).setWidth 5 = _
      rw [stored, zero_append_eq_setWidth]
      refine BitVec.eq_of_getLsbD_eq fun i hi => ?_
      by_cases low : i < 5
      · interval_cases i <;> simp
      · have masked : (0x001F : Half).getLsbD i = false := by interval_cases i <;> rfl
        rw [BitVec.getLsbD_and, masked]
        simp [low]
    · have pulled := attn_iff ((s.setPort s.port.pairWritten).writeMask (halfOf s.port.lowByte high)) writing.1.1
      refine pulled.trans ?_
      refine exists_congr fun i => and_congr_right fun hi => and_congr_right fun _ => ?_
      change ((halfOf s.port.lowByte high).setWidth 5).getLsbD i = true ↔ _
      rw [stored]
      simp [hi]

end

end Sys2Proof.Machine
end

section
/-! A byte of a memory write: stored or dropped, noted, touched (01 R4, R5, R12 to R14). -/

namespace Sys2Proof.Machine

/-! ## Places by address -/

theorem stationAt_some {a : Nat} {n : StationId} {o : Nat} (h : stationAt a = some (n, o)) :
    a = stationBase n + o ∧ o < 128 := by
  unfold stationAt at h
  split_ifs at h with inside
  simp only [Option.some.injEq, Prod.mk.injEq] at h
  obtain ⟨rfl, rfl⟩ := h
  simp only [stationBase]
  omega

theorem stationAt_eq_none {a : Nat} (h : stationAt a = none) : a < 0x100 ∨ 0x700 ≤ a := by
  unfold stationAt at h
  split_ifs at h with inside
  omega

theorem cardAt_some {a : Nat} {k : CardId} {o : Nat} (h : cardAt a = some (k, o)) : a = cardBase k + o ∧ o < 64 := by
  unfold cardAt at h
  split_ifs at h with inside
  simp only [Option.some.injEq, Prod.mk.injEq] at h
  obtain ⟨rfl, rfl⟩ := h
  simp only [cardBase]
  omega

theorem cardAt_eq_none {a : Nat} (h : cardAt a = none) : a < 0x800 ∨ 0x1000 ≤ a := by
  unfold cardAt at h
  split_ifs at h with inside
  omega

/-- A mark set in a vector of marks. -/
theorem getElem_set_true {m : Nat} (v : Vector Bool m) (i j : Fin m) (p : Prop) [Decidable p] (h : p ↔ j = i) :
    (v.set i.val true)[j.val] = (v[j.val] || decide p) := by
  rw [Vector.getElem_set]
  by_cases eq : j = i
  · subst eq; simp [h.mpr rfl]
  · have : ¬p := fun hp => eq (h.mp hp)
    simp [this, Fin.val_ne_of_ne (Ne.symm eq)]

/-- A mark that stays where nothing marks it. -/
theorem or_decide_of_not {b : Bool} {p : Prop} [Decidable p] (h : ¬p) : b = (b || decide p) := by
  rw [decide_eq_false h, Bool.or_false]

theorem isPeriod_iff {i : Nat} : (decide (i = cfgSweepPeriod) || decide (i = cfgSweepPeriod + 1)) = true ↔ i = 6 ∨ i = 7 := by
  rw [Bool.or_eq_true, decide_eq_true_iff, decide_eq_true_iff]
  rfl

/-! ## The touched set and the notes -/

section
variable (p : Port) (a : Address) (v : Byte)

theorem Port.touch_touched (k : CardId) :
    (p.touch a).touched[k.val] =
      (p.touched[k.val] || decide (cardBase k ≤ a.toNat ∧ a.toNat < cardBase k + 64)) := by
  unfold Port.touch
  split
  · rename_i k' o at_
    obtain ⟨eq, ho⟩ := cardAt_some at_
    refine getElem_set_true _ _ _ _ ?_
    rw [eq, Fin.ext_iff]
    simp only [cardBase]
    omega
  · rename_i at_
    have apart : ¬(cardBase k ≤ a.toNat ∧ a.toNat < cardBase k + 64) := by
      have := cardAt_eq_none at_
      simp only [cardBase]
      omega
    simp [apart]

theorem Port.touch_rest : p.touch a = { p with touched := (p.touch a).touched } := by
  unfold Port.touch
  split <;> rfl

theorem Port.note_rest :
    p.note a v = { p with
      cancelNotes := (p.note a v).cancelNotes, setupNotes := (p.note a v).setupNotes
      shelfNote := (p.note a v).shelfNote, periodNote := (p.note a v).periodNote } := by
  unfold Port.note
  dsimp only
  split_ifs
  · rfl
  · rfl
  · split
    · split_ifs <;> rfl
    · split
      · split_ifs <;> rfl
      · rfl

/-- Touched set and notes are all that an accepted byte changes of the port. -/
theorem Port.touch_note :
    (p.touch a).note a v = { p with
      touched := ((p.touch a).note a v).touched, cancelNotes := ((p.touch a).note a v).cancelNotes
      setupNotes := ((p.touch a).note a v).setupNotes, shelfNote := ((p.touch a).note a v).shelfNote
      periodNote := ((p.touch a).note a v).periodNote } := by
  have touched : ((p.touch a).note a v).touched = (p.touch a).touched := by
    rw [(p.touch a).note_rest a v]
  rw [touched]
  exact ((p.touch a).note_rest a v).trans (by rw [p.touch_rest a])

theorem Port.touch_cancelNotes : (p.touch a).cancelNotes = p.cancelNotes := by rw [p.touch_rest a]
theorem Port.touch_setupNotes : (p.touch a).setupNotes = p.setupNotes := by rw [p.touch_rest a]
theorem Port.touch_shelfNote : (p.touch a).shelfNote = p.shelfNote := by rw [p.touch_rest a]
theorem Port.touch_periodNote : (p.touch a).periodNote = p.periodNote := by rw [p.touch_rest a]

theorem Port.note_shelfNote : (p.note a v).shelfNote = (p.shelfNote || decide (a.toNat = 8)) := by
  unfold Port.note
  dsimp only
  split_ifs with shelf period
  · simp [show a.toNat = 8 from shelf]
  · simp [show a.toNat ≠ 8 from shelf]
  · have other : a.toNat ≠ 8 := shelf
    split
    · split_ifs <;> simp [other]
    · split
      · split_ifs <;> simp [other]
      · simp [other]

theorem Port.note_periodNote : (p.note a v).periodNote = (p.periodNote || decide (a.toNat = 6 ∨ a.toNat = 7)) := by
  unfold Port.note
  dsimp only
  split_ifs with shelf period
  · have eight : a.toNat = 8 := shelf
    simp [eight]
  · have six : a.toNat = 6 ∨ a.toNat = 7 := isPeriod_iff.mp period
    simp [six]
  · have other : ¬(a.toNat = 6 ∨ a.toNat = 7) := mt isPeriod_iff.mpr period
    split
    · split_ifs <;> simp [other]
    · split
      · split_ifs <;> simp [other]
      · simp [other]

theorem Port.note_setupNotes (n : StationId) :
    (p.note a v).setupNotes[n.val] =
      (p.setupNotes[n.val] || decide (stationBase n ≤ a.toNat ∧ a.toNat < stationBase n + 12)) := by
  have low (small : a.toNat ≤ 8) : ¬(stationBase n ≤ a.toNat ∧ a.toNat < stationBase n + 12) := by
    simp only [stationBase]; omega
  unfold Port.note
  dsimp only
  split_ifs with shelf period
  · simp [low (by rw [shelf]; decide)]
  · have six : a.toNat = 6 ∨ a.toNat = 7 := isPeriod_iff.mp period
    simp [low (by omega)]
  · split
    · rename_i n' o at_
      obtain ⟨eq, ho⟩ := stationAt_some at_
      split_ifs with setup
      · refine getElem_set_true _ _ _ _ ?_
        rw [eq, Fin.ext_iff]
        simp only [stationBase]
        omega
      · have apart : ¬(stationBase n ≤ a.toNat ∧ a.toNat < stationBase n + 12) := by
          simp only [stationBase] at eq ⊢
          omega
        simp [apart]
    · rename_i at_
      have apart : ¬(stationBase n ≤ a.toNat ∧ a.toNat < stationBase n + 12) := by
        have := stationAt_eq_none at_
        simp only [stationBase]
        omega
      split
      · split_ifs <;> simp [apart]
      · simp [apart]

theorem Port.note_cancelNotes (k : CardId) :
    (p.note a v).cancelNotes[k.val] =
      (p.cancelNotes[k.val] || decide (a.toNat = cardBase k + 1 ∧ v ≠ 0)) := by
  have below (small : a.toNat < 0x800) : ¬(a.toNat = cardBase k + 1 ∧ v ≠ 0) := by
    simp only [cardBase]; omega
  unfold Port.note
  dsimp only
  split_ifs with shelf period
  · exact or_decide_of_not (below (by rw [shelf]; decide))
  · have six : a.toNat = 6 ∨ a.toNat = 7 := isPeriod_iff.mp period
    exact or_decide_of_not (below (by omega))
  · split
    · rename_i n o at_
      obtain ⟨eq, ho⟩ := stationAt_some at_
      have apart := below (by simp only [stationBase] at eq; omega)
      split_ifs <;> exact or_decide_of_not apart
    · split
      · rename_i k' o at_
        obtain ⟨eq, ho⟩ := cardAt_some at_
        split_ifs with cancel
        · rw [Bool.and_eq_true, decide_eq_true_iff, decide_eq_true_iff] at cancel
          obtain ⟨offset, nonzero⟩ := cancel
          refine getElem_set_true _ _ _ _ ?_
          have one : o = 1 := offset
          rw [eq, Fin.ext_iff]
          simp only [cardBase, nonzero, ne_eq, not_false_iff, and_true]
          omega
        · rw [Bool.and_eq_true, decide_eq_true_iff, decide_eq_true_iff] at cancel
          have apart : ¬(a.toNat = cardBase k + 1 ∧ v ≠ 0) := fun ⟨at_, nonzero⟩ => cancel ⟨by
            simp only [cardBase] at at_ eq
            change o = 1
            omega, nonzero⟩
          exact or_decide_of_not apart
      · rename_i at_
        have apart : ¬(a.toNat = cardBase k + 1 ∧ v ≠ 0) := by
          have := cardAt_eq_none at_
          simp only [cardBase]
          omega
        exact or_decide_of_not apart

end

/-! ## The byte -/

theorem State.offerByte_accepted {s : State} {a : Address} {v : Byte} (h : s.accepts a v = true) :
    s.offerByte a v = (s.put a.toNat [v]).setPort ((s.port.touch a).note a v) := by
  simp only [State.offerByte, h, if_true]
  rfl

theorem portByte_memoryWrite_data {s : State} {b : Byte} (takes : s.takes .memoryWrite) (later : 3 ≤ s.port.count) :
    s.portByte b =
      (s.setPort { s.port.counted 0 with pointer := s.port.pointer + 1 }).offerByte s.port.pointer b := by
  obtain ⟨_, _, _, command⟩ := takes
  unfold State.portByte
  rw [command]
  dsimp only
  rw [State.memoryWriteByte, if_neg (by omega), if_neg (by omega)]
  rfl

/-- A byte offered to exchange memory: what it changes, by whether the ownership rules accept it. -/
theorem offerByte_data (u : State) (a : Address) (b : Byte) (wf : Memory.wf u.mem = true) :
    let t := u.offerByte a b
    t = { u with port := t.port, mem := t.mem, regs := t.regs } ∧
    t.port = { u.port with
      touched := t.port.touched, cancelNotes := t.port.cancelNotes
      setupNotes := t.port.setupNotes, shelfNote := t.port.shelfNote, periodNote := t.port.periodNote } ∧
    (∀ k : CardId, t.port.touched[k.val] =
      (u.port.touched[k.val] || decide (cardBase k ≤ a.toNat ∧ a.toNat < cardBase k + 64))) ∧
    (u.accepts a b = true →
      t.byte a.toNat = b ∧ (∀ x, x ≠ a.toNat → t.byte x = u.byte x) ∧ t.regs = u.regs ∧
      (∀ k : CardId, t.port.cancelNotes[k.val] =
        (u.port.cancelNotes[k.val] || decide (a.toNat = cardBase k + 1 ∧ b ≠ 0))) ∧
      (∀ n : StationId, t.port.setupNotes[n.val] =
        (u.port.setupNotes[n.val] || decide (stationBase n ≤ a.toNat ∧ a.toNat < stationBase n + 12))) ∧
      t.port.shelfNote = (u.port.shelfNote || decide (a.toNat = 8)) ∧
      t.port.periodNote = (u.port.periodNote || decide (a.toNat = 6 ∨ a.toNat = 7))) ∧
    (u.accepts a b = false →
      t.mem = u.mem ∧ t.port.cancelNotes = u.port.cancelNotes ∧ t.port.setupNotes = u.port.setupNotes ∧
      t.port.shelfNote = u.port.shelfNote ∧ t.port.periodNote = u.port.periodNote) := by
  cases accepted : u.accepts a b with
  | true =>
    rw [State.offerByte_accepted accepted]
    refine ⟨rfl, u.port.touch_note a b, fun k => ?_,
      fun _ => ⟨?_, fun x hx => ?_, rfl, fun k => ?_, fun n => ?_, ?_, ?_⟩, nofun⟩
    · have touched : ((u.port.touch a).note a b).touched = (u.port.touch a).touched := by
        rw [(u.port.touch a).note_rest a b]
      exact (congrArg (·[k.val]) touched).trans (u.port.touch_touched a k)
    · have stored := State.byte_put wf a.toNat a.toNat [b]
      exact stored.trans (by simp)
    · exact u.byte_put_other a.toNat x [b] (by simp only [List.length_singleton]; omega)
    · exact ((u.port.touch a).note_cancelNotes a b k).trans (by rw [u.port.touch_cancelNotes a])
    · exact ((u.port.touch a).note_setupNotes a b n).trans (by rw [u.port.touch_setupNotes a])
    · exact ((u.port.touch a).note_shelfNote a b).trans (by rw [u.port.touch_shelfNote a])
    · exact ((u.port.touch a).note_periodNote a b).trans (by rw [u.port.touch_periodNote a])
  | false =>
    rw [State.offerByte_refused accepted]
    have port : ((u.setPort (u.port.touch a)).refuseByte a).port = u.port.touch a := State.refuseByte_port _ _
    dsimp only
    rw [port]
    refine ⟨?_, ?_, u.port.touch_touched a, nofun, fun _ => ⟨State.refuseByte_mem _ _, u.port.touch_cancelNotes a,
      u.port.touch_setupNotes a, u.port.touch_shelfNote a, u.port.touch_periodNote a⟩⟩
    · unfold State.refuseByte
      split_ifs <;> rfl
    · exact (u.port.touch_rest a).trans
        (by rw [u.port.touch_cancelNotes, u.port.touch_setupNotes, u.port.touch_shelfNote, u.port.touch_periodNote])

/-- Settles O14: bytes 2 and 3 load the pointer, every later byte is offered at it. -/
theorem memoryWriteByte : Obligations.MemoryWriteByte := by
  intro s b takes wf
  have taken : exec (.memoryWrite b) s = .next (s.portByte b) := by
    change Host.Outcome.next (s.clockByte _ b) = _
    rw [takes.clockByte (takes.isByteOf b)]
  rw [taken]
  refine ⟨fun first => ?_, fun second => ?_, fun later => ⟨_, rfl, ?_⟩⟩
  · obtain ⟨_, _, _, command⟩ := takes
    unfold State.portByte
    rw [command]
    dsimp only
    rw [State.memoryWriteByte, if_pos first]
    rfl
  · obtain ⟨_, _, _, command⟩ := takes
    unfold State.portByte
    rw [command]
    dsimp only
    rw [State.memoryWriteByte, if_neg (by omega), if_pos second]
    rfl
  · rw [portByte_memoryWrite_data takes later]
    exact offerByte_data (s.setPort { s.port.counted 0 with pointer := s.port.pointer + 1 }) s.port.pointer b wf

end Sys2Proof.Machine
end

section
/-! Run control: the rejected configuration, writes while ENABLE reads 1, and the disable (01 R15 to R17). -/

namespace Sys2Proof.Machine

section
variable {s : State}

/-! ## A write of RUN_CONTROL (01 R15) -/

/-- The high byte of a RUN_CONTROL write that enables goes to the register with the ECHO levels of the moment. -/
theorem execEnable_writing (writing : s.writing 1) (enable : s.port.lowByte.getLsbD 0 = true)
    (noReset : s.port.lowByte.getLsbD 2 = false) (high : Byte) (echo : Levels) :
    exec (.enable high echo) s = .next (((s.sampleEcho echo).setPort s.port.pairWritten).writeRunControl
      (halfOf s.port.lowByte high)) := by
  have fits : s.port.isEnableByte high = true := by
    refine isWriteByteOf_writing writing rfl ?_
    rw [halfOf_getLsbD (by omega), halfOf_getLsbD (by omega), enable, noReset]
    rfl
  obtain ⟨running, low, taking, _⟩ := writing.1
  rw [execEnable_taking running low taking echo fits, portByte_writing (s := s.sampleEcho echo) writing]
  rfl

theorem writeRunControl_enable {v : Half} (enable : v.getLsbD 0 = true) (noReset : v.getLsbD 2 = false)
    (off : s.regs.enable = false) :
    s.writeRunControl v =
      if v.getLsbD 1 && s.enablePart.regs.enable then s.enablePart.requestSweep else s.enablePart := by
  unfold State.writeRunControl
  simp only [enable, noReset, off, Bool.false_eq_true, if_false, Bool.not_false, Bool.and_self, if_true]

theorem writeRunControl_enabled {v : Half} (enable : v.getLsbD 0 = true) (noReset : v.getLsbD 2 = false)
    (on : s.regs.enable = true) : s.writeRunControl v = if v.getLsbD 1 then s.requestSweep else s := by
  unfold State.writeRunControl
  simp only [enable, noReset, on, Bool.false_eq_true, if_false, Bool.not_true, Bool.and_false,
    Bool.and_true]

theorem writeRunControl_disable {v : Half} (disable : v.getLsbD 0 = false) (noReset : v.getLsbD 2 = false)
    (on : s.regs.enable = true) : s.writeRunControl v = s.disablePart := by
  unfold State.writeRunControl
  simp only [disable, noReset, on, Bool.false_eq_true, if_false, Bool.not_false, Bool.and_true, Bool.false_and, if_true,
    disablePart_enable, Bool.and_false]

/-! ## The configuration block (01 R16, Table 1-6) -/

theorem bitCellOf_eq_none_iff {b : Byte} : bitCellOf b = none ↔ 2 < b.toNat := by
  unfold bitCellOf
  simp only [BitVec.toNat_eq]
  split_ifs <;> simp_all; omega

theorem bitCellOf_ticks {b : Byte} {cell : BitCell} (h : bitCellOf b = some cell) :
    cell.ticks = 2000 * 2 ^ b.toNat := by
  unfold bitCellOf at h
  split_ifs at h with zero one two <;> cases h
  · subst zero; rfl
  · subst one; rfl
  · subst two; rfl

/-- The rejecting field: PPC before the bit-cell select. -/
theorem readConfiguration_error (bad : (s.half 0x00).toNat < 16 ∨ 2 < (s.byte 0x0A).toNat) :
    s.readConfiguration = .error (if (s.half 0x00).toNat < 16 then 0x00 else 0x0A) := by
  unfold State.readConfiguration cfgPpc cfgBitCell
  by_cases small : (s.half 0x00).toNat < 16
  · rw [if_pos small, if_pos small]
    rfl
  · rw [if_neg small, if_neg small, bitCellOf_eq_none_iff.mpr (bad.resolve_left small)]
    rfl

/-- Every step that leaves memory but one field answers for it. -/
theorem put_one {t : State} (wf : Memory.wf t.mem = true) (a : Nat) (b : Byte) (c : Nat) :
    (t.put a [b]).byte c = if c = a then b else t.byte c := by
  rw [State.byte_put wf a c [b]]
  by_cases eq : c = a
  · subst eq; simp
  · rw [if_neg eq, dif_neg (by simp only [List.length_singleton]; omega)]

/-- Settles O19: the field that rejects is named, CONFIG_REJECTED is set, and no sweep is asked for. -/
theorem enableRejectsBadConfiguration : Obligations.EnableRejectsBadConfiguration := by
  intro s high echo wf writing enable noReset off bad
  let fault : Byte := if (s.half 0x00).toNat < 16 then 0x00 else 0x0A
  let u := (s.sampleEcho echo).setPort s.port.pairWritten
  have rejected : u.enablePart = u.rejectConfiguration fault := by
    have error : u.readConfiguration = .error fault := readConfiguration_error (s := u) bad
    rw [State.enablePart, error]
  refine ⟨u.rejectConfiguration fault, ?_, rfl, ?_, fun a other => ?_⟩
  · rw [execEnable_writing writing enable noReset,
      writeRunControl_enable (s := u) ((halfOf_getLsbD (by omega)).trans enable)
        ((halfOf_getLsbD (by omega)).trans noReset) off, rejected, if_neg]
    have stays : (u.rejectConfiguration fault).regs.enable = false := off
    simp [stays]
  · exact (put_one (t := u) wf _ _ _).trans (if_pos rfl)
  · exact (put_one (t := u) wf _ _ _).trans (if_neg other)

/-! ## While ENABLE reads 1 (01 R15, R17) -/

theorem requestSweep_enabled (on : s.regs.enable = true) :
    s.requestSweep = { s with sweeper := if s.sweeper.visit = none then
      { s.sweeper with visit := some (.header 0), ending := false } else { s.sweeper with latch := true } } := by
  unfold State.requestSweep
  split <;> rename_i visit
  · rw [if_pos on, if_pos visit]; rfl
  · rw [if_neg (by simp [visit])]; rfl

/-- What a disable leaves of engine e and its question. -/
theorem holdEngine_forAll (s : State) :
    let t := forAll allEngines (fun e u => u.holdEngine e) s
    t = { s with engines := t.engines, tracker := { s.tracker with questions := t.tracker.questions } } ∧
    ∀ e, (∀ w, (s.engine e).phase = .gating w →
        t.engine e = { s.engine e with phase := .held (.gating w) } ∧
        t.question e = (s.question e).map fun q => { q with suspended := true }) ∧
      ((∀ w, (s.engine e).phase ≠ .gating w) → t.engine e = s.engine e ∧ t.question e = s.question e) := by
  intro t
  refine ⟨?_, fun e => ?_⟩
  · refine forAll_invariant (P := fun t => t = { s with
      engines := t.engines, tracker := { s.tracker with questions := t.tracker.questions } }) (fun e u hu => ?_) _ rfl
    unfold State.holdEngine
    split
    · rw [hu]; rfl
    · exact hu
  · obtain ⟨u, before, after⟩ := forAll_own (fun e u => holdEngine_onEngine (.refl e u)) e s
    refine ⟨fun w gating => ?_, fun other => ?_⟩
    · rw [show t.engine e = _ from after.engine, show t.question e = _ from after.question, State.holdEngine,
        before.engine, gating]
      simp [before.engine, before.question]
    · rw [show t.engine e = _ from after.engine, show t.question e = _ from after.question,
        show u.holdEngine e = u by rw [State.holdEngine, before.engine]; split <;> simp_all]
      exact ⟨before.engine, before.question⟩

/-- What a disable leaves of the part. -/
theorem disablePart_frame (s : State) :
    s.disablePart = { s with
      regs := { s.regs with enable := false }, engines := s.disablePart.engines
      tracker := { s.tracker with questions := s.disablePart.tracker.questions }, sweeper := s.sweeper.disable } ∧
    ∀ e, (∀ w, (s.engine e).phase = .gating w →
        s.disablePart.engine e = { s.engine e with phase := .held (.gating w) } ∧
        s.disablePart.question e = (s.question e).map fun q => { q with suspended := true }) ∧
      ((∀ w, (s.engine e).phase ≠ .gating w) →
        s.disablePart.engine e = s.engine e ∧ s.disablePart.question e = s.question e) := by
  obtain ⟨frame, own⟩ := holdEngine_forAll (s.setRegs { s.regs with enable := false })
  unfold State.disablePart
  dsimp only at frame own ⊢
  generalize forAll allEngines (fun e u => u.holdEngine e) (s.setRegs { s.regs with enable := false }) = t
    at frame own ⊢
  exact ⟨by rw [frame]; rfl, own⟩

theorem Sweeper.disable_none {w : Sweeper}
    (none : ∀ k bytes, w.visit ≠ some (.intake k bytes) ∧ w.visit ≠ some (.stray k)) :
    w.disable.visit = Option.none ∧ w.disable.ending = false := by
  unfold Sweeper.disable
  dsimp only
  rcases visit : w.visit with _ | ⟨k⟩ | ⟨k, bytes⟩ | ⟨k⟩
  · exact ⟨rfl, rfl⟩
  · exact ⟨rfl, rfl⟩
  · exact absurd visit (none k bytes).1
  · exact absurd visit (none k []).2

theorem Sweeper.disable_begun {w : Sweeper} {k : CardId} {bytes : List Byte}
    (begun : w.visit = some (.intake k bytes) ∨ w.visit = some (.stray k)) :
    w.disable.visit = w.visit ∧ w.disable.ending = true := by
  unfold Sweeper.disable
  obtain visit | visit := begun <;> simp [visit]

/-- Settles O22: a second ENABLE does nothing, a sweep is requested, and a disable holds the engines in GATING. -/
theorem runControlWhileEnabledActs : Obligations.RunControlWhileEnabledActs := by
  refine ⟨⟨fun s high echo writing enable noSweep noReset on => ?_, fun s high writing enable sweep noReset on => ?_⟩,
    fun s high writing disable noReset on => ?_⟩
  · rw [execEnable_writing writing enable noReset,
      writeRunControl_enabled (s := (s.sampleEcho echo).setPort s.port.pairWritten)
        ((halfOf_getLsbD (by omega)).trans enable) ((halfOf_getLsbD (by omega)).trans noReset) on,
      halfOf_getLsbD (by omega), noSweep]
    rfl
  · change Host.Outcome.next (s.clockByte _ high) = _
    rw [clockByte_writing writing rfl
      (by simp only [halfOf_getLsbD (show 0 < 8 by omega), halfOf_getLsbD (show 1 < 8 by omega),
        halfOf_getLsbD (show 2 < 8 by omega), enable, sweep, noReset, on]; rfl)]
    change Host.Outcome.next ((s.setPort s.port.pairWritten).writeRunControl _) = _
    rw [writeRunControl_enabled (s := s.setPort s.port.pairWritten) ((halfOf_getLsbD (by omega)).trans enable)
        ((halfOf_getLsbD (by omega)).trans noReset) on, halfOf_getLsbD (by omega), sweep, if_pos rfl,
      requestSweep_enabled (s := s.setPort s.port.pairWritten) on]
    rfl
  · obtain ⟨frame, own⟩ := disablePart_frame (s.setPort s.port.pairWritten)
    have done : exec (.disable high) s = .next (s.setPort s.port.pairWritten).disablePart := by
      change Host.Outcome.next (s.clockByte _ high) = _
      rw [clockByte_writing writing rfl
        (by simp only [halfOf_getLsbD (show 0 < 8 by omega), halfOf_getLsbD (show 2 < 8 by omega), disable, noReset]; rfl)]
      change Host.Outcome.next ((s.setPort s.port.pairWritten).writeRunControl _) = _
      rw [writeRunControl_disable (s := s.setPort s.port.pairWritten) ((halfOf_getLsbD (by omega)).trans disable)
        ((halfOf_getLsbD (by omega)).trans noReset) on]
    generalize (s.setPort s.port.pairWritten).disablePart = t at frame own done
    have sweeper : t.sweeper = s.sweeper.disable := by rw [frame]; rfl
    refine ⟨t, done, by rw [sweeper]; exact frame, fun e => (own e).1, fun e => (own e).2, ?_⟩
    rw [sweeper]
    exact ⟨rfl, rfl, rfl, fun k bytes begun => Sweeper.disable_begun begun, Sweeper.disable_none⟩

end

end Sys2Proof.Machine
end

section
/-! Bytes put and read back, and what the end of a reset leaves (01 R20, R21, 02 R43). -/

namespace Sys2Proof.Machine

/-! ## Fields put and read back -/

section
variable {s t : State} {a : Nat}

theorem State.byte_put_at (wf : Memory.wf s.mem = true) {i : Nat} {bs : List Byte} (h : i < bs.length) :
    (s.put a bs).byte (a + i) = bs[i] := by
  rw [State.byte_put wf, dif_pos (by omega)]
  congr 1
  omega

/-- A byte after a put, without the bounds of the list. -/
theorem State.byte_put_getD (wf : Memory.wf s.mem = true) (bs : List Byte) (b : Nat) :
    (s.put a bs).byte b = if a ≤ b ∧ b < a + bs.length then bs.getD (b - a) 0 else s.byte b := by
  rw [State.byte_put wf]
  by_cases inside : a ≤ b ∧ b < a + bs.length
  · rw [dif_pos (by omega), if_pos inside, List.getD_eq_getElem]
  · rw [dif_neg (by omega), if_neg inside]

theorem halfOf_extract (h : Half) : halfOf (h.extractLsb' 0 8) (h.extractLsb' 8 8) = h := by
  ext i hi
  rw [halfOf, ← BitVec.getLsbD_eq_getElem, ← BitVec.getLsbD_eq_getElem, BitVec.getLsbD_append,
    BitVec.getLsbD_extractLsb', BitVec.getLsbD_extractLsb']
  by_cases low : i < 8
  · simp [low]
  · simp [low, show i - 8 < 8 by omega, show 8 + (i - 8) = i by omega]

theorem State.half_of_bytes {h : Half} (low : s.byte a = h.extractLsb' 0 8) (high : s.byte (a + 1) = h.extractLsb' 8 8) :
    s.half a = h := by
  rw [State.half, low, high, halfOf_extract]

theorem State.half_congr (low : t.byte a = s.byte a) (high : t.byte (a + 1) = s.byte (a + 1)) :
    t.half a = s.half a := by
  rw [State.half, State.half, low, high]

theorem State.long_congr (same : ∀ i, i < 4 → t.byte (a + i) = s.byte (a + i)) : t.long a = s.long a := by
  have low : t.half a = s.half a := State.half_congr (same 0 (by omega)) (same 1 (by omega))
  have high : t.half (a + 2) = s.half (a + 2) := State.half_congr (same 2 (by omega)) (same 3 (by omega))
  rw [State.long, State.long, low, high]

theorem longBytes_length (l : Long) : (longBytes l).length = 4 := rfl
theorem halfBytes_length (h : Half) : (halfBytes h).length = 2 := rfl

theorem long_append (l : Long) : l.extractLsb' 16 16 ++ l.extractLsb' 0 16 = l := by
  ext i hi
  rw [← BitVec.getLsbD_eq_getElem, ← BitVec.getLsbD_eq_getElem, BitVec.getLsbD_append,
    BitVec.getLsbD_extractLsb', BitVec.getLsbD_extractLsb']
  by_cases low : i < 16
  · simp [low]
  · simp [low, show i - 16 < 16 by omega, show 16 + (i - 16) = i by omega]

/-- The bytes of a 32-bit value, wherever they stand, read back as the value. -/
theorem State.long_of_bytes {l : Long} (bytes : ∀ i (h : i < 4), s.byte (a + i) = (longBytes l)[i]) : s.long a = l := by
  have low : s.half a = l.extractLsb' 0 16 := by
    refine State.half_of_bytes ((bytes 0 (by omega)).trans ?_) ((bytes 1 (by omega)).trans ?_)
    · ext i hi; simp [longBytes]
    · ext i hi; simp [longBytes]
  have high : s.half (a + 2) = l.extractLsb' 16 16 := by
    refine State.half_of_bytes ((bytes 2 (by omega)).trans ?_) ((bytes 3 (by omega)).trans ?_)
    · ext i hi; simp [longBytes, show i < 16 by omega]
    · ext i hi; simp [longBytes, ← Nat.add_assoc, show 8 + i < 16 by omega]
  rw [State.long, low, high, long_append]

/-- Zeros put. -/
theorem State.byte_put_zeros (wf : Memory.wf s.mem = true) (k b : Nat) :
    (s.put a (List.replicate k 0)).byte b = if a ≤ b ∧ b < a + k then 0 else s.byte b := by
  rw [State.byte_put wf]
  simp only [List.length_replicate, List.getElem_replicate]
  split_ifs <;> first | rfl | omega

/-- What an act that keeps an invariant makes of the own place of each element. -/
theorem forAll_place_of {α β : Type} [DecidableEq α] {P : State → Prop} {read : State → α → β}
    {act : α → State → State} {f : α → β → β} (keeps : ∀ x u, P u → P (act x u))
    (h : ∀ x y u, P u → read (act x u) y = if y = x then f x (read u x) else read u y)
    {xs : List α} (distinct : xs.Nodup) {s : State} (hs : P s) (y : α) :
    read (forAll xs act s) y = if y ∈ xs then f y (read s y) else read s y := by
  induction xs generalizing s with
  | nil => rfl
  | cons x xs ih =>
    obtain ⟨fresh, distinct⟩ := List.nodup_cons.mp distinct
    rw [forAll_cons, ih distinct (keeps x s hs), h x _ s hs]
    by_cases hy : y = x
    · subst hy; simp [fresh]
    · simp [hy]

/-- An act that keeps an invariant and writes one value at an address, if it writes there at all, done for each
element. -/
theorem forAll_byte {α : Type} {P : State → Prop} {act : α → State → State} {hit : α → Prop} [DecidablePred hit]
    {a : Nat} {v : Byte} (keeps : ∀ x u, P u → P (act x u))
    (h : ∀ x u, P u → (act x u).byte a = if hit x then v else u.byte a)
    (xs : List α) {s : State} (hs : P s) :
    (forAll xs act s).byte a = if ∃ x ∈ xs, hit x then v else s.byte a := by
  induction xs generalizing s with
  | nil => simp
  | cons x xs ih =>
    rw [forAll_cons, ih (keeps x s hs), h x s hs]
    by_cases later : ∃ x ∈ xs, hit x <;> by_cases now : hit x <;> simp [later, now]

/-- A cause that is raised twice is raised once. -/
theorem raised_twice {p q : Prop} [Decidable p] [Decidable q] (c d : BitVec 5) :
    (if q then (if p then c ||| d else c) ||| d else if p then c ||| d else c) = if p ∨ q then c ||| d else c := by
  by_cases p <;> by_cases q <;> simp [*, BitVec.or_assoc]

/-- An act that keeps an invariant and may raise a cause, done for each element. -/
theorem forAll_causes {α : Type} {P : State → Prop} {act : α → State → State} {hit : α → Prop} [DecidablePred hit]
    {d : BitVec 5} (keeps : ∀ x u, P u → P (act x u))
    (h : ∀ x u, P u → (act x u).regs.causes = if hit x then u.regs.causes ||| d else u.regs.causes)
    (xs : List α) {s : State} (hs : P s) :
    (forAll xs act s).regs.causes = if ∃ x ∈ xs, hit x then s.regs.causes ||| d else s.regs.causes := by
  induction xs generalizing s with
  | nil => simp
  | cons x xs ih =>
    rw [forAll_cons, ih (keeps x s hs), h x s hs]
    simp only [List.exists_mem_cons_iff]
    exact raised_twice _ _

end

/-! ## The records that a reset rewrites -/

section
variable {s t : State}

theorem resetStatusRecord_byte (wf : Memory.wf s.mem = true) (a : Nat) :
    s.resetStatusRecord.byte a =
      if 0x80 ≤ a ∧ a < 0xA0 then (if a = msConfigFault then codeNone else 0) else s.byte a := by
  have value (i : Fin 32) : ([0, 0, 0, 0, 0, codeNone] ++ List.replicate 26 0).getD i.val 0 =
      if i.val = 5 then codeNone else 0 := by revert i; decide
  have length : ([0, 0, 0, 0, 0, codeNone] ++ List.replicate 26 0).length = 32 := rfl
  rw [State.resetStatusRecord, State.byte_put_getD wf, length]
  unfold msAngle msConfigFault
  by_cases inside : 0x80 ≤ a ∧ a < 0xA0
  · rw [if_pos inside, if_pos (by omega), value ⟨a - 0x80, by omega⟩]
    simp only [show a - 0x80 = 5 ↔ a = 0x85 by omega]
  · rw [if_neg inside, if_neg (by omega)]

/-- A slot's used bytes are zeroed. -/
def State.zeroSlot (s : State) (n : StationId) (p : SlotId) : State :=
  ((s.put (slotBase n p) [0]).put (slotBase n p + 2) (List.replicate 5 0)).put (slotBase n p + 8) (List.replicate 12 0)

theorem zeroSlot_wf (wf : Memory.wf s.mem = true) (n : StationId) (p : SlotId) :
    Memory.wf (s.zeroSlot n p).mem = true := State.wf_put _ _ (State.wf_put _ _ (State.wf_put _ _ wf))

theorem zeroSlot_byte (wf : Memory.wf s.mem = true) (n : StationId) (p : SlotId) (a : Nat) :
    (s.zeroSlot n p).byte a =
      if slotBase n p ≤ a ∧ a < slotBase n p + 20 ∧ a ≠ slotBase n p + 1 ∧ a ≠ slotBase n p + 7 then 0
      else s.byte a := by
  unfold State.zeroSlot
  rw [State.byte_put_zeros (State.wf_put _ _ (State.wf_put _ _ wf)), State.byte_put_zeros (State.wf_put _ _ wf), put_one wf]
  split_ifs <;> first | rfl | omega

theorem resetRecord_eq (s : State) (n : StationId) :
    s.resetRecord n = forAll allSlots (fun p t => t.zeroSlot n p)
      (s.put (stationBase n + stState) [0, 0, codeNone, 0, 0, 0, 0, 0, 0]) := rfl

theorem resetRecord_wf (wf : Memory.wf s.mem = true) (n : StationId) : Memory.wf (s.resetRecord n).mem = true := by
  rw [resetRecord_eq]
  exact forAll_invariant (P := fun t => Memory.wf t.mem = true) (fun p t h => zeroSlot_wf h n p) _ (State.wf_put _ _ wf)

theorem resetStationByte_eq (o : Nat) (b : Byte) :
    resetStationByte o b = if 0x10 ≤ o ∧ o < 0x19 then (if o = 0x12 then codeNone else 0)
      else if 0x20 ≤ o ∧ o < 0x70 ∧ (o - 0x20) % 20 ≠ 1 ∧ (o - 0x20) % 20 ≠ 7 then 0 else b := by
  unfold resetStationByte stHolder
  split_ifs <;> first | rfl | omega

theorem resetRecord_byte (wf : Memory.wf s.mem = true) (n : StationId) {o : Nat} (ho : o < 128) :
    (s.resetRecord n).byte (stationBase n + o) = resetStationByte o (s.byte (stationBase n + o)) := by
  have value (i : Fin 9) : ([0, 0, codeNone, 0, 0, 0, 0, 0, 0] : List Byte).getD i.val 0 =
      if i.val = 2 then codeNone else 0 := by revert i; decide
  rw [resetRecord_eq, forAll_byte (P := fun u => Memory.wf u.mem = true) (fun p u h => zeroSlot_wf h n p) (fun p u h => zeroSlot_byte h n p _) _
    (State.wf_put _ _ wf), State.byte_put_getD wf, resetStationByte_eq]
  have slots : (∃ p ∈ allSlots, slotBase n p ≤ stationBase n + o ∧ stationBase n + o < slotBase n p + 20 ∧
      stationBase n + o ≠ slotBase n p + 1 ∧ stationBase n + o ≠ slotBase n p + 7) ↔
      0x20 ≤ o ∧ o < 0x70 ∧ (o - 0x20) % 20 ≠ 1 ∧ (o - 0x20) % 20 ≠ 7 := by
    simp only [slotBase]
    constructor
    · rintro ⟨p, _, h⟩
      omega
    · intro h
      refine ⟨⟨(o - 0x20) / 20, by omega⟩, mem_allSlots _, ?_⟩
      dsimp only
      omega
  have length : ([0, 0, codeNone, 0, 0, 0, 0, 0, 0] : List Byte).length = 9 := rfl
  rw [length]
  unfold stState
  by_cases record : 0x10 ≤ o ∧ o < 0x19
  · rw [if_neg (mt slots.mp (by omega)), if_pos record, if_pos (by omega),
      show stationBase n + o - (stationBase n + 0x10) = o - 0x10 by omega, value ⟨o - 0x10, by omega⟩]
    simp only [show o - 0x10 = 2 ↔ o = 0x12 by omega]
  · rw [if_neg record, if_neg (c := stationBase n + 0x10 ≤ stationBase n + o ∧ _) (by omega)]
    by_cases slot : 0x20 ≤ o ∧ o < 0x70 ∧ (o - 0x20) % 20 ≠ 1 ∧ (o - 0x20) % 20 ≠ 7
    · rw [if_pos (slots.mpr slot), if_pos slot]
    · rw [if_neg (mt slots.mp slot), if_neg slot]

theorem resetRecord_byte_other (wf : Memory.wf s.mem = true) (n : StationId) {a : Nat}
    (apart : a < stationBase n ∨ stationBase n + 128 ≤ a) : (s.resetRecord n).byte a = s.byte a := by
  rw [resetRecord_eq, forAll_byte (P := fun u => Memory.wf u.mem = true) (fun p u h => zeroSlot_wf h n p) (fun p u h => zeroSlot_byte h n p _) _
    (State.wf_put _ _ wf), State.byte_put_other _ _ _ _ (by simp only [stState, List.length_cons, List.length_nil]; omega),
    if_neg]
  rintro ⟨p, _, h⟩
  simp only [slotBase] at h
  omega

theorem resetRecords_byte (wf : Memory.wf s.mem = true) (a : Nat) :
    (forAll allStations (fun n t => t.resetRecord n) s).byte a =
      match stationAt a with
      | some (_, o) => resetStationByte o (s.byte a)
      | none => s.byte a := by
  have keeps (n : StationId) (u : State) (h : Memory.wf u.mem = true) := resetRecord_wf h n
  have apart {n : StationId} {o : Nat} (m : StationId) (ho : o < 128) (ne : m ≠ n) :
      stationBase n + o < stationBase m ∨ stationBase m + 128 ≤ stationBase n + o := by
    have := Fin.val_ne_of_ne ne
    simp only [stationBase]
    omega
  rcases at_ : stationAt a with _ | ⟨n, o⟩
  · have outside := stationAt_eq_none at_
    have kept := forAll_invariant (P := fun u => Memory.wf u.mem = true ∧ u.byte a = s.byte a)
      (act := fun n t => t.resetRecord n) (fun m u h => ⟨resetRecord_wf h.1 m,
        (resetRecord_byte_other h.1 m (by simp only [stationBase]; omega)).trans h.2⟩) allStations ⟨wf, rfl⟩
    exact kept.2
  · obtain ⟨rfl, ho⟩ := stationAt_some at_
    have place (x y : StationId) (u : State) (h : Memory.wf u.mem = true) :
        (u.resetRecord x).byte (stationBase y + o) =
          if y = x then resetStationByte o (u.byte (stationBase x + o)) else u.byte (stationBase y + o) := by
      by_cases eq : y = x
      · subst eq; rw [if_pos rfl]; exact resetRecord_byte h y ho
      · rw [if_neg eq]; exact resetRecord_byte_other h x (apart x ho (Ne.symm eq))
    have own := forAll_place_of (read := fun u m => u.byte (stationBase m + o)) keeps place allStations_nodup wf n
    rwa [if_pos (mem_allStations n)] at own

end

/-! ## The cards that a reset recovers (02 R43) -/

section
variable {s t : State}

/-- The card's status reads TAKEN or RUNNING. -/
abbrev State.lostCard (s : State) (k : CardId) : Prop := s.cardStatus k = statusTaken ∨ s.cardStatus k = statusRunning

theorem blankResult_getD (i : Nat) (h : i < 48) :
    blankResult.getD i 0 = if i = 6 ∨ i = 7 then codeNone else 0 := by
  have value (i : Fin 48) : blankResult.getD i.val 0 = if i.val = 6 ∨ i.val = 7 then codeNone else 0 := by
    revert i; decide
  exact value ⟨i, h⟩

theorem blankCard_byte (wf : Memory.wf s.mem = true) (k : CardId) (a : Nat) :
    (s.blankCard k).byte a = if cardBase k + 0x10 ≤ a ∧ a < cardBase k + 0x40 then
      (if a = cardBase k + 0x16 ∨ a = cardBase k + 0x17 then codeNone else 0) else s.byte a := by
  have length : blankResult.length = 48 := rfl
  rw [State.blankCard, State.byte_put_getD wf, length]
  unfold cdError
  split_ifs
  · rw [blankResult_getD _ (by omega), if_pos (by omega)]
  · rw [blankResult_getD _ (by omega), if_neg (by omega)]
  · rfl

theorem blankCard_wf (wf : Memory.wf s.mem = true) (k : CardId) : Memory.wf (s.blankCard k).mem = true :=
  State.wf_put _ _ wf

theorem recoverCard_not_lost {k : CardId} (h : ¬s.lostCard k) : s.recoverCard k = s := by
  rw [State.recoverCard, if_neg]
  simpa [State.lostCard] using h

theorem recoverCard_lost {k : CardId} (h : s.lostCard k) :
    s.recoverCard k = (((s.blankCard k).put (cardBase k + cdError) [ErrorCode.resetLost.code]).put (cardBase k)
      [statusFailed]).raiseIf (s.cardNotify k) causeCardEnd := by
  rw [State.recoverCard, if_pos]
  simpa [State.lostCard] using h

theorem State.mem_raiseIf (s : State) (b : Bool) (c : BitVec 5) : (s.raiseIf b c).mem = s.mem := by
  cases b <;> rfl

theorem State.byte_raiseIf (s : State) (b : Bool) (c : BitVec 5) (a : Nat) : (s.raiseIf b c).byte a = s.byte a := by
  cases b <;> rfl

theorem recoverCard_wf (wf : Memory.wf s.mem = true) (k : CardId) : Memory.wf (s.recoverCard k).mem = true := by
  by_cases lost : s.lostCard k
  · rw [recoverCard_lost lost, State.mem_raiseIf]
    exact State.wf_put _ _ (State.wf_put _ _ (blankCard_wf wf k))
  · rwa [recoverCard_not_lost lost]

theorem recoverCard_byte (wf : Memory.wf s.mem = true) {k : CardId} (lost : s.lostCard k) {o : Nat} (ho : o < 64) :
    (s.recoverCard k).byte (cardBase k + o) = recoveredByte o (s.byte (cardBase k + o)) := by
  rw [recoverCard_lost lost, State.byte_raiseIf, put_one (State.wf_put _ _ (blankCard_wf wf k)),
    put_one (blankCard_wf wf k), blankCard_byte wf, recoveredByte]
  unfold cdError cdEngine cdProfileIndex
  split_ifs <;> first | rfl | omega

theorem recoverCard_byte_other (s : State) (k : CardId) {a : Nat}
    (apart : a < cardBase k ∨ cardBase k + 64 ≤ a) : (s.recoverCard k).byte a = s.byte a := by
  by_cases lost : s.lostCard k
  · have length : blankResult.length = 48 := rfl
    rw [recoverCard_lost lost, State.byte_raiseIf,
      State.byte_put_other _ _ _ _ (by simp only [List.length_singleton]; omega),
      State.byte_put_other _ _ _ _ (by simp only [List.length_singleton, cdError]; omega),
      State.blankCard, State.byte_put_other _ _ _ _ (by rw [length, cdError]; omega)]
  · rw [recoverCard_not_lost lost]

/-- Bytes of different cards lie apart. -/
theorem card_apart {k m : CardId} (ne : m ≠ k) {o : Nat} (ho : o < 64) :
    cardBase k + o < cardBase m ∨ cardBase m + 64 ≤ cardBase k + o := by
  have := Fin.val_ne_of_ne ne
  simp only [cardBase]
  omega

theorem recover_byte (wf : Memory.wf s.mem = true) (a : Nat) :
    s.recover.byte a =
      match cardAt a with
      | some (k, o) =>
        if s.cardStatus k = statusTaken ∨ s.cardStatus k = statusRunning then recoveredByte o (s.byte a) else s.byte a
      | none => s.byte a := by
  have keeps (k : CardId) (u : State) (h : Memory.wf u.mem = true) := recoverCard_wf h k
  rcases at_ : cardAt a with _ | ⟨k, o⟩
  · have outside := cardAt_eq_none at_
    have kept (k : CardId) (u : State) : (u.recoverCard k).byte a = u.byte a :=
      recoverCard_byte_other u k (by simp only [cardBase]; omega)
    exact forAll_keeps_read (fun u => u.byte a) kept allCards s
  · obtain ⟨rfl, ho⟩ := cardAt_some at_
    have place (x y : CardId) (u : State) (h : Memory.wf u.mem = true) :
        ((u.recoverCard x).cardStatus y, (u.recoverCard x).byte (cardBase y + o)) =
          if y = x then
            (if u.cardStatus x = statusTaken ∨ u.cardStatus x = statusRunning then
              (statusFailed, recoveredByte o (u.byte (cardBase x + o)))
            else (u.cardStatus x, u.byte (cardBase x + o)))
          else (u.cardStatus y, u.byte (cardBase y + o)) := by
      by_cases eq : y = x
      · subst eq
        rw [if_pos rfl]
        by_cases lost : u.lostCard y
        · rw [if_pos lost]
          exact Prod.ext (recoverCard_byte h lost (o := 0) (by omega)) (recoverCard_byte h lost ho)
        · rw [if_neg lost, recoverCard_not_lost lost]
      · rw [if_neg eq]
        exact Prod.ext (recoverCard_byte_other u x (card_apart (Ne.symm eq) (o := 0) (by omega)))
          (recoverCard_byte_other u x (card_apart (Ne.symm eq) ho))
    have own := forAll_place_of (read := fun u m => (u.cardStatus m, u.byte (cardBase m + o)))
      (f := fun _ r => if r.1 = statusTaken ∨ r.1 = statusRunning then (statusFailed, recoveredByte o r.2) else r)
      keeps place allCards_nodup wf k
    rw [if_pos (mem_allCards k)] at own
    obtain ⟨_, byte⟩ := Prod.ext_iff.mp own
    dsimp only at byte
    rw [State.recover, byte]
    dsimp only
    split_ifs <;> rfl

/-- CARD_END is set if a recovered card has NOTIFY. -/
theorem recover_causes (xs : List CardId) (distinct : xs.Nodup) (s : State) :
    (forAll xs (fun k t => t.recoverCard k) s).regs.causes =
      if ∃ k ∈ xs, s.lostCard k ∧ s.cardNotify k = true then s.regs.causes ||| causeCardEnd else s.regs.causes := by
  induction xs generalizing s with
  | nil => simp
  | cons x xs ih =>
    obtain ⟨fresh, distinct⟩ := List.nodup_cons.mp distinct
    have others : (∃ k ∈ xs, (s.recoverCard x).lostCard k ∧ (s.recoverCard x).cardNotify k = true) ↔
        ∃ k ∈ xs, s.lostCard k ∧ s.cardNotify k = true := by
      refine exists_congr fun k => and_congr_right fun hk => ?_
      have ne : x ≠ k := fun eq => fresh (eq ▸ hk)
      have status : (s.recoverCard x).cardStatus k = s.cardStatus k :=
        recoverCard_byte_other s x (card_apart ne (o := 0) (by omega))
      have flags : (s.recoverCard x).cardNotify k = s.cardNotify k := by
        rw [State.cardNotify, recoverCard_byte_other s x (card_apart ne (by decide))]
        rfl
      rw [State.lostCard, status, flags]
    have own : (s.recoverCard x).regs.causes =
        if s.lostCard x ∧ s.cardNotify x = true then s.regs.causes ||| causeCardEnd else s.regs.causes := by
      by_cases lost : s.lostCard x
      · rw [recoverCard_lost lost]
        cases notify : s.cardNotify x
        · rw [if_neg (by simp)]; rfl
        · rw [if_pos ⟨lost, rfl⟩]; rfl
      · rw [recoverCard_not_lost lost, if_neg (fun h => lost h.1)]
    rw [forAll_cons, ih distinct, own]
    simp only [others, List.exists_mem_cons_iff]
    exact raised_twice _ _

/-! ## The end of a reset (01 R20, R21) -/

theorem resetRecord_regs (s : State) (n : StationId) : (s.resetRecord n).regs = s.regs := by
  rw [resetRecord_eq]
  have kept (p : SlotId) (u : State) : (u.zeroSlot n p).regs = u.regs := by
    simp only [State.zeroSlot, State.put_regs]
  rw [forAll_keeps_read State.regs kept, State.put_regs]

/-- The state that the recovery walk of a reset finds. -/
def State.rewritten (s : State) : State :=
  forAll allStations (fun n t => t.resetRecord n) s.resetBlocks.resetStatusRecord

theorem finishReset_eq (s : State) : s.finishReset = s.rewritten.recover := rfl

theorem rewritten_wf (wf : Memory.wf s.mem = true) : Memory.wf s.rewritten.mem = true :=
  forAll_invariant (P := fun t => Memory.wf t.mem = true) (fun n _ h => resetRecord_wf h n) _
    (State.wf_put (s := s.resetBlocks) _ _ wf)

theorem rewritten_byte (wf : Memory.wf s.mem = true) (a : Nat) :
    s.rewritten.byte a =
      match stationAt a with
      | some (_, o) => resetStationByte o (s.resetBlocks.resetStatusRecord.byte a)
      | none => s.resetBlocks.resetStatusRecord.byte a :=
  resetRecords_byte (State.wf_put (s := s.resetBlocks) _ _ wf) a

theorem rewritten_card (wf : Memory.wf s.mem = true) (k : CardId) (o : Nat) :
    s.rewritten.byte (cardBase k + o) = s.byte (cardBase k + o) := by
  have high : 0x800 ≤ cardBase k + o := by simp only [cardBase]; omega
  rw [rewritten_byte wf, stationAt_none (by omega), resetStatusRecord_byte (s := s.resetBlocks) wf, if_neg (by omega)]
  rfl

theorem rewritten_status (wf : Memory.wf s.mem = true) (k : CardId) : s.rewritten.cardStatus k = s.cardStatus k :=
  rewritten_card wf k 0

theorem finishReset_byte (wf : Memory.wf s.mem = true) (a : Nat) : s.finishReset.byte a = s.afterReset a := by
  rw [finishReset_eq, recover_byte (rewritten_wf wf), State.afterReset]
  rcases card : cardAt a with _ | ⟨k, o⟩
  · rw [rewritten_byte wf, resetStatusRecord_byte (s := s.resetBlocks) wf]
    by_cases status : 0x80 ≤ a ∧ a < 0xA0
    · rw [if_pos status, if_pos status, stationAt_none (by omega)]
    · rw [if_neg status, if_neg status]
      cases stationAt a <;> rfl
  · obtain ⟨rfl, ho⟩ := cardAt_some card
    have high : 0x800 ≤ cardBase k := by simp only [cardBase]; omega
    rw [if_neg (by omega), stationAt_none (.inr (by omega))]
    dsimp only
    rw [rewritten_status wf, rewritten_card wf]

theorem finishReset_causes (wf : Memory.wf s.mem = true) :
    s.finishReset.regs.causes = 0b00001 ∧ s.losesNotified ∨ s.finishReset.regs.causes = 0 ∧ ¬s.losesNotified := by
  have regs : s.rewritten.regs = s.resetBlocks.regs :=
    forAll_keeps_read State.regs (act := fun n t => t.resetRecord n) (fun n t => resetRecord_regs t n) allStations _
  have loses : (∃ k ∈ allCards, s.rewritten.lostCard k ∧ s.rewritten.cardNotify k = true) ↔ s.losesNotified := by
    simp only [State.losesNotified, State.lostCard, rewritten_status wf, State.cardNotify, rewritten_card wf,
      mem_allCards, true_and]
  have none : s.resetBlocks.regs.causes = 0 := rfl
  rw [finishReset_eq, State.recover, recover_causes _ allCards_nodup, regs, none]
  by_cases lost : s.losesNotified
  · rw [if_pos (loses.mpr lost)]
    exact .inl ⟨rfl, lost⟩
  · rw [if_neg (mt loses.mp lost)]
    exact .inr ⟨rfl, lost⟩

/-- The reset values that the end of a pin reset and a soft reset leave. -/
theorem finishReset_values (wf : Memory.wf s.mem = true) :
    let t := s.finishReset
    (∀ a, t.byte a = s.afterReset a) ∧
    t.regs.enable = false ∧ t.regs.snapshot = none ∧ t.regs.mask = s.regs.mask ∧ t.regs.refusedAt = 0 ∧
    (t.regs.shelfFixed = true ↔ s.byte 0x08 ≠ 0) ∧
    (t.regs.causes = 0b00001 ∧ s.losesNotified ∨ t.regs.causes = 0 ∧ ¬s.losesNotified) ∧
    t.sweeper = Sweeper.reset ∧ t.waiting = [] ∧ t.notices = [] ∧ t.tracker = Tracker.reset ∧ t.cache = Cache.reset ∧
    (∀ n, t.station n = Station.reset ∧ t.holder n = none) ∧ t.overloadHold = 0 ∧
    (∀ e, t.engine e = Engine.reset ∧ t.point e = none) ∧ t.pending = s.pending ∧
    t.port = Port.reset ∧ t.pins = s.pins := by
  have byte := finishReset_byte wf
  have causes := finishReset_causes wf
  have frame := finishReset_rewrites s
  generalize s.finishReset = t at byte causes frame ⊢
  have stations : t.stations = Vector.replicate 12 Station.reset := by rw [frame]; rfl
  have holds : t.holds = Vector.replicate 12 none := by rw [frame]; rfl
  have engines : t.engines = Vector.replicate 4 Engine.reset := by rw [frame]; rfl
  have points : t.crosspoint = Vector.replicate 4 none := by rw [frame]; rfl
  have shelf : t.regs.shelfFixed = s.shelfFixedField := by rw [frame]; rfl
  refine ⟨byte, ?_, ?_, ?_, ?_, ?_, causes, ?_, ?_, ?_, ?_, ?_, fun n => ⟨?_, ?_⟩, ?_, fun e => ⟨?_, ?_⟩, ?_, ?_, ?_⟩
  all_goals first | (rw [frame]; rfl) | skip
  · rw [shelf, State.shelfFixedField, decide_eq_true_iff]
    rfl
  · simp [State.station, stations]
  · simp [State.holder, holds]
  · simp [State.engine, engines]
  · simp [State.point, points]

end

end Sys2Proof.Machine
end

section
/-! RESET, the end of a reset, and the power-on reset (01 R20, R21). -/

namespace Sys2Proof.Machine

section
variable {s t : State}

/-! ## The end of a reset -/

/-- Settles O24: both ends of a reset are the same act, and under a power-on reset only the pin moves. -/
theorem resetEndsWithResetValues : Obligations.ResetEndsWithResetValues := by
  intro s high wf ended
  refine ⟨fun low noPor => ?_, fun low por => ?_, fun writing reset => ?_⟩
  · obtain ⟨byte, enable, snapshot, mask, refused, shelf, causes, sweeper, waiting, notices, tracker, cache, stations,
      overload, engines, pending, port, pins⟩ :=
      finishReset_values (s := s.setPins { s.pins with resetLow := false }) wf
    refine ⟨(s.setPins { s.pins with resetLow := false }).finishReset, ?_, ⟨byte, enable, snapshot, mask, refused, shelf,
      causes, sweeper, waiting, notices, tracker, cache, stations, overload, engines, pending⟩, port, pins⟩
    change Host.Outcome.next (if s.pins.resetLow then s.releaseReset else s) = _
    simp [State.releaseReset, low, noPor]
  · change Host.Outcome.next (if s.pins.resetLow then s.releaseReset else s) = _
    simp only [State.releaseReset, low, por, if_true]
    rfl
  · have done : exec (.softReset high) s = .next (s.setPort s.port.pairWritten).softReset := by
      change Host.Outcome.next (s.clockByte _ high) = _
      rw [clockByte_writing writing rfl ((halfOf_getLsbD (by omega)).trans reset)]
      change Host.Outcome.next ((s.setPort s.port.pairWritten).writeRunControl _) = _
      rw [State.writeRunControl, if_pos ((halfOf_getLsbD (by omega)).trans reset)]
    refine ⟨_, done, ?_⟩
    have values := finishReset_values (s := s.setPort s.port.pairWritten) wf
    unfold State.softReset
    generalize (s.setPort s.port.pairWritten).finishReset = t at values ⊢
    obtain ⟨byte, enable, snapshot, mask, refused, shelf, causes, sweeper, waiting, notices, tracker, cache, stations,
      overload, engines, pending, port, pins⟩ := values
    refine ⟨⟨byte, enable, snapshot, mask, refused, shelf, causes, sweeper, waiting, notices, tracker, cache, stations,
      overload, engines, pending⟩, ?_, pins⟩
    dsimp only [State.setPort]
    rw [port]
    rfl

/-! ## The power-on reset -/

/-- An address that no cell lists reads 0x00. -/
theorem read_of_absent {m : Memory} {a : Nat} (absent : ∀ c ∈ m, c.1 ≠ a) : Memory.read m a = 0 := by
  induction m with
  | nil => rfl
  | cons c m ih =>
    rw [List.forall_mem_cons] at absent
    rw [Memory.read, if_neg absent.1, ih absent.2]

theorem resetMemory_read (a : Nat) :
    Memory.read resetMemory a = if a = 0x85 ∨ ∃ n : StationId, a = stationBase n + 0x12 then 0xFF else 0x00 := by
  by_cases config : a = 0x85
  · subst config
    rw [if_pos (.inl rfl)]
    rfl
  · by_cases holder : ∃ n : StationId, a = stationBase n + 0x12
    · rw [if_pos (.inr holder)]
      obtain ⟨n, rfl⟩ := holder
      revert n
      decide
    · rw [if_neg (not_or.mpr ⟨config, holder⟩)]
      have apart (n : StationId) : stationBase n + 0x12 ≠ a := fun eq => holder ⟨n, eq.symm⟩
      have far : ∀ c ∈ resetMemory, c.1 ≠ a := by
        simp only [resetMemory, List.forall_mem_cons, List.not_mem_nil, false_implies, implies_true, and_true]
        exact ⟨Ne.symm config, apart 0, apart 1, apart 2, apart 3, apart 4, apart 5, apart 6, apart 7, apart 8, apart 9,
          apart 10, apart 11⟩
      exact read_of_absent far

/-- Settles O25: the state after the power-on reset is the reset state with the pins and counters it keeps. -/
theorem powerOnResetClearsThePart : Obligations.PowerOnResetClearsThePart := by
  intro s
  have byte (a : Nat) : s.powerOn.byte a =
      if a = 0x85 ∨ ∃ n : StationId, a = stationBase n + 0x12 then 0xFF else 0x00 := resetMemory_read a
  have unflagged (n : StationId) : s.powerOn.byte (stationBase n + 0x18) ≠ 1 := by
    rw [byte]
    split <;> decide
  have attention : s.powerOn.attention = 0xF000 := by
    have causes : s.powerOn.regs.causes = 0 := rfl
    rw [State.attention, State.lowestChanged_none unflagged, causes]
    decide
  have silent : s.powerOn.attn = false := by
    simp [State.attn, State.powerOn, State.reset, Registers.reset]
  refine ⟨s.powerOn, rfl, byte, rfl, ?_, attention, ?_, ?_, rfl, rfl, rfl, rfl, rfl, rfl, rfl, rfl, rfl, silent,
    fun n => ⟨?_, ?_⟩, fun e => ⟨?_, ?_⟩, rfl, rfl, rfl⟩
  · have control : s.powerOn.active = false := by
      simp [State.active, State.engine, State.powerOn, State.reset, Engine.reset, Engine.working]
    have value : s.powerOn.registerValue 1 = (0 : BitVec 6) ++ BitVec.ofBool false ++ BitVec.ofBool s.powerOn.active ++
      (0 : BitVec 7) ++ BitVec.ofBool false := rfl
    rw [value, control]
    decide
  · change (0 : BitVec 11) ++ (0 : BitVec 5) = 0
    decide
  · change (0 : BitVec 2) ++ (0 : Address) = 0
    decide
  · simp [State.station, State.powerOn, State.reset]
  · simp [State.holder, State.powerOn, State.reset]
  · simp [State.engine, State.powerOn, State.reset]
  · simp [State.point, State.powerOn, State.reset]

/-! ## RESET goes low (01 R20, 11 R196) -/

/-- What a pin reset that begins leaves. -/
def resetBegun (s t : State) : Prop :=
  t.mem = s.mem ∧ t.regs = s.regs ∧ t.waiting = s.waiting ∧ t.cache = s.cache ∧ t.pending = s.pending ∧
  t.freeReads = s.freeReads ∧ t.pins = { s.pins with resetLow := true } ∧ t.port = Port.reset ∧
  t.sweeper = { s.sweeper with visit := none } ∧ t.overloadHold = 0 ∧
  (∀ e, t.engine e = Engine.reset ∧ t.point e = none ∧ t.question e = none ∧ t.watch e = none ∧
    t.refStim e = false) ∧
  (∀ n, t.station n = { s.station n with permit := false } ∧ t.holder n = none ∧ t.stim n = false) ∧
  t.attn = false ∧ t.misoDriven = false ∧
  t.tracker = { s.tracker with questions := t.tracker.questions, watches := t.tracker.watches }

/-- While a reset lasts no output is driven (11 R197). -/
theorem outputs_in_reset (lasts : s.inReset = true) :
    s.attn = false ∧ s.misoDriven = false ∧ (∀ e, s.refStim e = false) ∧
    ∀ n, s.stim n = false ∧ s.permitHigh n = false := by
  simp [State.attn, State.misoDriven, State.refStim, State.stim, State.permitHigh, lasts]

theorem beginReset_begun (s : State) : resetBegun s (s.beginReset.setPins { s.pins with resetLow := true }) := by
  obtain ⟨attn, miso, refStim, stim⟩ :=
    outputs_in_reset (s := s.beginReset.setPins { s.pins with resetLow := true }) rfl
  refine ⟨rfl, rfl, rfl, rfl, rfl, rfl, rfl, rfl, rfl, rfl, fun e => ⟨?_, ?_, ?_, ?_, refStim e⟩,
    fun n => ⟨?_, ?_, (stim n).1⟩, attn, miso, rfl⟩
  · simp [State.engine, State.beginReset, State.setPins]
  · simp [State.point, State.beginReset, State.setPins]
  · simp [State.question, State.beginReset, State.setPins]
  · simp [State.watch, State.beginReset, State.setPins]
  · simp [State.station, State.beginReset, State.setPins]
  · simp [State.holder, State.beginReset, State.setPins]

/-- Commands of the pins and of the resets, which act while a reset lasts. -/
def actsInReset : Instr → Prop
  | .transactionStart | .transactionEnd _ | .pinResetAssert _ | .pinResetEnd | .powerOnReset | .mclkEdge _ _ _
  | .midxEdge _ _ _ => True
  | _ => False

/-- While a reset lasts the synchroniser of a pin goes on (11 R196, log entry 18). -/
theorem synchronise_long (before level : Bool) {stood : Nat} (long : 20 ≤ stood) {keep : Pins → Pins}
    (same : before = level → keep s.pins = s.pins) :
    s.synchronise (s.takesTransition before level stood) stood keep = { s with pins := keep s.pins } := by
  rw [State.synchronise_eq, State.takesTransition_long _ _ _ _ long, if_neg (c := 15 ≤ stood ∧ stood < 20) (by omega)]
  cases differs : before != level
  · rw [same (by simpa using differs)]; rfl
  · rfl

theorem synchronise_short (before level : Bool) {stood : Nat} (short : stood < 15) (keep : Pins → Pins) :
    s.synchronise (s.takesTransition before level stood) stood keep = s := by
  rw [State.synchronise_eq, State.takesTransition_short _ _ _ _ short, if_neg (c := 15 ≤ stood ∧ stood < 20) (by omega)]
  rfl

/-- Every other command leaves the state as it is while a reset lasts. -/
theorem exec_in_reset (lasts : s.inReset = true) (c : Instr) (other : ¬actsInReset c) : exec c s = .next s := by
  have stands (p : Bool) (act : State → State) : s.whenever p act = s := by rw [State.whenever, if_pos lasts]
  have ignored (fits : Bool) (b : Byte) : s.clockByte fits b = s := by rw [State.clockByte, lasts]; rfl
  cases c with
  | transactionStart | transactionEnd | pinResetAssert | pinResetEnd | powerOnReset | mclkEdge | midxEdge =>
    exact absurd trivial other
  | memoryRead | memoryWrite | registerRead | voidTransaction | disable | sweep | softReset | attentionClear
  | attentionMaskWrite | registerWriteIgnored => exact congrArg Host.Outcome.next (ignored _ _)
  | enable | presenceSample | fit | removal | recheckExpiry | pulseFall | echoEdge | referenceEdge | settleEnd
  | noAnswer | codingError | truncated | answerComplete | tailEnd | shelfRead | profileReread | stopEvent
  | frameLevelEnd | answerBitRise | answerBitFall => exact congrArg Host.Outcome.next (stands _ _)
  | sweepTimerExpiry => simp only [exec, execSweepTimerExpiry, stands]; split <;> rfl
  | cardVisit => simp only [exec, execCardVisit, stands]; split <;> rfl
  | cardIntake => simp only [exec, execCardIntake, stands]; split <;> rfl
  | pendingListNotice => simp only [exec, execPendingListNotice, stands]; split <;> rfl
  | faultReport => simp only [exec, execFaultReport, stands]; split <;> rfl
  | stopTimeout => simp only [exec, execStopTimeout, stands]; split <;> rfl
  | gateLimitExpiry => simp only [exec, execGateLimitExpiry, stands]; split <;> rfl
  | windowClose => simp only [exec, execWindowClose, stands]; split <;> rfl
  | scoringPassEnd => simp only [exec, execScoringPassEnd, stands]; split <;> rfl
  | resultBurst => simp only [exec, execResultBurst, stands]; split <;> rfl
  | delivery => simp only [exec, execDelivery, stands]; split <;> rfl
  | terminalBurst => simp only [exec, execTerminalBurst, stands]; split <;> rfl
  | stopTerminalBurst => simp only [exec, execStopTerminalBurst, stands]; split <;> rfl
  | stimOverload => simp only [exec, execStimOverload, stands]; split <;> rfl

/-- Settles O23: the length of the level decides, and what begins then leaves every block but the pins' standing. -/
theorem pinResetStopsTheEngines : Obligations.PinResetStopsTheEngines := by
  unfold Obligations.PinResetStopsTheEngines
  intro begun
  have begins (s : State) : begun s (s.beginReset.setPins { s.pins with resetLow := true }) := beginReset_begun s
  refine ⟨fun s low high => ⟨fun short => ?_, fun long => ?_, fun above below => ?_⟩, fun s lasts => ?_⟩
  · change Host.Outcome.next (if s.pins.resetLow then s else s.assertReset low) = _
    simp [high, State.assertReset, State.takesReset, short, State.countFree, show ¬100 ≤ low by omega]
  · refine ⟨_, ?_, begins s⟩
    change Host.Outcome.next (if s.pins.resetLow then s else s.assertReset low) = _
    simp [high, State.assertReset, State.takesReset, State.countFree, show ¬low < 100 by omega,
      show ¬low < 1000 by omega]
  · refine ⟨s.assertReset low, ?_, ?_⟩
    · change Host.Outcome.next (if s.pins.resetLow then s else s.assertReset low) = _
      rw [high]
      rfl
    · have counted : s.countFree (decide (100 ≤ low ∧ low < 1000)) = { s with freeReads := s.freeReads + 1 } := by
        simp [State.countFree, above, below]
      rw [State.assertReset, counted]
      split
      · exact .inr (begins { s with freeReads := s.freeReads + 1 })
      · exact .inl rfl
  · obtain ⟨attn, miso, refStim, stations⟩ := outputs_in_reset lasts
    have stands {t : State} (same : t.pins.resetLow = s.pins.resetLow ∧ t.pins.por = s.pins.por) (p : Bool)
        (act : State → State) : t.whenever p act = t := by
      have lasts' : t.inReset = true := by rw [State.inReset, same.1, same.2]; exact lasts
      rw [State.whenever, if_pos lasts']
    refine ⟨attn, miso, refStim, stations, fun echo => ⟨?_, ?_⟩, fun level echo stood long => ⟨?_, ?_⟩,
      fun level echo stood short => ⟨?_, ?_⟩, fun c => ?_⟩
    · change Host.Outcome.next s.startTransaction = _
      unfold State.startTransaction
      cases select : s.pins.csLow
      · simp [lasts, State.setPins]
      · simp [← select]
    · change Host.Outcome.next (if s.inReset || !s.pins.csLow then s.releaseSelect else _) = _
      rw [lasts, Bool.true_or, if_pos rfl, State.releaseSelect]
      cases select : s.pins.csLow
      · simp [← select]
      · simp [lasts, State.setPins]
    · change Host.Outcome.next (State.whenever (s.synchronise _ stood _) true _) = _
      rw [synchronise_long _ _ long (by rintro rfl; rfl)]
      refine congrArg Host.Outcome.next (stands ?_ _ _)
      exact ⟨rfl, rfl⟩
    · change Host.Outcome.next (State.whenever (s.synchronise _ stood _) true _) = _
      rw [synchronise_long _ _ long (by rintro rfl; rfl)]
      refine congrArg Host.Outcome.next (stands ?_ _ _)
      exact ⟨rfl, rfl⟩
    · change Host.Outcome.next (State.whenever (s.synchronise _ stood _) true _) = _
      rw [synchronise_short _ _ short, stands ⟨rfl, rfl⟩]
    · change Host.Outcome.next (State.whenever (s.synchronise _ stood _) true _) = _
      rw [synchronise_short _ _ short, stands ⟨rfl, rfl⟩]
    · have quiet := exec_in_reset lasts c
      split <;> first | trivial | exact quiet (by simp_all [actsInReset])

end

end Sys2Proof.Machine
end

section
/-! Card ends, the sweep's visits, and intake up to the Pending List (02 R27 to R36). -/

namespace Sys2Proof.Machine

section
variable {s t : State} {k : CardId}

/-! ## The end of a card (02 R27) -/

theorem raiseIf_cardEnd (s : State) (notify : Bool) :
    s.raiseIf notify causeCardEnd = { s with regs := s.regs.cardEnded notify } := by
  cases notify <;> rfl

theorem finishCard_frame (s : State) (k : CardId) (status : Byte) (notify : Bool) :
    s.finishCard k status notify = { s with
      mem := (s.finishCard k status notify).mem, regs := s.regs.cardEnded notify } := by
  rw [State.finishCard, raiseIf_cardEnd]
  rfl

theorem finishCard_wf (wf : Memory.wf s.mem = true) (k : CardId) (status : Byte) (notify : Bool) :
    Memory.wf (s.finishCard k status notify).mem = true := by
  rw [State.finishCard, State.mem_raiseIf]
  exact State.wf_put _ _ (State.wf_put _ _ wf)

/-- Cycle stamp and status are all that is written. -/
theorem finishCard_byte (wf : Memory.wf s.mem = true) (k : CardId) (status : Byte) (notify : Bool) (a : Nat) :
    (s.finishCard k status notify).byte a =
      if a = cardBase k then status
      else if cardBase k + 0x1E ≤ a ∧ a < cardBase k + 0x22 then
        (longBytes s.tracker.cycles).getD (a - (cardBase k + 0x1E)) 0
      else s.byte a := by
  rw [State.finishCard, State.byte_raiseIf, put_one (State.wf_put _ _ wf), State.byte_put_getD wf, longBytes_length]
  rfl

theorem finishCard_stamp (wf : Memory.wf s.mem = true) (k : CardId) (status : Byte) (notify : Bool) :
    (s.finishCard k status notify).long (cardBase k + 0x1E) = s.tracker.cycles := by
  refine State.long_of_bytes fun i hi => ?_
  rw [finishCard_byte wf, if_neg (by omega), if_pos (by omega), Nat.add_sub_cancel_left, List.getD_eq_getElem _ _ hi]

theorem endCard_frame (s : State) (k : CardId) (status : Byte) (err : ErrorCode) (notify : Bool) :
    s.endCard k status err notify = { s with
      mem := (s.endCard k status err notify).mem, regs := s.regs.cardEnded notify } :=
  finishCard_frame (s.put _ _) k status notify

theorem endCard_wf (wf : Memory.wf s.mem = true) (k : CardId) (status : Byte) (err : ErrorCode) (notify : Bool) :
    Memory.wf (s.endCard k status err notify).mem = true := finishCard_wf (State.wf_put _ _ wf) k status notify

theorem endCard_byte (wf : Memory.wf s.mem = true) (k : CardId) (status : Byte) (err : ErrorCode) (notify : Bool)
    (a : Nat) :
    (s.endCard k status err notify).byte a =
      if a = cardBase k then status
      else if cardBase k + 0x1E ≤ a ∧ a < cardBase k + 0x22 then
        (longBytes s.tracker.cycles).getD (a - (cardBase k + 0x1E)) 0
      else if a = cardBase k + 0x10 then err.code
      else s.byte a := by
  rw [State.endCard, finishCard_byte (State.wf_put _ _ wf), put_one wf]
  rfl

theorem endCard_stamp (wf : Memory.wf s.mem = true) (k : CardId) (status : Byte) (err : ErrorCode) (notify : Bool) :
    (s.endCard k status err notify).long (cardBase k + 0x1E) = s.tracker.cycles :=
  finishCard_stamp (State.wf_put _ _ wf) k status notify

theorem endBlank_frame (s : State) (k : CardId) (status : Byte) (err : ErrorCode) :
    s.endBlank k status err = { s with
      mem := (s.endBlank k status err).mem, regs := s.regs.cardEnded (s.cardNotify k) } := by
  obtain ⟨m, blank⟩ : ∃ m, s.blankCard k = { s with mem := m } := ⟨_, rfl⟩
  unfold State.endBlank
  rw [blank]
  exact endCard_frame { s with mem := m } k status err (s.cardNotify k)

theorem endBlank_outside (wf : Memory.wf s.mem = true) (k : CardId) (status : Byte) (err : ErrorCode) {a : Nat}
    (outside : outsideResult k a) : (s.endBlank k status err).byte a = s.byte a := by
  unfold outsideResult at outside
  rw [State.endBlank, endCard_byte (blankCard_wf wf k), blankCard_byte wf]
  rw [if_neg (by omega), if_neg (by omega), if_neg (by omega), if_neg (by omega)]

theorem endBlank_ends (wf : Memory.wf s.mem = true) (k : CardId) (status : Byte) (err : ErrorCode) :
    s.endsBlank (s.endBlank k status err) k status err := by
  have byte (a : Nat) := endCard_byte (blankCard_wf wf k) k status err (s.cardNotify k) a
  have stamp := endCard_stamp (blankCard_wf wf k) k status err (s.cardNotify k)
  refine ⟨(byte _).trans (if_pos rfl), ?_, ?_, ?_, stamp, fun o low high ne ne' apart => ?_⟩
  · rw [State.endBlank, byte, if_neg (by omega), if_neg (by omega), if_pos rfl]
  · rw [State.endBlank, byte, blankCard_byte wf, if_neg (by omega), if_neg (by omega), if_neg (by omega), if_pos (by omega),
      if_pos (.inl rfl)]
    rfl
  · rw [State.endBlank, byte, blankCard_byte wf, if_neg (by omega), if_neg (by omega), if_neg (by omega), if_pos (by omega),
      if_pos (.inr rfl)]
    rfl
  · rw [State.endBlank, byte, blankCard_byte wf, if_neg (by omega), if_neg (by omega), if_neg (by omega), if_pos (by omega),
      if_neg (by omega)]

/-! ## The sweep (02 R29 to R32, R36) -/

theorem nextVisit_eq (s : State) (k : CardId) :
    s.nextVisit k = { s with sweeper := s.sweeper.visited k s.regs.enable } := by
  unfold State.nextVisit Sweeper.visited
  by_cases last : s.sweeper.ending = true ∨ k = 31
  · rw [if_pos (by simpa using last), if_pos last]
    rfl
  · rw [if_neg (by simpa using last), if_neg last]
    rfl

theorem Registers.cardEnded_enable (r : Registers) (notify : Bool) : (r.cardEnded notify).enable = r.enable := by
  cases notify <;> rfl

/-- A card that has ended in the sweeper's burst, with its visit. -/
theorem endBlank_visit (wf : Memory.wf s.mem = true) (k : CardId) (status : Byte) (err : ErrorCode) :
    let t := (s.endBlank k status err).nextVisit k
    t = { s with
      sweeper := s.sweeper.visited k s.regs.enable, mem := t.mem, regs := s.regs.cardEnded (s.cardNotify k) } ∧
    s.endsBlank t k status err ∧ ∀ a, outsideResult k a → t.byte a = s.byte a := by
  have ends := endBlank_ends wf k status err
  have outside (a : Nat) := endBlank_outside wf k status err (a := a)
  have frame := endBlank_frame s k status err
  rw [nextVisit_eq]
  generalize s.endBlank k status err = t at ends outside frame ⊢
  refine ⟨?_, ends, outside⟩
  have regs : t.regs = s.regs.cardEnded (s.cardNotify k) := by rw [frame]
  have sweeper : t.sweeper = s.sweeper := by rw [frame]
  rw [regs, Registers.cardEnded_enable, sweeper]
  rw [frame]

theorem requestSweep_eq (s : State) :
    s.requestSweep = { s with sweeper := { s.sweeper with
      visit := if s.sweeper.visit = none ∧ s.regs.enable = true then some (.header 0) else s.sweeper.visit
      latch := if s.sweeper.visit = none then s.sweeper.latch else true
      ending := if s.sweeper.visit = none ∧ s.regs.enable = true then false else s.sweeper.ending } } := by
  unfold State.requestSweep
  split <;> rename_i visit
  · by_cases on : s.regs.enable = true <;> simp [visit, on, State.setSweeper]
    rw [← visit]
  · simp [visit, State.setSweeper]

theorem readSweepPeriod_eq (s : State) :
    s.readSweepPeriod = if s.half 0x06 = 0 then .off
      else .counting (clampPeriod (s.half 0x06)) (clampPeriod (s.half 0x06)) := rfl

theorem onList_iff : s.onList k = true ↔ ∃ x ∈ s.waiting, x.card = k := by
  simp [State.onList]

/-- Of the engines the lowest whose place holds the card. -/
theorem engineOfCard_eq (s : State) (k : CardId) :
    s.engineOfCard k = allEngines.find? fun e => decide ((s.engine e).job.map (·.card) = some k) := by
  unfold State.engineOfCard
  congr 1
  funext e
  cases (s.engine e).job <;> simp

theorem engineOfCard_eq_none : s.engineOfCard k = none ↔ ∀ e, (s.engine e).job.map (·.card) ≠ some k := by
  simp [engineOfCard_eq, List.find?_eq_none, mem_allEngines]

/-- The card is stray: TAKEN and not on the list, or RUNNING on no engine (02 R32). -/
def State.stray (s : State) (k : CardId) : Prop :=
  (s.cardStatus k = 0x02 ∧ ∀ x ∈ s.waiting, x.card ≠ k) ∨
    (s.cardStatus k = 0x03 ∧ ∀ e, (s.engine e).job.map (·.card) ≠ some k)

theorem stray_iff : s.stray k ↔
    ((decide (s.cardStatus k = statusTaken) && !s.onList k) ||
      (decide (s.cardStatus k = statusRunning) && (s.engineOfCard k).isNone)) = true := by
  rw [Bool.or_eq_true, Bool.and_eq_true, Bool.and_eq_true, decide_eq_true_iff, decide_eq_true_iff, Option.isNone_iff_eq_none,
    engineOfCard_eq_none, Bool.not_eq_true', ← Bool.not_eq_true, onList_iff]
  unfold State.stray
  push Not
  rfl

/-- Settles O29: the timer's expiry, and a visit by the status that the header read finds. -/
theorem sweepTimerAndVisits : Obligations.SweepTimerAndVisits := by
  refine ⟨fun s period left running timer => ?_, fun s k running visit => ?_, fun s k wf running visit => ?_⟩
  · change execSweepTimerExpiry s = _
    simp only [execSweepTimerExpiry, timer, State.whenever, running, Bool.false_eq_true, if_false, if_true,
      State.expireSweepTimer, requestSweep_eq, readSweepPeriod_eq, Bool.and_eq_true]
    rfl
  · have visited : exec .cardVisit s = .next (s.visitCard k) := by
      change execCardVisit s = _
      simp [execCardVisit, visit, State.whenever, running]
    refine ⟨fun touched => ?_, fun clear posted => ?_, fun clear strays => ?_, fun clear notPosted notStray => ?_⟩
    · rw [visited, State.visitCard, if_pos touched, nextVisit_eq]
    · rw [visited, State.visitCard, if_neg (by simp [clear]), if_pos (show _ = statusPosted from posted)]
      rfl
    · have notPosted : s.cardStatus k ≠ statusPosted := by
        obtain ⟨status, _⟩ | ⟨status, _⟩ := strays <;> rw [status] <;> decide
      rw [visited, State.visitCard, if_neg (by simp [clear]), if_neg notPosted, if_pos (stray_iff.mp strays)]
      rfl
    · rw [visited, State.visitCard, if_neg (by simp [clear]), if_neg (show _ ≠ statusPosted from notPosted), if_neg (mt stray_iff.mpr notStray),
        nextVisit_eq]
  · refine ⟨s.endStray k, ?_, endBlank_visit wf k statusFailed .badStatus⟩
    change execCardVisit s = _
    simp [execCardVisit, visit, State.whenever, running]

end

end Sys2Proof.Machine
end

section
/-! Intake: the checks, a card taken onto the list, and the cards a station notice ends (02 R33 to R35, R41). -/

namespace Sys2Proof.Machine

section
variable {s t : State} {k : CardId} {n : StationId}

/-! ## The roster (02 R34, 03 R49) -/

theorem Setup.activeAt_iff (c : Setup) (p : SlotId) :
    c.activeAt p = true ↔ p.val < c.rosterCount.val ∧ ∀ q : SlotId, q < p → c.roster[q.val] ≠ c.roster[p.val] := by
  simp only [Setup.activeAt, Bool.and_eq_true, decide_eq_true_iff, List.all_eq_true, mem_allSlots, true_implies,
    Bool.not_eq_true', Bool.and_eq_false_imp, beq_eq_false_iff_ne]

theorem Setup.mem_activeSlots (c : Setup) (p : SlotId) : p ∈ c.activeSlots ↔ c.activeAt p = true := by
  simp [Setup.activeSlots, mem_allSlots]

/-- A tag address names one active position at most. -/
theorem Setup.positionOf_eq_some (c : Setup) {tag : Byte} {p : SlotId} (active : c.activeAt p = true)
    (address : c.roster[p.val].setWidth 8 = tag) : c.positionOf tag = some p := by
  cases found : c.positionOf tag with
  | none => exact absurd address (by simpa using List.find?_eq_none.mp found p ((c.mem_activeSlots p).mpr active))
  | some q =>
    have matched : c.roster[q.val].setWidth 8 = tag := by simpa using List.find?_some found
    have activeQ := (c.mem_activeSlots q).mp (List.mem_of_find?_eq_some found)
    have same : c.roster[q.val] = c.roster[p.val] := by
      have eq := congrArg BitVec.toNat (matched.trans address.symm)
      rw [BitVec.toNat_setWidth, BitVec.toNat_setWidth, Nat.mod_eq_of_lt (by omega), Nat.mod_eq_of_lt (by omega)] at eq
      exact BitVec.eq_of_toNat_eq eq
    obtain ⟨_, firstP⟩ := (c.activeAt_iff p).mp active
    obtain ⟨_, firstQ⟩ := (c.activeAt_iff q).mp activeQ
    rcases lt_trichotomy q p with lower | rfl | upper
    · exact absurd same (firstP q lower)
    · rfl
    · exact absurd same.symm (firstQ p upper)

theorem Setup.positionOf_eq_none (c : Setup) {tag : Byte}
    (none : ∀ p : SlotId, c.activeAt p = true → c.roster[p.val].setWidth 8 ≠ tag) : c.positionOf tag = Option.none :=
  List.find?_eq_none.mpr fun p hp => by simpa using none p ((c.mem_activeSlots p).mp hp)

theorem matchesTag_iff {tag : Byte} : (s.station n).setup.matchesTag tag = true ↔ s.rosterHas n tag := by
  rw [Setup.matchesTag, Option.isSome_iff_ne_none]
  constructor
  · intro found
    obtain ⟨p, position⟩ := Option.ne_none_iff_exists'.mp found
    have active := (Setup.activeAt_iff _ p).mp ((Setup.mem_activeSlots _ p).mp (List.mem_of_find?_eq_some position))
    obtain ⟨below, first⟩ := active
    exact ⟨p, below, first, by simpa using List.find?_some position⟩
  · rintro ⟨p, below, first, address⟩
    rw [Setup.positionOf_eq_some _ ((Setup.activeAt_iff _ p).mpr ⟨below, first⟩) address]
    simp

/-! ## The checks of intake (02 R34) -/

/-- The kinds a card may ask for (02 R22). -/
theorem isEngineKind_iff {b : Byte} : isEngineKind b = true ↔ b ∈ ([0x01, 0x02, 0x03] : List Byte) := by
  simp only [isEngineKind, Bool.or_eq_true, decide_eq_true_iff, List.mem_cons, List.not_mem_nil, or_false, or_assoc]
  rfl

theorem isFastKind_iff {b : Byte} : isFastKind b = true ↔ b ∈ ([0x10, 0x11] : List Byte) := by
  simp only [isFastKind, Bool.or_eq_true, decide_eq_true_iff, List.mem_cons, List.not_mem_nil, or_false]
  rfl

theorem knownKind_iff {b : Byte} : (isEngineKind b || isFastKind b) = true ↔
    b ∈ ([0x01, 0x02, 0x03, 0x10, 0x11] : List Byte) := by
  rw [Bool.or_eq_true, isEngineKind_iff, isFastKind_iff]
  simp [or_assoc]

theorem not_isFastKind_of_engine {b : Byte} (h : b ∈ ([0x01, 0x02, 0x03] : List Byte)) : isFastKind b = false := by
  simp only [List.mem_cons, List.not_mem_nil, or_false] at h
  obtain rfl | rfl | rfl := h <;> decide

theorem stationOf_eq_some {b : Byte} (h : b.toNat = n.val) : stationOf b = some n := by
  rw [stationOf, dif_pos (by omega)]
  exact congrArg some (Fin.ext h)

section
variable {h : Header}

theorem validate_badKind (unknown : h.kind ∉ ([0x01, 0x02, 0x03, 0x10, 0x11] : List Byte)) :
    s.validate h = .error .badKind := by
  rw [State.validate, if_pos (by rw [Bool.not_eq_true', ← Bool.not_eq_true]; exact mt knownKind_iff.mp unknown)]

theorem validate_known (known : h.kind ∈ ([0x01, 0x02, 0x03, 0x10, 0x11] : List Byte)) :
    s.validate h = match stationOf h.station with
      | none => .error .badStation
      | some n =>
        let t := s.station n
        if !t.setup.enabled then .error .stationOff
        else if isFastKind h.kind then .ok n
        else if t.fault then .error .stationFault
        else if !t.present then .error .notFitted
        else if !t.setup.matchesTag h.tagAddress then .error .notInRoster
        else .ok n := by
  unfold State.validate
  exact if_neg (by rw [Bool.not_eq_true', ← Bool.not_eq_true, not_not]; exact knownKind_iff.mpr known)

theorem validate_badStation (known : h.kind ∈ ([0x01, 0x02, 0x03, 0x10, 0x11] : List Byte))
    (none : 12 ≤ h.station.toNat) : s.validate h = .error .badStation := by
  rw [validate_known known, stationOf, dif_neg (by omega)]

theorem validate_off (known : h.kind ∈ ([0x01, 0x02, 0x03, 0x10, 0x11] : List Byte)) (at_ : h.station.toNat = n.val)
    (off : (s.station n).setup.enabled = false) : s.validate h = .error .stationOff := by
  simp [validate_known known, stationOf_eq_some at_, off]

theorem validate_fast (fast : h.kind ∈ ([0x10, 0x11] : List Byte)) (at_ : h.station.toNat = n.val)
    (on : (s.station n).setup.enabled = true) : s.validate h = .ok n := by
  have known : h.kind ∈ ([0x01, 0x02, 0x03, 0x10, 0x11] : List Byte) := by
    simp only [List.mem_cons, List.not_mem_nil, or_false] at fast ⊢
    exact .inr (.inr (.inr fast))
  simp [validate_known known, stationOf_eq_some at_, on, isFastKind_iff.mpr fast]

/-- The checks of an engine kind. -/
theorem validate_engine (kind : h.kind ∈ ([0x01, 0x02, 0x03] : List Byte)) (at_ : h.station.toNat = n.val)
    (on : (s.station n).setup.enabled = true) :
    s.validate h = if (s.station n).fault then .error .stationFault
      else if !(s.station n).present then .error .notFitted
      else if !(s.station n).setup.matchesTag h.tagAddress then .error .notInRoster else .ok n := by
  have known : h.kind ∈ ([0x01, 0x02, 0x03, 0x10, 0x11] : List Byte) := by
    simp only [List.mem_cons, List.not_mem_nil, or_false] at kind ⊢
    exact kind.imp_right (Or.imp_right .inl)
  simp [validate_known known, stationOf_eq_some at_, on, not_isFastKind_of_engine kind]

end

/-! ## A visit's intake (02 R33) -/

theorem exec_cardIntake {bytes : List Byte} (running : s.inReset = false)
    (visit : s.sweeper.visit = some (.intake k bytes)) (echo : Levels) :
    exec (.cardIntake echo) s = .next ((s.sampleEcho echo).intakeVisit k bytes) := by
  change execCardIntake echo s = _
  simp [execCardIntake, visit, State.whenever, running]

theorem intakeVisit_unchanged {bytes : List Byte} (clear : s.port.touched[k.val] = false)
    (same : s.bytes (cardBase k) 14 = bytes) : s.intakeVisit k bytes = (s.intakeCard k).nextVisit k := by
  have header : s.headerBytes k = bytes := same
  simp [State.intakeVisit, clear, header]

theorem intakeCard_cancelled (cancel : s.byte (cardBase k + 0x01) ≠ 0) :
    s.intakeCard k = s.endBlank k statusCancelled .none := by
  rw [State.intakeCard, if_pos (show s.byte (cardBase k + cdCancel) ≠ 0 from cancel)]

theorem intakeCard_checked (noCancel : s.byte (cardBase k + 0x01) = 0) :
    s.intakeCard k =
      match s.validate (s.readHeader k) with
      | .error err => s.endBlank k statusFailed err
      | .ok n =>
        if s.byte (cardBase k + 0x02) = kindClearFault then s.intakeClearFault k n
        else if s.byte (cardBase k + 0x02) = kindForget then s.intakeForget k n
        else s.takeCard k (s.readHeader k) n := by
  rw [State.intakeCard, if_neg (show ¬s.byte (cardBase k + cdCancel) ≠ 0 from not_not.mpr noCancel)]
  rfl

/-- Settles O30: the visit leaves a changed card, and the first check that fails names the error. -/
theorem intakeEndsOrLeavesTheCard : Obligations.IntakeEndsOrLeavesTheCard := by
  refine ⟨fun s k bytes echo running visit changed => ?_, fun s k bytes echo wf running visit clear same => ?_⟩
  · rw [exec_cardIntake running visit, State.intakeVisit, if_pos, nextVisit_eq]
    · rfl
    · obtain touched | header := changed
      · simp [State.sampleEcho, touched]
      · rw [Bool.or_eq_true, decide_eq_true_iff]
        exact .inr header
  · have ended (status : Byte) (err : ErrorCode)
        (card : (s.sampleEcho echo).intakeCard k = (s.sampleEcho echo).endBlank k status err) :
        ∃ t, exec (.cardIntake echo) s = .next t ∧
          t = { s with
            pins := { s.pins with echo := echo }, sweeper := s.sweeper.visited k s.regs.enable, mem := t.mem
            regs := s.regs.cardEnded (s.cardNotify k) } ∧
          s.endsBlank t k status err ∧ ∀ a, outsideResult k a → t.byte a = s.byte a := by
      have intake : (s.sampleEcho echo).intakeVisit k bytes = ((s.sampleEcho echo).intakeCard k).nextVisit k :=
        intakeVisit_unchanged (s := s.sampleEcho echo) clear same
      rw [exec_cardIntake running visit, intake, card]
      exact ⟨_, rfl, endBlank_visit (s := s.sampleEcho echo) wf k status err⟩
    refine ⟨fun cancel => ended _ _ (intakeCard_cancelled (s := s.sampleEcho echo) cancel), fun noCancel => ?_⟩
    have failed (err : ErrorCode) (h : (s.sampleEcho echo).validate (s.readHeader k) = .error err) :=
      ended statusFailed err (by
        rw [intakeCard_checked (s := s.sampleEcho echo) noCancel]
        rw [show (s.sampleEcho echo).readHeader k = s.readHeader k from rfl, h])
    refine ⟨fun unknown => failed _ (validate_badKind unknown), fun known => ⟨fun none =>
      failed _ (validate_badStation known none), fun n at_ => ⟨fun off => failed _ (validate_off known at_ off),
      fun on engine => ⟨fun fault => ?_, fun noFault absent => ?_, fun noFault present unlisted => ?_⟩⟩⟩⟩
    all_goals
      have checks := validate_engine (s := s.sampleEcho echo) (h := s.readHeader k) engine at_ on
    · exact failed _ (checks.trans (if_pos fault))
    · refine failed _ (checks.trans ?_)
      rw [show ((s.sampleEcho echo).station n).fault = false from noFault,
        show ((s.sampleEcho echo).station n).present = false from absent]
      rfl
    · refine failed _ (checks.trans ?_)
      have unmatched : (s.station n).setup.matchesTag (s.readHeader k).tagAddress = false := by
        rw [← Bool.not_eq_true]
        exact mt matchesTag_iff.mp unlisted
      rw [show ((s.sampleEcho echo).station n).fault = false from noFault,
        show ((s.sampleEcho echo).station n).present = true from present,
        show ((s.sampleEcho echo).station n).setup.matchesTag _ = false from unmatched]
      rfl

end

end Sys2Proof.Machine
end

section
/-! A card taken onto the Pending List, the cards a station notice ends, and presence samples (02 R35, R41, 03 R51). -/

namespace Sys2Proof.Machine

section
variable {s t : State} {k : CardId} {n : StationId}

/-! ## A card joins the list (02 R35) -/

theorem priorityOf_eq (b : Byte) : priorityOf b = ⟨min b.toNat 3, by omega⟩ := by
  unfold priorityOf
  split
  · rename_i small
    refine Fin.ext ?_
    dsimp only
    omega
  · refine Fin.ext ?_
    change 3 = min b.toNat 3
    omega

theorem State.byte_congr (mem : t.mem = s.mem) (a : Nat) : t.byte a = s.byte a := by
  rw [State.byte, State.byte, mem]

/-- The card's bytes as intake writes them: a blank result with its intake number, and TAKEN. -/
@[irreducible] def State.takenCard (s : State) (k : CardId) : State :=
  ((s.blankCard k).put (cardBase k + cdIntakeNumber) (halfBytes s.sweeper.counter)).put (cardBase k) [statusTaken]

theorem takenCard_wf (wf : Memory.wf s.mem = true) (k : CardId) : Memory.wf (s.takenCard k).mem = true :=
  by
  unfold State.takenCard
  exact State.wf_put _ _ (State.wf_put _ _ (blankCard_wf wf k))

theorem takenCard_byte (wf : Memory.wf s.mem = true) (k : CardId) (a : Nat) :
    (s.takenCard k).byte a =
      if a = cardBase k then statusTaken
      else if cardBase k + 0x14 ≤ a ∧ a < cardBase k + 0x16 then
        (halfBytes s.sweeper.counter).getD (a - (cardBase k + 0x14)) 0
      else (s.blankCard k).byte a := by
  unfold State.takenCard cdIntakeNumber
  rw [put_one (State.wf_put _ _ (blankCard_wf wf k)), State.byte_put_getD (blankCard_wf wf k), halfBytes_length]

/-- The state that the allocator finds after a card has been taken. -/
def State.listed (s : State) (k : CardId) (h : Header) (n : StationId) : State :=
  { s with
    mem := (s.takenCard k).mem, sweeper := { s.sweeper with counter := s.sweeper.counter + 1 }
    waiting := s.waiting ++ [{ card := k, priority := priorityOf h.priority, station := n }] }

theorem takeCard_eq (s : State) (k : CardId) (h : Header) (n : StationId) :
    s.takeCard k h n = (s.listed k h n).allocate := by
  simp only [State.takeCard, State.listed, State.takenCard, State.blankCard, State.put, State.setSweeper, State.setWaiting]

theorem listed_byte (s : State) (k : CardId) (h : Header) (n : StationId) (a : Nat) :
    (s.listed k h n).byte a = (s.takenCard k).byte a := State.byte_congr rfl a

/-- What a card taken onto the list holds. -/
theorem listed_card (wf : Memory.wf s.mem = true) (k : CardId) (h : Header) (n : StationId) :
    let t := s.listed k h n
    t.cardStatus k = 0x02 ∧ t.half (cardBase k + 0x14) = s.sweeper.counter ∧
    t.byte (cardBase k + 0x16) = 0xFF ∧ t.byte (cardBase k + 0x17) = 0xFF ∧
    (∀ o, 0x10 ≤ o → o < 0x40 → (o < 0x14 ∨ 0x18 ≤ o) → t.byte (cardBase k + o) = 0x00) ∧
    ∀ a, outsideResult k a → t.byte a = s.byte a := by
  have byte (a : Nat) : (s.listed k h n).byte a = _ := (listed_byte s k h n a).trans (takenCard_byte wf k a)
  refine ⟨(byte _).trans (if_pos rfl), State.half_of_bytes ?_ ?_, ?_, ?_, fun o low high apart => ?_, fun a outside => ?_⟩
  · rw [byte, if_neg (by omega), if_pos (by omega), Nat.sub_self]
    rfl
  · rw [byte, if_neg (by omega), if_pos (by omega), show cardBase k + 0x14 + 1 - (cardBase k + 0x14) = 1 by omega]
    rfl
  · rw [byte, blankCard_byte wf, if_neg (by omega), if_neg (by omega), if_pos (by omega), if_pos (.inl rfl)]
    rfl
  · rw [byte, blankCard_byte wf, if_neg (by omega), if_neg (by omega), if_pos (by omega), if_pos (.inr rfl)]
    rfl
  · rw [byte, blankCard_byte wf, if_neg (by omega), if_neg (by omega), if_pos (by omega), if_neg (by omega)]
  · unfold outsideResult at outside
    rw [byte, blankCard_byte wf, if_neg (by omega), if_neg (by omega), if_neg (by omega)]

theorem freeEngine_eq_none : s.freeEngine = none ↔ ∀ e, (s.engine e).job ≠ none := by
  simp only [State.freeEngine, List.find?_eq_none, Option.isNone_iff_eq_none, mem_allEngines, true_implies]

theorem allocate_none (none : s.regs.enable = false ∨ ∀ e, (s.engine e).job ≠ Option.none) : s.allocate = s := by
  unfold State.allocate
  split_ifs with on
  · have busy := freeEngine_eq_none.mpr (none.resolve_left (by simp [on]))
    rw [State.grantAll, busy]
  · rfl

/-- A valid card of an engine kind, whose intake reaches the list. -/
theorem intakeCard_valid (noCancel : s.byte (cardBase k + 0x01) = 0)
    (engine : s.byte (cardBase k + 0x02) ∈ ([0x01, 0x02, 0x03] : List Byte))
    (at_ : (s.byte (cardBase k + 0x04)).toNat = n.val) (on : (s.station n).setup.enabled = true)
    (noFault : (s.station n).fault = false) (present : (s.station n).present = true)
    (listed : s.rosterHas n (s.byte (cardBase k + 0x05))) :
    s.intakeCard k = (s.listed k (s.readHeader k) n).allocate := by
  have valid : s.validate (s.readHeader k) = .ok n := by
    have matched : (s.station n).setup.matchesTag (s.readHeader k).tagAddress = true := matchesTag_iff.mpr listed
    rw [validate_engine (h := s.readHeader k) engine at_ on, noFault, present, matched]
    rfl
  have notFast (b : Byte) (h : b = kindClearFault ∨ b = kindForget) : s.byte (cardBase k + 0x02) ≠ b := by
    rintro eq
    rw [eq] at engine
    obtain rfl | rfl := h <;> revert engine <;> decide
  rw [intakeCard_checked noCancel, valid]
  dsimp only
  rw [if_neg (notFast _ (.inl rfl)), if_neg (notFast _ (.inr rfl)), takeCard_eq]

/-- Settles O31: the burst of intake, with the allocator idle. -/
theorem intakeTakesAValidCard : Obligations.IntakeTakesAValidCard := by
  intro s k n bytes echo wf running visit clear same noCancel engine at_ on noFault present listed idle
  let u := s.sampleEcho echo
  have intake : u.intakeVisit k bytes = (u.intakeCard k).nextVisit k := intakeVisit_unchanged (s := u) clear same
  have card : u.intakeCard k = u.listed k (u.readHeader k) n := by
    rw [intakeCard_valid (s := u) noCancel engine at_ on noFault present listed]
    exact allocate_none idle
  obtain ⟨status, number, engineByte, index, rest, outside⟩ := listed_card (s := u) wf k (u.readHeader k) n
  rw [exec_cardIntake running visit, intake, card, nextVisit_eq]
  refine ⟨_, rfl, ?_, status, number, engineByte, index, rest, outside⟩
  unfold State.listed
  rw [priorityOf_eq]
  rfl

/-! ## A notice to the list (02 R41) -/

/-- The entries that a notice takes out. -/
def State.leaves (s : State) (m : Notice) (x : Entry) : Prop :=
  x.station = m.station ∧ (m.event = .rosterChanged → ¬s.rosterHas m.station (s.byte (cardBase x.card + 0x05)))

theorem affected_iff {m : Notice} {x : Entry} : s.affected m x = true ↔ s.leaves m x := by
  unfold State.affected State.leaves
  rw [Bool.and_eq_true, decide_eq_true_iff]
  refine and_congr_right fun _ => ?_
  rcases m with ⟨station, event⟩
  cases event
  case rosterChanged =>
    simp only [true_implies, Bool.not_eq_true', ← matchesTag_iff, Bool.not_eq_true]
    rfl
  all_goals simp

/-- What ending the cards of some entries keeps. -/
structure Failing (s u : State) : Prop where
  wf : Memory.wf u.mem = true
  frame : u = { s with waiting := u.waiting, mem := u.mem, regs := { s.regs with causes := u.regs.causes } }
  flags : ∀ k, u.cardNotify k = s.cardNotify k

theorem failEntry_byte (wf : Memory.wf s.mem = true) (err : ErrorCode) (x : Entry) (a : Nat) :
    (s.failEntry err x).byte a =
      if a = cardBase x.card then statusFailed
      else if cardBase x.card + 0x1E ≤ a ∧ a < cardBase x.card + 0x22 then
        (longBytes s.tracker.cycles).getD (a - (cardBase x.card + 0x1E)) 0
      else if a = cardBase x.card + 0x10 then err.code
      else s.byte a :=
  endCard_byte (s := s.setWaiting (s.waiting.erase x)) wf x.card statusFailed err (s.cardNotify x.card) a

theorem failEntry_frame (s : State) (err : ErrorCode) (x : Entry) :
    s.failEntry err x = { s with
      waiting := s.waiting.erase x, mem := (s.failEntry err x).mem, regs := s.regs.cardEnded (s.cardNotify x.card) } :=
  endCard_frame (s.setWaiting (s.waiting.erase x)) x.card statusFailed err (s.cardNotify x.card)

theorem Registers.cardEnded_rest (r : Registers) (notify : Bool) :
    r.cardEnded notify = { r with causes := if notify = true then r.causes ||| 1 else r.causes } := by
  cases notify <;> rfl

theorem failEntry_of_card (wf : Memory.wf s.mem = true) (err : ErrorCode) (x : Entry) (k : CardId) {o : Nat}
    (small : o < 0x40) :
    (s.failEntry err x).byte (cardBase k + o) =
      if x.card = k then
        if o = 0 then statusFailed
        else if 0x1E ≤ o ∧ o < 0x22 then (longBytes s.tracker.cycles).getD (o - 0x1E) 0
        else if o = 0x10 then err.code
        else s.byte (cardBase k + o)
      else s.byte (cardBase k + o) := by
  rw [failEntry_byte wf]
  by_cases own : x.card = k
  · rw [if_pos own, own]
    simp only [Nat.add_eq_left, Nat.add_le_add_iff_left, Nat.add_lt_add_iff_left, Nat.add_sub_add_left, Nat.add_left_cancel_iff]
  · have apart := Fin.val_ne_of_ne own
    unfold cardBase
    rw [if_neg own, if_neg (by omega), if_neg (by omega), if_neg (by omega)]

theorem Failing.step {u : State} (h : Failing s u) (err : ErrorCode) (x : Entry) : Failing s (u.failEntry err x) := by
  refine ⟨endCard_wf (s := u.setWaiting (u.waiting.erase x)) h.wf _ _ _ _, ?_, fun k => ?_⟩
  · rw [failEntry_frame, Registers.cardEnded_rest]
    have frame := h.frame
    generalize (u.failEntry err x).mem = m
    rw [frame]
  · rw [← h.flags k, State.cardNotify, State.cardNotify, failEntry_of_card h.wf _ _ _ (by decide)]
    exact congrArg (fun b : Byte => b.getLsbD 1) (ite_self _)

theorem Failing.tracker {u : State} (h : Failing s u) : u.tracker = s.tracker := by rw [h.frame]

theorem failEntry_waiting (s : State) (err : ErrorCode) (x : Entry) :
    (s.failEntry err x).waiting = s.waiting.erase x := by rw [failEntry_frame]

theorem failEntries_waiting (err : ErrorCode) (xs : List Entry) (s : State) :
    (forAll xs (fun x t => t.failEntry err x) s).waiting = s.waiting.diff xs := by
  induction xs generalizing s with
  | nil => simp
  | cons x xs ih => rw [forAll_cons, ih, failEntry_waiting, List.diff_cons]

/-- A list less its own elements with a property. -/
theorem mem_diff_filter {α : Type} [DecidableEq α] {p : α → Bool} {l : List α} {x : α} :
    x ∈ l.diff (l.filter p) ↔ x ∈ l ∧ p x = false := by
  rw [← List.count_pos_iff, List.count_diff, ← List.count_pos_iff (l := l)]
  cases hp : p x
  · rw [List.count_eq_zero_of_not_mem (l := l.filter p) (by simp [hp])]
    simp
  · rw [List.count_filter hp]
    simp

section
variable {err : ErrorCode} {xs : List Entry}

theorem failEntries_failing (wf : Memory.wf s.mem = true) :
    Failing s (forAll xs (fun x t => t.failEntry err x) s) :=
  forAll_invariant (P := Failing s) (fun x _ h => h.step err x) xs ⟨wf, rfl, fun _ => rfl⟩

/-- The card of an entry that leaves has ended. -/
theorem failEntries_ended (wf : Memory.wf s.mem = true) {x : Entry} (mem : x ∈ xs) :
    let t := forAll xs (fun x t => t.failEntry err x) s
    t.cardStatus x.card = statusFailed ∧ t.byte (cardBase x.card + 0x10) = err.code ∧
    t.long (cardBase x.card + 0x1E) = s.tracker.cycles := by
  have written {o : Nat} {v : Byte} (small : o < 0x40)
      (value : ∀ b : Byte, (if o = 0 then statusFailed
        else if 0x1E ≤ o ∧ o < 0x22 then (longBytes s.tracker.cycles).getD (o - 0x1E) 0
        else if o = 0x10 then err.code
        else b) = v) :
      (forAll xs (fun x t => t.failEntry err x) s).byte (cardBase x.card + o) = v := by
    refine (forAll_byte (P := Failing s) (hit := fun y : Entry => y.card = x.card) (fun y _ h => h.step err y)
      (fun y u h => ?_) xs ⟨wf, rfl, fun _ => rfl⟩).trans (if_pos ⟨x, mem, rfl⟩)
    rw [failEntry_of_card h.wf _ _ _ small, h.tracker, value]
  refine ⟨written (o := 0) (by decide) fun _ => rfl, written (by decide) fun _ => rfl, State.long_of_bytes fun i small => ?_⟩
  rw [Nat.add_assoc]
  refine written (by omega) fun _ => ?_
  rw [if_neg (by omega), if_pos (by omega), Nat.add_sub_cancel_left, List.getD_eq_getElem _ _ (by rwa [longBytes_length])]
  rfl

theorem failEntries_outside (wf : Memory.wf s.mem = true) {a : Nat}
    (outside : ∀ x ∈ xs, a ≠ cardBase x.card ∧ a ≠ cardBase x.card + 0x10 ∧
      (a < cardBase x.card + 0x1E ∨ cardBase x.card + 0x22 ≤ a)) :
    (forAll xs (fun x t => t.failEntry err x) s).byte a = s.byte a := by
  induction xs generalizing s with
  | nil => rfl
  | cons x xs ih =>
    obtain ⟨status, code, stamp⟩ := outside x List.mem_cons_self
    have next : Failing s (s.failEntry err x) := Failing.step ⟨wf, rfl, fun _ => rfl⟩ err x
    rw [forAll_cons, ih next.wf fun y hy => outside y (List.mem_cons_of_mem x hy), failEntry_byte wf, if_neg status,
      if_neg (by omega), if_neg code]

theorem failEntries_causes (wf : Memory.wf s.mem = true) :
    (forAll xs (fun x t => t.failEntry err x) s).regs.causes =
      if ∃ x ∈ xs, s.cardNotify x.card = true then s.regs.causes ||| 1 else s.regs.causes := by
  refine forAll_causes (P := Failing s) (hit := fun x : Entry => s.cardNotify x.card = true) (fun x _ h => h.step err x)
    (fun x u h => ?_) xs ⟨wf, rfl, fun _ => rfl⟩
  rw [failEntry_frame, Registers.cardEnded_rest, h.flags]

end

/-- Settles O34: the affected entries leave in one walk, and each ends its card. -/
theorem noticeEndsPendingCards : Obligations.NoticeEndsPendingCards := by
  intro s m rest wf running first leaves code
  let u := s.setNotices rest
  let xs := u.waiting.filter (u.affected m)
  have done : exec .pendingListNotice s = .next (u.takeNotice m) := by
    change execPendingListNotice s = _
    simp [execPendingListNotice, first, State.whenever, running, u]
  have affected (x : Entry) : u.affected m x = true ↔ leaves x := affected_iff (s := u)
  have mem_xs (x : Entry) : x ∈ xs ↔ x ∈ s.waiting ∧ leaves x := by
    rw [List.mem_filter, affected]
    rfl
  have ended : Failing u (u.takeNotice m) := failEntries_failing wf
  have waiting : (u.takeNotice m).waiting = s.waiting.diff xs := failEntries_waiting _ xs u
  have causes : (u.takeNotice m).regs.causes =
      if ∃ x ∈ xs, s.cardNotify x.card = true then s.regs.causes ||| 1 else s.regs.causes := failEntries_causes wf
  refine ⟨_, done, ended.frame, waiting ▸ List.diff_sublist _ _, fun x => ?_, fun x mem gone => ?_, fun ⟨x, mem, gone, flag⟩ => ?_,
    fun silent => ?_, fun a outside => (failEntries_outside (s := u) (xs := xs) wf fun x mem => ?_)⟩
  · rw [waiting, ← affected x, Bool.not_eq_true]
    exact mem_diff_filter
  · obtain ⟨status, error, stamp⟩ := failEntries_ended (s := u) (err := m.event.error) wf ((mem_xs x).mpr ⟨mem, gone⟩)
    refine ⟨status, error.trans ?_, stamp⟩
    cases h : m.event <;> simp only [code, h] <;> rfl
  · exact causes.trans (if_pos ⟨x, (mem_xs x).mpr ⟨mem, gone⟩, flag⟩)
  · refine causes.trans (if_neg fun ⟨x, mem, flag⟩ => ?_)
    obtain ⟨mem, gone⟩ := (mem_xs x).mp mem
    rw [silent x mem gone] at flag
    exact Bool.noConfusion flag
  · obtain ⟨mem, gone⟩ := (mem_xs x).mp mem
    exact outside x mem gone

/-! ## Presence samples (03 R51) -/

theorem sampleStation_station (filter : Nat) (pres : Levels) (n m : StationId) (s : State) :
    (s.sampleStation filter pres n).station m =
      if m = n then
        if (s.station n).setup.enabled = true then (s.station n).sample filter (!pres.getLsbD n.val) else s.station n
      else s.station m := by
  unfold State.sampleStation
  split_ifs with on own own
  · rw [own, State.station_modStation_self]
  · exact State.station_modStation_other s n m _ own
  · rw [own]
  · rfl

theorem sampleStation_frame (filter : Nat) (pres : Levels) (n : StationId) (s : State) :
    ∃ stations, s.sampleStation filter pres n = { s with stations := stations } := by
  unfold State.sampleStation
  split_ifs
  · exact ⟨_, rfl⟩
  · exact ⟨_, rfl⟩

/-- Settles O35: each station takes its own sample. -/
theorem presenceSampleCounts : Obligations.PresenceSampleCounts := by
  intro s pres running
  let u := s.setPins { s.pins with pres := pres }
  cases taken : s.regs.snapshot with
  | none =>
    refine ⟨u, ?_, rfl, fun _ => rfl, fun snap h => nomatch h⟩
    change execPresenceSample pres s = _
    simp [execPresenceSample, State.whenever, running, u, taken]
  | some snap =>
    let t := forAll allStations (fun n t => t.sampleStation snap.presenceFilter.toNat pres n) u
    have frame : t = { u with stations := t.stations } :=
      forAll_invariant (P := fun v => v = { u with stations := v.stations }) (fun n v h => by
        obtain ⟨stations, eq⟩ := sampleStation_frame snap.presenceFilter.toNat pres n v
        rw [eq, h]) allStations rfl
    have station (n : StationId) : t.station n = _ :=
      (forAll_place State.station (f := fun n x =>
          if x.setup.enabled = true then x.sample snap.presenceFilter.toNat (!pres.getLsbD n.val) else x)
        (fun n m v => sampleStation_station _ pres n m v) allStations_nodup u n).trans (if_pos (mem_allStations n))
    refine ⟨t, ?_, frame, nofun, fun other same n => ?_⟩
    · change execPresenceSample pres s = _
      simp [execPresenceSample, State.whenever, running, u, t, taken]
    · cases same
      refine ⟨fun off => (station n).trans (if_neg (c := (s.station n).setup.enabled = true) (by simp [off])), fun on level => ?_, fun on level => ?_⟩
      · refine (station n).trans ((if_pos on).trans ?_)
        change (s.station n).sample _ _ = _
        rw [Station.sample, level, Bool.not_not, if_pos rfl]
      · refine (station n).trans ((if_pos on).trans ?_)
        change (s.station n).sample _ _ = _
        rw [Station.sample, level, if_neg (Bool.not_ne_self _)]

end

end Sys2Proof.Machine
end

section
/-! What a transaction end passes on: cancels, the shelf-fixed field and the sweep period (01 R13, R14, Table 1-5). -/

namespace Sys2Proof.Machine

section
variable {α : Type} {p : α → Bool} {act : α → State → State}

/-- A walk that marks no element. -/
theorem forAll_when_none {xs : List α} (none : ∀ x ∈ xs, p x = false) (s : State) :
    forAll xs (fun x t => if p x then act x t else t) s = s := by
  induction xs generalizing s with
  | nil => rfl
  | cons x xs ih =>
    rw [forAll_cons, none x List.mem_cons_self, if_neg Bool.false_ne_true]
    exact ih (fun y hy => none y (List.mem_cons_of_mem x hy)) s

/-- A walk that marks one element. -/
theorem forAll_when_one {xs : List α} {k : α} (distinct : xs.Nodup) (mem : k ∈ xs) (here : p k = true)
    (only : ∀ x, x ≠ k → p x = false) (s : State) :
    forAll xs (fun x t => if p x then act x t else t) s = act k s := by
  induction xs generalizing s with
  | nil => exact absurd mem List.not_mem_nil
  | cons x xs ih =>
    obtain ⟨fresh, distinct⟩ := List.nodup_cons.mp distinct
    rw [forAll_cons]
    by_cases own : x = k
    · subst own
      rw [if_pos here]
      exact forAll_when_none (fun y hy => only y fun eq => fresh (eq ▸ hy)) _
    · rw [only x own, if_neg Bool.false_ne_true]
      exact ih distinct ((List.mem_cons.mp mem).resolve_left fun eq => own eq.symm) s

end

section
variable {s t : State} {k : CardId} {n : StationId} {e : EngineId}

theorem afterTransaction_eq (g : Engine) : g.afterTransaction = g.transactionEnded := by
  have on_way : g.cancelOnItsWay = false ↔ ∀ k, g.job.map (·.card) = some k → Stop.cancel k ∉ g.stops := by
    rw [← Bool.not_eq_true, g.cancelOnItsWay_iff]
    cases g.job <;> simp
  unfold Engine.afterTransaction Engine.transactionEnded
  simp only [Bool.and_eq_true, decide_eq_true_iff, Bool.not_eq_true', on_way]

/-- The notes of a transaction end have been passed on. -/
def State.over (s : State) (shifted : Byte) : State :=
  { s with
    engines := Vector.ofFn fun e => (s.engine e).transactionEnded, port := { Port.reset with shifted := shifted } }

theorem State.engine_of_ofFn {f : EngineId → Engine} (h : t.engines = Vector.ofFn f) (e : EngineId) : t.engine e = f e := by
  simp [State.engine, h]

theorem over_engine (s : State) (shifted : Byte) (e : EngineId) :
    (s.over shifted).engine e = (s.engine e).transactionEnded :=
  State.engine_of_ofFn (f := fun e => (s.engine e).transactionEnded) rfl e

/-- The transaction end after the watched writes are passed on. -/
theorem finished_eq (s : State) (shifted : Byte) :
    (forAll allEngines (fun e t => t.modEngine e Engine.afterTransaction) s).setPort { Port.reset with shifted := shifted } =
      s.over shifted := by
  rw [forAll_modEngine s fun _ => Engine.afterTransaction]
  simp only [afterTransaction_eq]
  rfl

theorem replicate_note {m : Nat} (i : Fin m) : (Vector.replicate m false)[i.val] = false := by simp

theorem noted_only {m : Nat} (i j : Fin m) : ((Vector.replicate m false).set j.val true)[i.val] = decide (i = j) := by
  rw [Vector.getElem_set]
  by_cases own : i = j
  · simp [own]
  · simp [own, Fin.val_ne_of_ne (Ne.symm own)]

section
variable (noSetup : s.port.setupNotes = Vector.replicate 12 false) (noCancel : s.port.cancelNotes = Vector.replicate 32 false)
  (noShelf : s.port.shelfNote = false) (noPeriod : s.port.periodNote = false)

include noSetup noShelf noPeriod in
theorem endTransaction_cancel (one : s.port.cancelNotes = (Vector.replicate 32 false).set k.val true) :
    s.endTransaction = (s.passCancel k).over s.port.shifted := by
  have cancelled := forAll_when_one (p := fun j : CardId => s.port.cancelNotes[j.val]) (act := fun k t => t.passCancel k)
    allCards_nodup (mem_allCards k) (by rw [one, noted_only]; simp) (fun j h => by rw [one, noted_only]; simp [h]) s
  have noticed := forAll_when_none (p := fun m : StationId => s.port.setupNotes[m.val]) (act := fun m t => t.setupNotice m)
    (xs := allStations) (fun m _ => by rw [noSetup, replicate_note]) (s.passCancel k)
  unfold State.endTransaction
  dsimp only
  rw [cancelled, noticed, noShelf, noPeriod]
  exact finished_eq _ _

include noCancel noShelf noPeriod in
theorem endTransaction_setup (one : s.port.setupNotes = (Vector.replicate 12 false).set n.val true) :
    s.endTransaction = (s.setupNotice n).over s.port.shifted := by
  have cancelled := forAll_when_none (p := fun j : CardId => s.port.cancelNotes[j.val]) (act := fun k t => t.passCancel k)
    (xs := allCards) (fun j _ => by rw [noCancel, replicate_note]) s
  have noticed := forAll_when_one (p := fun m : StationId => s.port.setupNotes[m.val]) (act := fun m t => t.setupNotice m)
    allStations_nodup (mem_allStations n) (by rw [one, noted_only]; simp) (fun j h => by rw [one, noted_only]; simp [h]) s
  unfold State.endTransaction
  dsimp only
  rw [cancelled, noticed, noShelf, noPeriod]
  exact finished_eq _ _

include noSetup noCancel in
theorem endTransaction_configuration :
    s.endTransaction =
      ((if s.port.periodNote then (if s.port.shelfNote then s.takeShelfFixed else s).noticePeriod
        else if s.port.shelfNote then s.takeShelfFixed else s).over s.port.shifted) := by
  have cancelled := forAll_when_none (p := fun j : CardId => s.port.cancelNotes[j.val]) (act := fun k t => t.passCancel k)
    (xs := allCards) (fun j _ => by rw [noCancel, replicate_note]) s
  have noticed := forAll_when_none (p := fun m : StationId => s.port.setupNotes[m.val]) (act := fun m t => t.setupNotice m)
    (xs := allStations) (fun m _ => by rw [noSetup, replicate_note]) s
  unfold State.endTransaction
  dsimp only
  rw [cancelled, noticed]
  exact finished_eq _ _

end

/-- CS has risen, with the echo lines as they stand. -/
def State.deselected (s : State) (echo : Levels) : State := { s with pins := { s.pins with csLow := false, echo := echo } }

theorem exec_transactionEnd (echo : Levels) (running : s.inReset = false) (low : s.pins.csLow = true)
    (taking : s.port.taking = true) :
    exec (.transactionEnd echo) s = .next (s.deselected echo).endTransaction := by
  have steady : (s.sampleEcho echo).inReset = false := running
  have started : (s.sampleEcho echo).pins.csLow = true := low
  have going : (s.sampleEcho echo).port.taking = true := taking
  change execTransactionEnd echo s = _
  rw [execTransactionEnd, running, low, if_neg (by simp), State.releaseSelect, steady, started, going]
  rfl

/-! ## A cancel (02 R40) -/

theorem find_allEngines {p : EngineId → Bool} {e : EngineId} (here : p e = true)
    (none : ∀ e', e' < e → p e' = false) : allEngines.find? p = some e := by
  have at_ : ∀ e : EngineId, allEngines[e.val]'(by simp [allEngines]) = e := by decide
  refine List.find?_eq_some_iff_getElem.mpr ⟨here, e.val, by simp [allEngines], at_ e, fun j hj => ?_⟩
  have := none ⟨j, by omega⟩ (Fin.lt_def.mpr hj)
  rw [← at_ ⟨j, by omega⟩] at this
  simpa using this

theorem engineOfCard_lowest (here : (s.engine e).job.map (·.card) = some k)
    (lowest : ∀ e', e' < e → (s.engine e').job.map (·.card) ≠ some k) : s.engineOfCard k = some e := by
  rw [engineOfCard_eq]
  exact find_allEngines (decide_eq_true here) fun e' h => decide_eq_false (lowest e' h)

/-- The state after a cancel of a card that is on the list. -/
def State.cancelled (s : State) (k : CardId) : State :=
  (s.setWaiting (s.waiting.filter fun x => x.card ≠ k)).finishCard k statusCancelled (s.cardNotify k)

theorem passCancel_taken (taken : s.cardStatus k = statusTaken) (on : ∃ x ∈ s.waiting, x.card = k) :
    s.passCancel k = s.cancelled k := by
  rw [State.passCancel, if_pos taken, State.cancelPending, if_pos (onList_iff.mpr on), State.cancelled]

theorem passCancel_running (status : s.cardStatus k = statusRunning) (engine : s.engineOfCard k = some e) :
    s.passCancel k = s.modEngine e fun g => { g with stops := g.stops ++ [.cancel k] } := by
  rw [State.passCancel, status, if_neg (by decide), if_pos rfl, engine]

theorem passCancel_stray (stray : s.stray k) : s.passCancel k = s := by
  obtain ⟨status, off⟩ | ⟨status, none⟩ := stray
  · have off : ¬s.onList k = true := fun on => by
      obtain ⟨x, mem, eq⟩ := onList_iff.mp on
      exact off x mem eq
    rw [State.passCancel, if_pos (show _ = statusTaken from status), State.cancelPending, if_neg off]
  · rw [State.passCancel, if_neg (by rw [status]; decide), if_pos (show _ = statusRunning from status),
      engineOfCard_eq_none.mpr none]

theorem passCancel_other (notTaken : s.cardStatus k ≠ statusTaken) (notRunning : s.cardStatus k ≠ statusRunning) :
    s.passCancel k = s := by
  rw [State.passCancel, if_neg notTaken, if_neg notRunning]

/-- What passing on a cancel changes. -/
theorem passCancel_frame (s : State) (k : CardId) :
    s.passCancel k = { s with
      engines := (s.passCancel k).engines, waiting := (s.passCancel k).waiting, mem := (s.passCancel k).mem
      regs := (s.passCancel k).regs } := by
  by_cases taken : s.cardStatus k = statusTaken
  · by_cases on : s.onList k = true
    · rw [passCancel_taken taken (onList_iff.mp on), State.cancelled, finishCard_frame]
      rfl
    · rw [State.passCancel, if_pos taken, State.cancelPending, if_neg on]
  · by_cases status : s.cardStatus k = statusRunning
    · cases engine : s.engineOfCard k with
      | none => rw [State.passCancel, if_neg taken, if_pos status, engine]
      | some e =>
        rw [passCancel_running status engine]
        rfl
    · rw [passCancel_other taken status]

/-- Settles O26: the cancel is passed on by the card's status, and then the transaction is over. -/
theorem cancelAtTransactionEnd : Obligations.CancelAtTransactionEnd := by
  intro s echo k wf running low taking one noSetup noShelf noPeriod
  let u := s.deselected echo
  have done : exec (.transactionEnd echo) s = .next ((u.passCancel k).over s.port.shifted) := by
    rw [exec_transactionEnd echo running low taking, endTransaction_cancel (s := u) noSetup noShelf noPeriod one]
    rfl
  refine ⟨_, done, ?_, fun taken on => ?_, fun status e here lowest => ?_, fun otherwise => ?_⟩
  · have frame := passCancel_frame u k
    unfold State.over
    generalize u.passCancel k = v at frame ⊢
    rw [frame]
    rfl
  · have frame := finishCard_frame (u.setWaiting (u.waiting.filter fun x => x.card ≠ k)) k statusCancelled (s.cardNotify k)
    have byte := finishCard_byte (s := u.setWaiting (u.waiting.filter fun x => x.card ≠ k)) wf k statusCancelled (s.cardNotify k)
    have stamp := finishCard_stamp (s := u.setWaiting (u.waiting.filter fun x => x.card ≠ k)) wf k statusCancelled (s.cardNotify k)
    rw [passCancel_taken (s := u) taken on]
    change u.cancelled k = _ at frame
    change ∀ a, (u.cancelled k).byte a = _ at byte
    change (u.cancelled k).long _ = _ at stamp
    generalize u.cancelled k = v at frame byte stamp ⊢
    refine ⟨fun e => (over_engine v _ e).trans (congrArg _ (State.engine_eq (by rw [frame]; rfl) e)),
      show v.waiting = _ by rw [frame]; rfl, (byte _).trans (if_pos rfl), stamp, fun a status apart => ?_, ?_⟩
    · exact (byte a).trans ((if_neg status).trans (if_neg (by omega)))
    · change v.regs = _
      rw [frame]
      change s.regs.cardEnded (s.cardNotify k) = _
      cases s.cardNotify k <;> rfl
  · rw [passCancel_running (s := u) status (engineOfCard_lowest (s := u) here lowest)]
    refine ⟨rfl, rfl, rfl, ?_, fun e' other => ?_⟩
    · rw [over_engine, State.engine_modEngine_self, ← afterTransaction_eq]
      refine Engine.afterTransaction_cancelled _ ((Engine.cancelOnItsWay_iff _).mpr ?_)
      obtain ⟨j, job, card⟩ := Option.map_eq_some_iff.mp here
      exact ⟨j, job, by simp [card]⟩
    · rw [over_engine, State.engine_modEngine_other _ _ _ _ other]
      rfl
  · have stays : u.passCancel k = u := by
      obtain ⟨notTaken, notRunning⟩ | stray | stray := otherwise
      · exact passCancel_other notTaken notRunning
      · exact passCancel_stray (s := u) (.inl stray)
      · exact passCancel_stray (s := u) (.inr stray)
    rw [stays]
    exact ⟨rfl, rfl, rfl, over_engine u _⟩

/-! ## The shelf-fixed field and the sweep period (08 R152, R154, 02 R30) -/

/-- The cache and the engines' lookups, where the shelf-fixed mark goes to this value. -/
def Engine.unfixed (g : Engine) (cleared : Prop) [Decidable cleared] : Engine :=
  { g with lookup := { g.lookup with
    fixedThroughout := if cleared then false else g.lookup.fixedThroughout } }

theorem Engine.unfixed_of_not {cleared : Prop} [Decidable cleared] (h : ¬cleared) (g : Engine) : g.unfixed cleared = g := by
  rw [Engine.unfixed, if_neg h]

theorem Engine.transactionEnded_unfixed (g : Engine) (cleared : Prop) [Decidable cleared] :
    (g.unfixed cleared).transactionEnded = g.transactionEnded.unfixed cleared := by
  by_cases waits : g.lookup.reread = .waiting ∧ ∀ k, g.job.map (·.card) = some k → Stop.cancel k ∉ g.stops
  · rw [show g.transactionEnded = _ from if_pos waits]
    exact if_pos waits
  · rw [show g.transactionEnded = g from if_neg waits]
    exact if_neg waits

theorem takeShelfFixed_eq (s : State) :
    s.takeShelfFixed = { s with
      regs := { s.regs with shelfFixed := s.shelfFixedField }
      cache := if s.regs.shelfFixed = true ∧ s.shelfFixedField = false then Cache.reset else s.cache
      engines := Vector.ofFn fun e =>
        (s.engine e).unfixed (s.regs.shelfFixed = true ∧ s.shelfFixedField = false) } := by
  by_cases cleared : s.regs.shelfFixed = true ∧ s.shelfFixedField = false
  · rw [State.takeShelfFixed, if_pos (by simpa using cleared), forAll_modEngine]
    simp only [Engine.unfixed, if_pos cleared]
    rfl
  · rw [State.takeShelfFixed, if_neg (by simpa using cleared)]
    simp only [Engine.unfixed_of_not cleared, if_neg cleared]
    rw [← State.engines_eq_ofFn]
    rfl

/-- What the shelf note does. -/
theorem shelfNote_eq (s : State) (note : Bool) :
    let fixed := if note then s.shelfFixedField else s.regs.shelfFixed
    (if note then s.takeShelfFixed else s) = { s with
      regs := { s.regs with shelfFixed := fixed }
      cache := if s.regs.shelfFixed = true ∧ fixed = false then Cache.reset else s.cache
      engines := Vector.ofFn fun e => (s.engine e).unfixed (s.regs.shelfFixed = true ∧ fixed = false) } := by
  cases note
  · have kept : ¬(s.regs.shelfFixed = true ∧ s.regs.shelfFixed = false) := by simp
    simp only [Bool.false_eq_true, if_false, Engine.unfixed_of_not kept, if_neg kept]
    rw [← State.engines_eq_ofFn]
  · exact takeShelfFixed_eq s

theorem noticePeriod_eq (s : State) :
    s.noticePeriod = { s with sweeper := { s.sweeper with
      timer := if s.regs.enable = true ∧ s.sweeper.timer = .off then s.readSweepPeriod else s.sweeper.timer } } := by
  unfold State.noticePeriod
  split <;> rename_i timer
  · by_cases on : s.regs.enable = true
    · rw [if_pos on, if_pos ⟨on, timer⟩]
      rfl
    · rw [if_neg on, if_neg fun h => on h.1]
  · rw [if_neg (by simp [timer])]

theorem periodNote_eq (s : State) (note : Bool) :
    (if note then s.noticePeriod else s) = { s with sweeper := { s.sweeper with
      timer := if note = true ∧ s.regs.enable = true ∧ s.sweeper.timer = .off then s.readSweepPeriod
        else s.sweeper.timer } } := by
  cases note
  · rw [if_neg Bool.false_ne_true, if_neg (by simp)]
  · rw [if_pos rfl, noticePeriod_eq]
    simp only [true_and]

/-- Settles O27: the two notes, one after the other, and then the transaction is over. -/
theorem shelfAndPeriodAtTransactionEnd : Obligations.ShelfAndPeriodAtTransactionEnd := by
  intro s echo running low taking noCancel noSetup
  let u := s.deselected echo
  have done := (exec_transactionEnd echo running low taking).trans
    (congrArg _ (endTransaction_configuration (s := u) noSetup noCancel))
  rw [periodNote_eq, shelfNote_eq] at done
  refine ⟨_, done, rfl, fun note => ?_, fun note => ?_, rfl, fun e => ?_, fun note on off period => ?_, fun otherwise => ?_⟩
  · change (if s.port.shelfNote = true then _ else _) = true ↔ _
    rw [if_pos note]
    exact decide_eq_true_iff
  · exact if_neg (c := s.port.shelfNote = true) (by simp [note])
  · refine (over_engine _ _ e).trans ?_
    rw [State.engine_of_ofFn rfl]
    exact Engine.transactionEnded_unfixed _ _
  · refine (if_pos ⟨note, on, off⟩).trans ?_
    rw [readSweepPeriod_eq]
    exact if_neg period
  · by_cases reads : s.port.periodNote = true ∧ s.regs.enable = true ∧ s.sweeper.timer = .off
    · refine (if_pos reads).trans ?_
      obtain ⟨note, on, off⟩ := reads
      have zero : s.half 0x06 = 0 := by simpa [note, on, off] using otherwise
      rw [readSweepPeriod_eq]
      exact (if_pos zero).trans off.symm
    · exact if_neg reads

end

end Sys2Proof.Machine
end

section
/-! The station record and the slots: what an event of the Supervisor leaves (03 R45, R54, R55, R57, R58). -/

namespace Sys2Proof.Machine

section
variable {s t u : State} {n m : StationId}

/-! ## Derived state -/

/-- What the derived state rests on. -/
theorem State.derived_congr (configured : t.configured = s.configured) (setup : (t.station n).setup = (s.station n).setup)
    (fault : (t.station n).fault = (s.station n).fault) (present : (t.station n).present = (s.station n).present)
    (slots : ∀ p, t.slotVerdict n p = s.slotVerdict n p) (held : Bool) : t.derived n held = s.derived n held := by
  have verdicts : t.slotVerdict n = s.slotVerdict n := funext slots
  simp only [State.derived, configured, setup, fault, present, verdicts]

/-- PERMITn of a station that is not present or in FAULT. -/
theorem permitOf_lost (st : StationState) (advise held : Bool) (lost : st = .off ∨ st = .fault ∨ st = .empty) :
    permitOf st advise held = false := by
  obtain rfl | rfl | rfl := lost <;> rfl

theorem stationStateOf_lost (running fault present held : Bool) (count : Fin 5) (verdicts : List Byte)
    (lost : running = false ∨ fault = true ∨ present = false) :
    let st := stationStateOf running fault present held count verdicts
    st = .off ∨ st = .fault ∨ st = .empty := by
  cases running
  · exact .inl rfl
  · cases fault
    · cases present
      · exact .inr (.inr rfl)
      · simp at lost
    · exact .inr (.inl rfl)

/-! ## The record settled (03 R54, R55) -/

/-- State, present or fault cause will differ from before when the record is settled. -/
def State.recordMoves (u : State) (n : StationId) (before : Byte × Byte × Byte) : Bool :=
  decide (((u.derived n (u.held n)).code, u.byte (stationBase n + 0x11), u.byte (stationBase n + 0x13)) ≠ before)

theorem State.raiseIf_eq (s : State) (b : Bool) (c : BitVec 5) :
    s.raiseIf b c = { s with regs := { s.regs with causes := if b = true then s.regs.causes ||| c else s.regs.causes } } := by
  cases b <;> rfl

/-- The record before its stamp: the derived state is written. -/
@[irreducible] def State.stated (u : State) (n : StationId) : State :=
  u.put (stationBase n + 0x10) [(u.derived n (u.held n)).code]

theorem stated_byte (wf : Memory.wf u.mem = true) (n : StationId) (a : Nat) :
    (u.stated n).byte a = if a = stationBase n + 0x10 then (u.derived n (u.held n)).code else u.byte a := by
  unfold State.stated
  exact put_one wf _ _ a

theorem stated_wf (wf : Memory.wf u.mem = true) (n : StationId) : Memory.wf (u.stated n).mem = true := by
  unfold State.stated
  exact State.wf_put _ _ wf

theorem stated_frame (u : State) (n : StationId) : u.stated n = { u with mem := (u.stated n).mem } := by
  unfold State.stated
  rfl

theorem stated_moves (wf : Memory.wf u.mem = true) (before : Byte × Byte × Byte) :
    (u.stated n).recordKey n ≠ before ↔ u.recordMoves n before = true := by
  simp only [State.recordKey, stated_byte wf, State.recordMoves, decide_eq_true_iff, stState, stPresent, stFaultCause,
    Nat.add_left_cancel_iff, Nat.reduceEqDiff, if_true, if_false]

theorem settleRecord_eq (u : State) (n : StationId) (before : Byte × Byte × Byte) :
    u.settleRecord n before =
      (if (u.stated n).recordKey n = before then u.stated n else (u.stated n).stampAndFlag n).evaluatePermit n := by
  unfold State.stated
  rfl

theorem stampAndFlag_wf (wf : Memory.wf s.mem = true) (n : StationId) : Memory.wf (s.stampAndFlag n).mem = true := by
  unfold State.stampAndFlag
  dsimp only
  rw [State.mem_raiseIf]
  exact State.wf_put _ _ (State.wf_put _ _ wf)

theorem stampAndFlag_frame (s : State) (n : StationId) :
    s.stampAndFlag n = { s with
      mem := (s.stampAndFlag n).mem
      regs := if s.byte (stationBase n + 0x18) = 1 then s.regs
        else { s.regs with causes := s.regs.causes ||| causeStationChange } } := by
  unfold State.stampAndFlag
  dsimp only
  rw [State.raiseIf_eq]
  by_cases flagged : s.byte (stationBase n + 0x18) = 1
  · rw [if_pos flagged, if_neg (by simp [stChangeFlag, flagged])]
    rfl
  · rw [if_neg flagged, if_pos (by rw [Bool.not_eq_true']; exact decide_eq_false flagged)]
    rfl

theorem stampAndFlag_byte (wf : Memory.wf s.mem = true) (n : StationId) (a : Nat) :
    (s.stampAndFlag n).byte a =
      if a = stationBase n + 0x18 then 1
      else if stationBase n + 0x14 ≤ a ∧ a < stationBase n + 0x18 then
        (longBytes s.tracker.cycles).getD (a - (stationBase n + 0x14)) 0
      else s.byte a := by
  unfold State.stampAndFlag
  dsimp only
  rw [State.byte_raiseIf, put_one (State.wf_put _ _ wf), State.byte_put_getD wf, longBytes_length]
  rfl

theorem settleRecord_wf (wf : Memory.wf u.mem = true) (n : StationId) (before : Byte × Byte × Byte) :
    Memory.wf (u.settleRecord n before).mem = true := by
  rw [settleRecord_eq, State.evaluatePermit, State.modStation_mem]
  split_ifs
  · exact stated_wf wf n
  · exact stampAndFlag_wf (stated_wf wf n) n

theorem settleRecord_byte (wf : Memory.wf u.mem = true) (n : StationId) (before : Byte × Byte × Byte) (a : Nat) :
    (u.settleRecord n before).byte a =
      if a = stationBase n + 0x10 then (u.derived n (u.held n)).code
      else if u.recordMoves n before = true ∧ a = stationBase n + 0x18 then 1
      else if u.recordMoves n before = true ∧ stationBase n + 0x14 ≤ a ∧ a < stationBase n + 0x18 then
        (longBytes u.tracker.cycles).getD (a - (stationBase n + 0x14)) 0
      else u.byte a := by
  have tracker : (u.stated n).tracker = u.tracker := by rw [stated_frame]
  have mem : (u.settleRecord n before).mem =
      (if (u.stated n).recordKey n = before then u.stated n else (u.stated n).stampAndFlag n).mem := by
    rw [settleRecord_eq, State.evaluatePermit, State.modStation_mem]
  rw [State.byte_congr mem]
  by_cases moves : u.recordMoves n before = true
  · rw [if_neg ((stated_moves wf before).mpr moves), stampAndFlag_byte (stated_wf wf n), stated_byte wf, tracker]
    simp only [moves, true_and]
    split_ifs <;> first | rfl | omega
  · have same := not_ne_iff.mp (mt (stated_moves wf before).mp moves)
    rw [if_pos same, stated_byte wf]
    rw [if_neg (c := _ ∧ _) (fun h => moves h.1), if_neg (c := _ ∧ _) (fun h => moves h.1)]

theorem settleRecord_frame (wf : Memory.wf u.mem = true) (n : StationId) (before : Byte × Byte × Byte) :
    u.settleRecord n before = { u with
      mem := (u.settleRecord n before).mem, stations := (u.settleRecord n before).stations
      regs := (u.settleRecord n before).regs } ∧
    ((u.settleRecord n before).regs =
      if u.recordMoves n before = true ∧ u.byte (stationBase n + 0x18) ≠ 1 then
        { u.regs with causes := u.regs.causes ||| causeStationChange } else u.regs) := by
  rw [settleRecord_eq, State.evaluatePermit]
  have regs : (u.stated n).regs = u.regs := by rw [stated_frame]
  have flag : (u.stated n).byte (stationBase n + 0x18) = u.byte (stationBase n + 0x18) := by
    rw [stated_byte wf, if_neg (by omega)]
  by_cases moves : u.recordMoves n before = true
  · rw [if_neg ((stated_moves wf before).mpr moves), stampAndFlag_frame, flag, regs]
    generalize ((u.stated n).stampAndFlag n).mem = m
    rw [stated_frame]
    refine ⟨rfl, ?_⟩
    simp only [moves, true_and, State.modStation_regs, ite_not, ne_eq]
  · have same := not_ne_iff.mp (mt (stated_moves wf before).mp moves)
    rw [if_pos same, stated_frame]
    refine ⟨rfl, ?_⟩
    rw [if_neg (fun h => moves h.1)]
    rfl

theorem stamped_frame (u : State) (n : StationId) :
    ∃ mem regs, regs.snapshot = u.regs.snapshot ∧
      (u.stated n).stampAndFlag n = { u with mem := mem, regs := regs } := by
  have stamped := stampAndFlag_frame (u.stated n) n
  have stated := stated_frame u n
  generalize ((u.stated n).stampAndFlag n) = v at stamped ⊢
  generalize u.stated n = w at stamped stated
  rw [stated] at stamped
  refine ⟨v.mem, _, ?_, stamped⟩
  split_ifs <;> rfl

theorem settleRecord_station (wf : Memory.wf u.mem = true) (n m : StationId) (before : Byte × Byte × Byte) :
    (u.settleRecord n before).station m =
      if m = n then { u.station n with
        permit := permitOf (u.derived n (u.held n)) (u.station n).setup.advise (u.station n).heldPermit }
      else u.station m := by
  have slots (p : SlotId) : ((if (u.stated n).recordKey n = before then u.stated n
      else (u.stated n).stampAndFlag n).slotVerdict n p) = u.slotVerdict n p := by
    unfold State.slotVerdict slotBase
    split_ifs
    · rw [stated_byte wf, if_neg (by omega)]
    · rw [stampAndFlag_byte (stated_wf wf n), if_neg (by omega), if_neg (by omega), stated_byte wf, if_neg (by omega)]
  have frame : ∃ mem regs, regs.snapshot = u.regs.snapshot ∧
      (if (u.stated n).recordKey n = before then u.stated n else (u.stated n).stampAndFlag n) =
        { u with mem := mem, regs := regs } := by
    split_ifs
    · exact ⟨_, u.regs, rfl, stated_frame u n⟩
    · exact stamped_frame u n
  rw [settleRecord_eq]
  generalize (if (u.stated n).recordKey n = before then u.stated n else (u.stated n).stampAndFlag n) = v at slots frame ⊢
  obtain ⟨mem, regs, snapshot, rfl⟩ := frame
  have derived := State.derived_congr (s := u) (t := { u with mem := mem, regs := regs }) (n := n)
    (by simp only [State.configured, snapshot]) rfl rfl rfl slots
  rw [State.evaluatePermit, State.station_modStation, derived]
  rfl

end

/-! ## An event served whole (03 R54) -/

/-- State t is state u, to which an event has brought state s, with its record settled. -/
structure Settled (s u t : State) (n : StationId) : Prop where
  frame : t = { u with mem := t.mem, stations := t.stations, regs := s.flagRaised t n }
  own : t.station n = { u.station n with permit := (t.station n).permit }
  others : ∀ m, m ≠ n → t.station m = u.station m
  record : s.recordFollows t n
  bytes : ∀ a, a ≠ stationBase n + 0x10 → (a < stationBase n + 0x14 ∨ stationBase n + 0x19 ≤ a) → t.byte a = u.byte a
  wf : Memory.wf t.mem = true

section
variable {s t u : State} {n m : StationId}

/-- An event that has left registers, cycle count, stamp and change flag, with its record settled. -/
theorem settled_of (wf : Memory.wf u.mem = true) (regs : u.regs = s.regs) (cycles : u.tracker.cycles = s.tracker.cycles)
    (stamp : ∀ i, i < 5 → u.byte (stationBase n + 0x14 + i) = s.byte (stationBase n + 0x14 + i)) :
    Settled s u (u.settleRecord n (s.recordKey n)) n := by
  have byte := settleRecord_byte wf n (s.recordKey n)
  have station := fun m => settleRecord_station wf n m (s.recordKey n)
  obtain ⟨frame, raised⟩ := settleRecord_frame wf n (s.recordKey n)
  have wf' := settleRecord_wf wf n (s.recordKey n)
  generalize u.settleRecord n (s.recordKey n) = t at byte station frame raised wf' ⊢
  have key : t.recordKey n ≠ s.recordKey n ↔ u.recordMoves n (s.recordKey n) = true := by
    simp only [State.recordKey, stState, stPresent, stFaultCause, byte, State.recordMoves, Nat.add_left_cancel_iff,
      Nat.reduceEqDiff, Nat.add_le_add_iff_left, Nat.reduceLeDiff, false_and, and_false, if_true, if_false]
    exact decide_eq_true_iff.symm
  have flag : u.byte (stationBase n + 0x18) = s.byte (stationBase n + 0x18) := stamp 4 (by omega)
  have configured : t.configured = u.configured := by
    simp only [State.configured, raised]
    split_ifs <;> rfl
  have own := station n
  rw [if_pos rfl] at own
  have held : t.held n = u.held n := by rw [frame]; rfl
  have derived : t.derived n (t.held n) = u.derived n (u.held n) := by
    rw [held]
    refine State.derived_congr configured (by rw [own]) (by rw [own]) (by rw [own]) (fun p => ?_) _
    unfold State.slotVerdict slotBase
    rw [byte, if_neg (by omega), if_neg (by omega), if_neg (by omega)]
  refine ⟨?_, by rw [own], fun m other => (station m).trans (if_neg other), ⟨?_, ?_, ?_⟩, fun a state apart => ?_, wf'⟩
  · have follows : t.regs = s.flagRaised t n := by
      rw [raised, State.flagRaised, flag, regs]
      by_cases moves : u.recordMoves n (s.recordKey n) = true
      · by_cases set : s.byte (stationBase n + 0x18) = 1
        · rw [if_neg (by simp [set]), if_pos (.inr set)]
        · rw [if_pos ⟨moves, set⟩]
          exact (if_neg (not_or.mpr ⟨key.mpr moves, set⟩)).symm
      · rw [if_neg (fun h => moves h.1), if_pos (.inl (not_ne_iff.mp (mt key.mp moves)))]
    rw [← follows]
    exact frame
  · rw [derived]
    exact (byte _).trans (if_pos rfl)
  · rw [derived, own]
  · by_cases moves : u.recordMoves n (s.recordKey n) = true
    · rw [if_neg (key.mpr moves)]
      refine ⟨State.long_of_bytes fun i small => ?_, ?_⟩
      · simp only [byte, stStamp]
        rw [if_neg (by omega), if_neg (by omega), if_pos ⟨moves, by omega, by omega⟩, Nat.add_sub_cancel_left,
          List.getD_eq_getElem _ _ (by rwa [longBytes_length])]
        simp only [cycles]
        rfl
      · simp only [byte, stChangeFlag]
        rw [if_neg (by omega), if_pos ⟨moves, trivial⟩]
    · rw [if_pos (not_ne_iff.mp (mt key.mp moves))]
      have kept (i : Nat) (small : i < 5) : t.byte (stationBase n + 0x14 + i) = s.byte (stationBase n + 0x14 + i) := by
        rw [byte, if_neg (by omega), if_neg (fun h => moves h.1), if_neg (fun h => moves h.1), stamp i small]
      exact ⟨State.long_congr fun i small => kept i (by omega), kept 4 (by omega)⟩
  · rw [byte, if_neg state, if_neg (by omega), if_neg (by omega)]

/-- A record that follows goes on to follow while nothing it rests on changes. -/
theorem State.recordFollows.of_same (h : s.recordFollows t n) (same : SamePermit n t u) (mem : u.mem = t.mem) :
    s.recordFollows u n := by
  obtain ⟨code, permit, moved⟩ := h
  have byte := State.byte_congr mem
  have part := same.part
  simp only [Station.permitPart, Prod.mk.injEq] at part
  obtain ⟨⟨_, advise, _, _⟩, _, _, heldPermit, given⟩ := part
  refine ⟨?_, ?_, ?_⟩
  · rw [byte, same.held, same.derived, code]
  · rw [same.held, same.derived, advise, heldPermit, given, permit]
  · have key : u.recordKey n = t.recordKey n := by simp only [State.recordKey, byte]
    have stamp : u.long (stationBase n + stStamp) = t.long (stationBase n + stStamp) :=
      State.long_congr fun _ _ => byte _
    rw [key, stamp, byte]
    exact moved

theorem State.flagRaised_congr (mem : u.mem = t.mem) (n : StationId) : s.flagRaised u n = s.flagRaised t n := by
  have key : u.recordKey n = t.recordKey n := by simp only [State.recordKey, State.byte_congr mem]
  rw [State.flagRaised, key, State.flagRaised]

theorem Settled.regs (h : Settled s u t n) : t.regs = s.flagRaised t n := by
  have frame := h.frame
  generalize s.flagRaised t n = r at frame ⊢
  rw [frame]

theorem Settled.mem_apart (h : Settled s u t n) {a : Nat} (apart : ∀ o, eventOffset o = true → a ≠ stationBase n + o) :
    t.byte a = u.byte a := by
  have at_ (o : Nat) (in_ : 0x13 ≤ o ∧ o < 0x19 ∨ o = 0x10) : a ≠ stationBase n + o :=
    apart o (by simp only [eventOffset, Bool.or_eq_true, Bool.and_eq_true, decide_eq_true_iff]; omega)
  refine h.bytes a (at_ 0x10 (.inr rfl)) ?_
  by_contra inside
  exact at_ (a - stationBase n) (.inl (by omega)) (by omega)

end

/-! ## Slots (03 R45) -/

section
variable {s t u : State} {n m : StationId} {p q : SlotId} {f : SlotFields}

theorem writeSlot_same (same : s.readSlot n p = f) : s.writeSlot n p f = s := if_pos same

theorem writeSlot_wf (wf : Memory.wf s.mem = true) (n : StationId) (p : SlotId) (f : SlotFields) :
    Memory.wf (s.writeSlot n p f).mem = true := by
  unfold State.writeSlot
  dsimp only
  split_ifs
  · exact wf
  · exact State.wf_put _ _ (State.wf_put _ _ (State.wf_put _ _ (State.wf_put _ _ wf)))

theorem writeSlot_frame (s : State) (n : StationId) (p : SlotId) (f : SlotFields) :
    s.writeSlot n p f = { s with mem := (s.writeSlot n p f).mem } := by
  unfold State.writeSlot
  dsimp only
  split_ifs
  · rfl
  · simp only [State.put]

/-- The bytes of a slot that has been written. -/
theorem writeSlot_byte (wf : Memory.wf s.mem = true) (differ : s.readSlot n p ≠ f) (a : Nat) :
    (s.writeSlot n p f).byte a =
      if a = slotBase n p then f.verdict
      else if slotBase n p + 2 ≤ a ∧ a < slotBase n p + 7 then
        (halfBytes f.score ++ halfBytes f.type ++ [f.variant]).getD (a - (slotBase n p + 2)) 0
      else if slotBase n p + 8 ≤ a ∧ a < slotBase n p + 16 then
        (longBytes f.serial ++ halfBytes f.lot ++ halfBytes f.date).getD (a - (slotBase n p + 8)) 0
      else if slotBase n p + 0x10 ≤ a ∧ a < slotBase n p + 0x14 then
        (longBytes s.tracker.cycles).getD (a - (slotBase n p + 0x10)) 0
      else s.byte a := by
  have written : s.writeSlot n p f = _ := if_neg differ
  have wf1 := State.wf_put (slotBase n p) [f.verdict] wf
  have wf2 := State.wf_put (slotBase n p + 2) (halfBytes f.score ++ halfBytes f.type ++ [f.variant]) wf1
  have wf3 := State.wf_put (slotBase n p + 8) (longBytes f.serial ++ halfBytes f.lot ++ halfBytes f.date) wf2
  rw [written, State.byte_put_getD wf3, State.byte_put_getD wf2, State.byte_put_getD wf1, put_one wf, longBytes_length]
  simp only [List.length_append, longBytes_length, halfBytes_length, List.length_singleton]
  split_ifs <;> first | rfl | omega

theorem writeSlot_reads (wf : Memory.wf s.mem = true) (n : StationId) (p : SlotId) (f : SlotFields) :
    (s.writeSlot n p f).readSlot n p = f := by
  by_cases same : s.readSlot n p = f
  · rw [writeSlot_same same, same]
  · have byte := writeSlot_byte wf same
    have head {o : Nat} (low : o < 5) : (s.writeSlot n p f).byte (slotBase n p + (2 + o)) =
        (halfBytes f.score ++ halfBytes f.type ++ [f.variant]).getD o 0 := by
      rw [byte, if_neg (by omega), if_pos (by omega), show slotBase n p + (2 + o) - (slotBase n p + 2) = o by omega]
    have tail {o : Nat} (low : o < 8) : (s.writeSlot n p f).byte (slotBase n p + (8 + o)) =
        (longBytes f.serial ++ halfBytes f.lot ++ halfBytes f.date).getD o 0 := by
      rw [byte, if_neg (by omega), if_neg (by omega), if_pos (by omega),
        show slotBase n p + (8 + o) - (slotBase n p + 8) = o by omega]
    have verdict : (s.writeSlot n p f).byte (slotBase n p) = f.verdict := (byte _).trans (if_pos rfl)
    have score : (s.writeSlot n p f).half (slotBase n p + 2) = f.score :=
      State.half_of_bytes (head (o := 0) (by omega)) (head (o := 1) (by omega))
    have type : (s.writeSlot n p f).half (slotBase n p + 4) = f.type :=
      State.half_of_bytes (head (o := 2) (by omega)) (head (o := 3) (by omega))
    have variant : (s.writeSlot n p f).byte (slotBase n p + 6) = f.variant := head (o := 4) (by omega)
    have serial : (s.writeSlot n p f).long (slotBase n p + 8) = f.serial := by
      refine State.long_of_bytes fun i small => ?_
      rw [Nat.add_assoc, tail (by omega), List.append_assoc, List.getD_append _ _ _ _ (by rwa [longBytes_length]),
        List.getD_eq_getElem _ _ (by rwa [longBytes_length])]
      rfl
    have lot : (s.writeSlot n p f).half (slotBase n p + 0x0C) = f.lot :=
      State.half_of_bytes (tail (o := 4) (by omega)) (tail (o := 5) (by omega))
    have date : (s.writeSlot n p f).half (slotBase n p + 0x0E) = f.date :=
      State.half_of_bytes (tail (o := 6) (by omega)) (tail (o := 7) (by omega))
    simp only [State.readSlot, verdict, score, type, variant, serial, lot, date]

theorem writeSlot_stamp (wf : Memory.wf s.mem = true) (n : StationId) (p : SlotId) (f : SlotFields) :
    (s.writeSlot n p f).long (slotBase n p + 0x10) =
      if s.readSlot n p = f then s.long (slotBase n p + 0x10) else s.tracker.cycles := by
  by_cases same : s.readSlot n p = f
  · rw [writeSlot_same same, if_pos same]
  · rw [if_neg same]
    refine State.long_of_bytes fun i small => ?_
    rw [writeSlot_byte wf same, if_neg (by omega), if_neg (by omega), if_neg (by omega), if_pos (by omega),
      Nat.add_sub_cancel_left, List.getD_eq_getElem _ _ (by rwa [longBytes_length])]
    rfl

theorem writeSlot_apart (wf : Memory.wf s.mem = true) (n : StationId) (p : SlotId) (f : SlotFields) {a : Nat}
    (apart : a < slotBase n p ∨ slotBase n p + 20 ≤ a ∨ a = slotBase n p + 1 ∨ a = slotBase n p + 7) :
    (s.writeSlot n p f).byte a = s.byte a := by
  by_cases same : s.readSlot n p = f
  · rw [writeSlot_same same]
  · rw [writeSlot_byte wf same, if_neg (by omega), if_neg (by omega), if_neg (by omega), if_neg (by omega)]

/-- A slot with its stamp. -/
def State.slotCell (s : State) (n : StationId) (p : SlotId) : SlotFields × Long :=
  (s.readSlot n p, s.long (slotBase n p + 0x10))

theorem slotCell_congr (same : ∀ o, o < 20 → t.byte (slotBase n p + o) = s.byte (slotBase n p + o)) :
    t.slotCell n p = s.slotCell n p := by
  have half (o : Nat) (small : o + 1 < 20) : t.half (slotBase n p + o) = s.half (slotBase n p + o) :=
    State.half_congr (same o (by omega)) (same (o + 1) small)
  have long (o : Nat) (small : o + 3 < 20) : t.long (slotBase n p + o) = s.long (slotBase n p + o) :=
    State.long_congr fun i hi => by rw [Nat.add_assoc]; exact same (o + i) (by omega)
  have first : t.byte (slotBase n p) = s.byte (slotBase n p) := same 0 (by omega)
  simp only [State.slotCell, State.readSlot, first, half _ (show 2 + 1 < 20 by omega), half _ (show 4 + 1 < 20 by omega),
    same 6 (by omega), long _ (show 8 + 3 < 20 by omega), half _ (show 0x0C + 1 < 20 by omega),
    half _ (show 0x0E + 1 < 20 by omega), long _ (show 0x10 + 3 < 20 by omega)]

theorem writeSlot_cell (wf : Memory.wf s.mem = true) (n : StationId) (p q : SlotId) (f : SlotFields) :
    (s.writeSlot n p f).slotCell n q =
      if q = p then (f, if (s.slotCell n p).1 = f then (s.slotCell n p).2 else s.tracker.cycles) else s.slotCell n q := by
  by_cases own : q = p
  · rw [if_pos own, own]
    exact Prod.ext (writeSlot_reads wf n p f) (writeSlot_stamp wf n p f)
  · rw [if_neg own]
    have differ := Fin.val_ne_of_ne own
    refine slotCell_congr fun o small => writeSlot_apart wf n p f ?_
    simp only [slotBase]
    omega

end

end Sys2Proof.Machine
end

section
/-! The events of the Supervisor: fit, removal, faults and their rechecks (03 R48, R51 to R58, R62 to R64). -/

namespace Sys2Proof.Machine

section
variable {s t u v : State} {n m : StationId}

/-! ## Writes into the slots of a station -/

/-- State u is state s with writes into the slots of station n. -/
structure OnSlots (s u : State) (n : StationId) : Prop where
  frame : u = { s with mem := u.mem }
  wf : Memory.wf u.mem = true
  bytes : ∀ a, (∀ o, slotOffset o = true → a ≠ stationBase n + o) → u.byte a = s.byte a

theorem OnSlots.refl (wf : Memory.wf s.mem = true) (n : StationId) : OnSlots s s n := ⟨rfl, wf, fun _ _ => rfl⟩

theorem OnSlots.tracker (h : OnSlots s u n) : u.tracker = s.tracker := by rw [h.frame]

/-- An address that is in no slot's used bytes. -/
theorem slot_apart {p : SlotId} {a : Nat} (apart : ∀ o, slotOffset o = true → a ≠ stationBase n + o) :
    a < slotBase n p ∨ slotBase n p + 20 ≤ a ∨ a = slotBase n p + 1 ∨ a = slotBase n p + 7 := by
  by_contra inside
  simp only [slotBase] at inside
  refine apart (a - stationBase n) ?_ (by omega)
  simp only [slotOffset, Bool.and_eq_true, decide_eq_true_iff, bne_iff_ne, ne_eq]
  omega

theorem OnSlots.write (h : OnSlots s u n) (p : SlotId) (f : SlotFields) : OnSlots s (u.writeSlot n p f) n := by
  refine ⟨?_, writeSlot_wf h.wf n p f, fun a apart => (writeSlot_apart h.wf n p f (slot_apart apart)).trans (h.bytes a apart)⟩
  rw [writeSlot_frame]
  generalize (u.writeSlot n p f).mem = m
  rw [h.frame]

theorem resetSlots_onSlots (wf : Memory.wf s.mem = true) (n : StationId) (ps : List SlotId) :
    OnSlots s (s.resetSlots n ps) n :=
  forAll_invariant (P := fun u => OnSlots s u n) (fun p _ h => h.write p _) ps (.refl wf n)

/-- A slot and its stamp after some slots have been reset. -/
theorem resetSlots_cell (wf : Memory.wf s.mem = true) {ps : List SlotId} (distinct : ps.Nodup) (q : SlotId) :
    (s.resetSlots n ps).slotCell n q = if q ∈ ps then
        (SlotFields.cleared, if (s.slotCell n q).1 = SlotFields.cleared then (s.slotCell n q).2 else s.tracker.cycles)
      else s.slotCell n q :=
  forAll_place_of (P := fun u => OnSlots s u n) (read := fun u p => u.slotCell n p)
    (f := fun _ c => (SlotFields.cleared, if c.1 = SlotFields.cleared then c.2 else s.tracker.cycles))
    (fun p _ h => h.write p _)
    (fun p q u h => by
      have cell := writeSlot_cell h.wf n p q SlotFields.cleared
      rwa [h.tracker] at cell)
    distinct (.refl wf n) q

/-! ## The held permit (03 R58) -/

theorem Setup.activeAt_zero {c : Setup} (count : c.rosterCount ≠ 0) : c.activeAt 0 = true := by
  refine (c.activeAt_iff 0).mpr ⟨?_, fun q h => absurd h (by simp)⟩
  exact Nat.pos_of_ne_zero fun h => count (Fin.ext h)

/-- The permit of the slots: under ADVISE they do not count. -/
theorem freePermit_eq (s : State) (n : StationId) :
    s.freePermit n = ((s.station n).setup.advise || (decide ((s.station n).setup.rosterCount ≠ 0) &&
      decide (∀ q : SlotId, (s.station n).setup.activeAt q = true → s.slotVerdict n q = 0x01))) := by
  unfold State.freePermit
  dsimp only
  generalize (s.station n).setup = c
  by_cases none : c.rosterCount = 0
  · simp [stationStateOf, none, permitOf]
  · have all : ((c.activeSlots.map (s.slotVerdict n)).all fun v => v = slotGenuine) = true ↔
        ∀ q : SlotId, c.activeAt q = true → s.slotVerdict n q = 0x01 := by
      simp only [List.all_map, List.all_eq_true, Setup.mem_activeSlots, Function.comp, decide_eq_true_iff]
      rfl
    have bad {b : Byte} (other : b ≠ 0x01) (has : (c.activeSlots.map (s.slotVerdict n)).contains b = true) :
        ¬∀ q : SlotId, c.activeAt q = true → s.slotVerdict n q = 0x01 := by
      obtain ⟨q, active, eq⟩ := List.mem_map.mp (List.contains_iff_mem.mp has)
      exact fun h => other (eq ▸ h q ((c.mem_activeSlots q).mp active))
    unfold stationStateOf
    simp only [Bool.not_true, Bool.false_eq_true, if_false, if_neg none]
    split_ifs with counterfeit unreadable suspect genuine
    · rw [decide_eq_false (bad (by decide) counterfeit), Bool.and_false, Bool.or_false]
      rfl
    · rw [decide_eq_false (bad (by decide) unreadable), Bool.and_false, Bool.or_false]
      rfl
    · rw [decide_eq_false (bad (by decide) suspect), Bool.and_false, Bool.or_false]
      rfl
    · rw [decide_eq_true (all.mp genuine), decide_eq_true none, Bool.and_self, Bool.or_true]
      rfl
    · rw [decide_eq_false (mt all.mpr genuine), Bool.and_false, Bool.or_false]
      rfl

/-- Cleared slots give the permit of ADVISE alone. -/
theorem freePermit_cleared (cleared : ∀ p, s.readSlot n p = SlotFields.cleared) :
    s.freePermit n = (s.station n).setup.advise := by
  have verdict (p : SlotId) : s.slotVerdict n p = 0x00 := congrArg SlotFields.verdict (cleared p)
  rw [freePermit_eq]
  by_cases count : (s.station n).setup.rosterCount = 0
  · simp [count]
  · have open_ : ¬∀ q : SlotId, (s.station n).setup.activeAt q = true → s.slotVerdict n q = 0x01 := fun h =>
      absurd ((verdict 0).symm.trans (h 0 (Setup.activeAt_zero count))) (by decide)
    rw [decide_eq_false open_, Bool.and_false, Bool.or_false]

theorem refreshHeldPermit_frame (s : State) (n : StationId) :
    s.refreshHeldPermit n = { s with stations := (s.refreshHeldPermit n).stations } := by
  unfold State.refreshHeldPermit
  split_ifs <;> rfl

theorem refreshHeldPermit_station (s : State) (n m : StationId) :
    (s.refreshHeldPermit n).station m = if m = n then { s.station n with
        heldPermit := if s.held n = true then s.freePermit n else (s.station n).heldPermit }
      else s.station m := by
  unfold State.refreshHeldPermit
  by_cases held : s.held n = true
  · rw [if_pos held, if_pos held, State.station_modStation]
  · rw [if_neg held, if_neg held]
    split_ifs with own
    · rw [own]
    · rfl

/-! ## An event that has brought a station to a record -/

/-- State u is state s with an event of station n acted on, but its record not settled. -/
structure Acted (s u : State) (n : StationId) : Prop where
  wf : Memory.wf u.mem = true
  regs : u.regs = s.regs
  tracker : u.tracker = s.tracker
  stamp : ∀ i, i < 5 → u.byte (stationBase n + 0x14 + i) = s.byte (stationBase n + 0x14 + i)

theorem Acted.settled (h : Acted s u n) : Settled s u (u.settleRecord n (s.recordKey n)) n :=
  settled_of h.wf h.regs (congrArg Tracker.cycles h.tracker) h.stamp

theorem modStation_acted (wf : Memory.wf s.mem = true) (n : StationId) (f : Station → Station) :
    Acted s (s.modStation n f) n := ⟨wf, rfl, rfl, fun _ _ => rfl⟩

theorem stamp_apart {i : Nat} (small : i < 5) (o : Nat) (slot : slotOffset o = true) :
    stationBase n + 0x14 + i ≠ stationBase n + o := by
  simp only [slotOffset, Bool.and_eq_true, decide_eq_true_iff] at slot
  omega

theorem Acted.onSlots (h : Acted s u n) (k : OnSlots u v n) : Acted s v n :=
  ⟨k.wf, by rw [k.frame]; exact h.regs, k.tracker.trans h.tracker,
    fun i small => (k.bytes _ fun o slot => stamp_apart small o slot).trans (h.stamp i small)⟩

theorem Acted.refresh (h : Acted s u n) : Acted s (u.refreshHeldPermit n) n := by
  rw [refreshHeldPermit_frame]
  exact ⟨h.wf, h.regs, h.tracker, h.stamp⟩

/-- A station changed, and a byte of its record written. -/
@[irreducible] def State.recorded (s : State) (n : StationId) (f : Station → Station) (o : Nat) (b : Byte) : State :=
  (s.modStation n f).put (stationBase n + o) [b]

section
variable {f : Station → Station} {o : Nat} {b : Byte}

theorem recorded_frame (s : State) (n : StationId) (f : Station → Station) (o : Nat) (b : Byte) :
    s.recorded n f o b = { s.modStation n f with mem := (s.recorded n f o b).mem } := by
  unfold State.recorded
  rfl

theorem recorded_byte (wf : Memory.wf s.mem = true) (n : StationId) (f : Station → Station) (o : Nat) (b : Byte) (a : Nat) :
    (s.recorded n f o b).byte a = if a = stationBase n + o then b else s.byte a := by
  unfold State.recorded
  exact put_one (t := s.modStation n f) wf _ _ a

theorem recorded_station (s : State) (n m : StationId) (f : Station → Station) (o : Nat) (b : Byte) :
    (s.recorded n f o b).station m = if m = n then f (s.station n) else s.station m := by
  rw [State.station_eq (t := s.recorded n f o b) (s := s.modStation n f) (by rw [recorded_frame]), State.station_modStation]

theorem recorded_acted (wf : Memory.wf s.mem = true) (n : StationId) (f : Station → Station) (b : Byte)
    (below : o = 0x11 ∨ o = 0x13) : Acted s (s.recorded n f o b) n := by
  refine ⟨?_, by rw [recorded_frame]; rfl, by rw [recorded_frame]; rfl, fun i small => ?_⟩
  · unfold State.recorded
    exact State.wf_put _ _ wf
  · rw [recorded_byte wf, if_neg (by omega)]

/-- An event that writes present or fault cause, and clears no slot. -/
theorem recorded_settled (wf : Memory.wf s.mem = true) (n : StationId) (f : Station → Station) (b : Byte)
    (below : o = 0x11 ∨ o = 0x13) :
    let t := s.stationEvent n fun s => s.recorded n f o b
    t = { s with mem := t.mem, stations := t.stations, regs := s.flagRaised t n } ∧
    t.station n = { f (s.station n) with permit := (t.station n).permit } ∧
    (∀ m, m ≠ n → t.station m = s.station m) ∧
    t.byte (stationBase n + o) = b ∧
    t.byte (stationBase n + (0x24 - o)) = s.byte (stationBase n + (0x24 - o)) ∧ s.recordFollows t n ∧
    (∀ a, (∀ o, eventOffset o = true → a ≠ stationBase n + o) → t.byte a = s.byte a) ∧ Memory.wf t.mem = true := by
  intro t
  have acted := recorded_acted wf n f b below
  have settled : Settled s (s.recorded n f o b) t n := acted.settled
  have byte := recorded_byte wf n f o b
  have station := recorded_station s n (f := f) (o := o) (b := b)
  have frame := recorded_frame s n f o b
  generalize t = t at settled ⊢
  generalize s.recorded n f o b = u at settled byte station frame
  refine ⟨?_, ?_, fun m other => ?_, ?_, ?_, settled.record, fun a apart => ?_, settled.wf⟩
  · refine settled.frame.trans ?_
    rw [frame]
    rfl
  · rw [settled.own, station, if_pos rfl]
  · rw [settled.others m other, station, if_neg other]
  · rw [settled.bytes _ (by omega) (by omega), byte, if_pos rfl]
  · rw [settled.bytes _ (by omega) (by omega), byte, if_neg (by omega)]
  · rw [settled.mem_apart apart, byte, if_neg]
    refine apart o ?_
    obtain rfl | rfl := below <;> decide

/-- An event that writes present or fault cause and resets every slot (03 R48, R53, R62). -/
theorem cleared_settled (wf : Memory.wf s.mem = true) (n : StationId) (f : Station → Station) (b : Byte)
    (below : o = 0x11 ∨ o = 0x13) :
    let t := s.stationEvent n fun s => ((s.recorded n f o b).resetSlots n allSlots).refreshHeldPermit n
    let x := f (s.station n)
    t = { s with mem := t.mem, stations := t.stations, regs := s.flagRaised t n } ∧
    t.station n = { x with
      heldPermit := if s.held n = true then x.setup.advise else x.heldPermit, permit := (t.station n).permit } ∧
    (∀ m, m ≠ n → t.station m = s.station m) ∧
    t.byte (stationBase n + o) = b ∧
    t.byte (stationBase n + (0x24 - o)) = s.byte (stationBase n + (0x24 - o)) ∧ s.recordFollows t n ∧
    (∀ p, t.slotCell n p =
      (SlotFields.cleared, if s.readSlot n p = SlotFields.cleared then s.long (slotBase n p + 0x10) else s.tracker.cycles)) ∧
    (∀ a, (∀ o, (eventOffset o = true ∨ slotOffset o = true) → a ≠ stationBase n + o) → t.byte a = s.byte a) ∧
    Memory.wf t.mem = true := by
  intro t x
  have acted := recorded_acted wf n f b below
  have byte := recorded_byte wf n f o b
  have station := recorded_station s n (f := f) (o := o) (b := b)
  have frame := recorded_frame s n f o b
  have slots := resetSlots_onSlots acted.wf n allSlots
  have cells := fun q => resetSlots_cell (n := n) acted.wf allSlots_nodup q
  have acted' := (acted.onSlots slots).refresh
  have settled : Settled s (((s.recorded n f o b).resetSlots n allSlots).refreshHeldPermit n) t n := acted'.settled
  have refreshed := refreshHeldPermit_station ((s.recorded n f o b).resetSlots n allSlots) n
  have held := refreshHeldPermit_frame ((s.recorded n f o b).resetSlots n allSlots) n
  generalize t = t at settled ⊢
  generalize ((s.recorded n f o b).resetSlots n allSlots).refreshHeldPermit n = w at settled refreshed held acted'
  generalize (s.recorded n f o b).resetSlots n allSlots = v at slots cells refreshed held
  generalize s.recorded n f o b = u at byte station frame slots cells acted
  have held_byte (a : Nat) : w.byte a = v.byte a := State.byte_congr (by rw [held]) a
  have record (o' : Nat) (at_ : o' = 0x11 ∨ o' = 0x13) : t.byte (stationBase n + o') = u.byte (stationBase n + o') := by
    rw [settled.bytes _ (by omega) (by omega), held_byte, slots.bytes _ fun i slot => ?_]
    simp only [slotOffset, Bool.and_eq_true, decide_eq_true_iff] at slot
    omega
  have cell (p : SlotId) : t.slotCell n p = v.slotCell n p := by
    refine slotCell_congr fun i small => ?_
    rw [settled.bytes, held_byte] <;> simp only [slotBase] <;> omega
  have start (p : SlotId) : u.slotCell n p = s.slotCell n p := by
    refine slotCell_congr fun i small => ?_
    rw [byte, if_neg]
    simp only [slotBase]
    omega
  have cleared (p : SlotId) := (cells p).trans (if_pos (mem_allSlots p))
  have free : v.freePermit n = (f (s.station n)).setup.advise := by
    rw [freePermit_cleared fun p => congrArg Prod.fst (cleared p), State.station_eq (s := u) (by rw [slots.frame]), station,
      if_pos rfl]
  have vstation (m : StationId) : v.station m = if m = n then f (s.station n) else s.station m := by
    rw [State.station_eq (s := u) (by rw [slots.frame]), station]
  have vheld : v.held n = s.held n := by
    rw [slots.frame, frame]
    rfl
  refine ⟨?_, ?_, fun m other => ?_, ?_, ?_, settled.record, fun p => ?_, fun a apart => ?_, settled.wf⟩
  · refine settled.frame.trans ?_
    rw [held, slots.frame, frame]
    rfl
  · rw [settled.own, refreshed, if_pos rfl, vstation, if_pos rfl, free, vheld]
  · rw [settled.others m other, refreshed, if_neg other, vstation, if_neg other]
  · rw [record o below, byte, if_pos rfl]
  · rw [record _ (by omega), byte, if_neg (by omega)]
  · rw [cell, cleared, start]
    have tracker : u.tracker = s.tracker := acted.tracker
    rw [tracker]
    rfl
  · rw [settled.mem_apart fun o' event => apart o' (.inl event), held_byte, slots.bytes a fun o' slot => apart o' (.inr slot),
      byte, if_neg]
    refine apart o (.inl ?_)
    obtain rfl | rfl := below <;> decide

end

/-! ## Loss mark, stop and notice (03 R48, R53, R56) -/

theorem markLoss_frame (s : State) (n : StationId) (l : Loss) :
    s.markLoss n l = { s with stations := (s.markLoss n l).stations } := by
  unfold State.markLoss
  split_ifs <;> rfl

theorem markLoss_station (s : State) (n m : StationId) (l : Loss) :
    (s.markLoss n l).station m = if m = n then { s.station n with
        lossMark := if s.held n = true ∧ (s.station n).lossMark = none then some l else (s.station n).lossMark }
      else s.station m := by
  unfold State.markLoss
  by_cases held : s.held n = true
  · rw [if_pos held, State.station_modStation]
    simp only [held, true_and]
    cases (s.station n).lossMark <;> rfl
  · rw [if_neg held]
    split_ifs with own hold
    · exact absurd hold.1 held
    · rw [own]
    · rfl

theorem sendStop_frame (s : State) (n : StationId) (x : Stop) :
    s.sendStop n x = { s with engines := (s.sendStop n x).engines } := by
  unfold State.sendStop
  split <;> rfl

theorem sendStop_engine (s : State) (n : StationId) (x : Stop) (e : EngineId) :
    (s.sendStop n x).engine e =
      if s.holder n = some e then { s.engine e with stops := (s.engine e).stops ++ [x] } else s.engine e := by
  unfold State.sendStop
  cases holder : s.holder n with
  | none => rfl
  | some e' =>
    dsimp only
    rw [State.engine_modEngine]
    by_cases own : e = e'
    · rw [if_pos own, own, if_pos rfl]
    · rw [if_neg own, if_neg fun h => own (Option.some.inj h).symm]

/-- The holder and the list are told of a station that is lost. -/
def State.lose (s : State) (n : StationId) (x : Stop) (l : Loss) (ev : StationEvent) : State :=
  ((s.sendStop n x).markLoss n l).tellList n ev

theorem lose_frame (s : State) (n : StationId) (x : Stop) (l : Loss) (ev : StationEvent) :
    s.lose n x l ev = { s with
      engines := (s.lose n x l ev).engines, stations := (s.lose n x l ev).stations
      notices := s.notices ++ [{ station := n, event := ev }] } := by
  unfold State.lose State.tellList
  rw [markLoss_frame, sendStop_frame]
  rfl

theorem lose_engine (s : State) (n : StationId) (x : Stop) (l : Loss) (ev : StationEvent) (e : EngineId) :
    (s.lose n x l ev).engine e =
      if s.holder n = some e then { s.engine e with stops := (s.engine e).stops ++ [x] } else s.engine e := by
  rw [← sendStop_engine]
  exact State.engine_eq (by rw [State.lose, State.tellList, State.setNotices_engines, markLoss_frame]) e

theorem lose_station (s : State) (n m : StationId) (x : Stop) (l : Loss) (ev : StationEvent) :
    (s.lose n x l ev).station m = if m = n then { s.station n with
        lossMark := if s.held n = true ∧ (s.station n).lossMark = none then some l else (s.station n).lossMark }
      else s.station m := by
  have marked := markLoss_station (s.sendStop n x) n m l
  have held : (s.sendStop n x).held n = s.held n := by rw [sendStop_frame]; rfl
  have station (m : StationId) : (s.sendStop n x).station m = s.station m := State.station_eq (by rw [sendStop_frame]) m
  rw [held, station, station] at marked
  exact marked

theorem lose_permit (s : State) (n : StationId) (x : Stop) (l : Loss) (ev : StationEvent) :
    SamePermits s (s.lose n x l ev) :=
  tellList_permits (markLoss_permits (sendStop_permits (.refl s) n x) n l) n ev

/-! ## Fit and removal (03 R52, R53) -/

theorem takeFit_eq (s : State) (n : StationId) :
    s.takeFit n =
      s.stationEvent n fun s => s.recorded n (fun t => { t with present := true, count := 0, due := false }) 0x11 1 := by
  unfold State.recorded
  rfl

theorem takeRemoval_eq (s : State) (n : StationId) :
    s.takeRemoval n = (s.stationEvent n fun s =>
      ((s.recorded n (fun t => { t with present := false, count := 0, due := false }) 0x11 0).resetSlots n
        allSlots).refreshHeldPermit n).lose n (.removal n) .partRemoved .presenceLost := by
  unfold State.recorded
  rfl

theorem filterDue_of (configured : s.regs.snapshot ≠ none) (on : (s.station n).setup.enabled = true)
    (due : (s.station n).due = true) (level : Bool) (differ : (s.station n).present = !level) :
    s.filterDue n level = true := by
  have running : s.configured = true := (State.configured_iff s).mpr configured
  rw [State.filterDue, running, on, due, differ]
  cases level <;> rfl

/-- PERMITn of a record that follows, of a station that is off, in FAULT or not present. -/
theorem State.recordFollows.lost (h : s.recordFollows t n)
    (lost : (t.station n).setup.enabled = false ∨ (t.station n).fault = true ∨ (t.station n).present = false) :
    (t.station n).permit = false := by
  obtain ⟨_, permit, _⟩ := h
  rw [permit]
  refine permitOf_lost _ _ _ (stationStateOf_lost _ _ _ _ _ _ ?_)
  exact lost.imp (fun off => by rw [off, Bool.and_false]) id

/-- Settles O36: both events by the rule of their record. -/
theorem fitAndRemoval : Obligations.FitAndRemoval := by
  refine ⟨fun s n wf running configured on due absent => ?_, fun s n wf running configured on due present => ?_⟩
  · have done : exec (.fit n) s = .next (s.takeFit n) := by
      change execFit n s = _
      simp [execFit, State.whenever, running, filterDue_of configured on due true absent]
    rw [takeFit_eq] at done
    obtain ⟨frame, own, others, at_, cause, follows, bytes, _⟩ := recorded_settled wf n
      (fun t => { t with present := true, count := 0, due := false }) 1 (o := 0x11) (.inl rfl)
    exact ⟨_, done, frame, own, others, at_, cause, follows, bytes⟩
  · have done : exec (.removal n) s = .next (s.takeRemoval n) := by
      change execRemoval n s = _
      simp [execRemoval, State.whenever, running, filterDue_of configured on due false present]
    rw [takeRemoval_eq] at done
    obtain ⟨frame, own, others, at_, cause, follows, cells, bytes, _⟩ := cleared_settled wf n
      (fun t => { t with present := false, count := 0, due := false }) 0 (o := 0x11) (.inl rfl)
    generalize (s.stationEvent n _) = t at done frame own others at_ cause follows cells bytes
    have closed : (t.station n).permit = false := follows.lost (.inr (.inr (by rw [own])))
    have held : t.held n = s.held n := by rw [frame]; rfl
    have holder : t.holder n = s.holder n := by rw [frame]; rfl
    have engine (e : EngineId) : t.engine e = s.engine e := State.engine_eq (by rw [frame]) e
    have lost := lose_frame t n (.removal n) .partRemoved .presenceLost
    have mem : (t.lose n (.removal n) .partRemoved .presenceLost).mem = t.mem := by rw [lost]
    have byte := State.byte_congr mem
    refine ⟨_, done, ?_, ?_, fun m other => ?_, fun e => ?_, ?_, ?_, ?_, fun p => ?_, fun a apart => ?_⟩
    · rw [State.flagRaised_congr mem, lost]
      generalize s.flagRaised t n = r at frame
      rw [frame]
    · rw [closed] at own
      rw [lose_station, if_pos rfl, held, own]
    · rw [lose_station, if_neg other, others m other]
    · rw [lose_engine, holder, engine]
    · rw [byte, at_]
    · rw [byte]
      exact cause
    · exact follows.of_same (lose_permit t n _ _ _ n) mem
    · have cell := (slotCell_congr fun _ _ => byte _).trans (cells p)
      exact ⟨congrArg Prod.fst cell, congrArg Prod.snd cell⟩
    · rw [byte, bytes a apart]

/-! ## Faults (03 R62 to R64) -/

theorem takeFault_eq (free : (s.station n).fault = false) (cause : FaultCause) :
    s.takeFault n cause = ((s.stationEvent n fun s =>
      ((s.recorded n (fun t => { t with fault := true }.startRecheck) 0x13 cause.code).resetSlots n
        allSlots).refreshHeldPermit n).markLoss n .lineFault).tellList n .faulted := by
  unfold State.takeFault State.recorded
  rw [free, if_neg Bool.false_ne_true]
  rfl

theorem clearFault_eq (s : State) (n : StationId) :
    s.clearFault n =
      s.stationEvent n fun s => s.recorded n (fun t => { t with fault := false, recheck := none }) 0x13 0 := by
  unfold State.recorded
  rfl

/-- A fault taken by a station without one (03 R62). -/
theorem takeFault_free (wf : Memory.wf s.mem = true) (free : (s.station n).fault = false) (cause : FaultCause) :
    let t := s.takeFault n cause
    t = { s with
      mem := t.mem, stations := t.stations, regs := s.flagRaised t n
      notices := s.notices ++ [{ station := n, event := .faulted }] } ∧
    t.station n = { s.station n with
      fault := true, permit := false
      recheck := if (s.station n).setup.auto then some 100 else none
      heldPermit := if s.held n then (s.station n).setup.advise else (s.station n).heldPermit
      lossMark := if s.held n ∧ (s.station n).lossMark = none then some .lineFault else (s.station n).lossMark } ∧
    (∀ m, m ≠ n → t.station m = s.station m) ∧
    t.byte (stationBase n + 0x13) = cause.code ∧
    s.recordFollows t n ∧ (∀ p, t.readSlot n p = SlotFields.cleared) ∧
    ∀ a, (∀ o, (eventOffset o = true ∨ slotOffset o = true) → a ≠ stationBase n + o) → t.byte a = s.byte a := by
  rw [takeFault_eq free]
  obtain ⟨frame, own, others, at_, _, follows, cells, bytes, _⟩ := cleared_settled wf n
    (fun t => { t with fault := true }.startRecheck) cause.code (o := 0x13) (.inr rfl)
  generalize (s.stationEvent n _) = t at frame own others at_ follows cells bytes ⊢
  have closed : (t.station n).permit = false := follows.lost (.inr (.inl (by rw [own]; rfl)))
  have held : t.held n = s.held n := by rw [frame]; rfl
  have marked := markLoss_frame t n .lineFault
  have station (m : StationId) := markLoss_station t n m .lineFault
  have same : SamePermits t ((t.markLoss n .lineFault).tellList n .faulted) :=
    tellList_permits (markLoss_permits (.refl t) n _) n _
  have mem : ((t.markLoss n .lineFault).tellList n .faulted).mem = t.mem := by
    rw [State.tellList, State.setNotices_mem, marked]
  have byte := State.byte_congr mem
  refine ⟨?_, ?_, fun m other => ?_, (byte _).trans at_, follows.of_same (same n) mem, fun p => ?_, fun a apart => ?_⟩
  · rw [State.flagRaised_congr mem, State.tellList, marked]
    generalize s.flagRaised t n = r at frame
    rw [frame]
    rfl
  · refine (station n).trans ?_
    rw [closed] at own
    rw [if_pos rfl, held, own]
    rfl
  · exact (station m).trans ((if_neg other).trans (others m other))
  · exact congrArg Prod.fst ((slotCell_congr fun _ _ => byte _).trans (cells p))
  · rw [byte, bytes a apart]

/-- Settles O37: a report by whether a fault is in force, a recheck by hold and echo line. -/
theorem faultsAreLatchedAndCleared : Obligations.FaultsAreLatchedAndCleared := by
  refine ⟨fun s e cause j wf running report job => ?_, fun s n echo wf running configured fault recheck => ?_⟩
  · intro n taken
    have done : exec (.faultReport e) s = .next (taken.takeFault n cause) := by
      change execFaultReport e s = _
      simp [execFaultReport, report, job, State.whenever, running, taken, n]
    refine ⟨fun fault => ?_, fun free => ?_⟩
    · rw [done]
      exact congrArg Host.Outcome.next (if_pos fault)
    · obtain ⟨frame, own, others, at_, follows, cleared, bytes⟩ := takeFault_free (s := taken) wf free cause
      refine ⟨_, done, frame, own, others, at_.trans ?_, follows, cleared, bytes⟩
      cases cause <;> rfl
  · let u := s.sampleEcho echo
    have ticking : s.rechecking n = true := by
      have on : s.configured = true := (State.configured_iff s).mpr configured
      rw [State.rechecking, on, fault, Option.isSome_iff_ne_none.mpr recheck]
      rfl
    have done : exec (.recheckExpiry n echo) s = .next (if u.held n || u.echoHigh n then
        u.modStation n fun t => { t with recheck := some Config.recheckPeriod } else u.clearFault n) := by
      change execRecheckExpiry n echo s = _
      simp only [execRecheckExpiry, State.whenever, running, ticking]
      rfl
    by_cases runs : s.held n = true ∨ echo.getLsbD n.val = true
    · have branch : (u.held n || u.echoHigh n) = true := Bool.or_eq_true_iff.mpr runs
      rw [branch, if_pos rfl] at done
      refine ⟨_, done, fun m other => State.station_modStation_other _ _ _ _ other, rfl,
        fun _ => ⟨rfl, rfl, State.station_modStation_self _ _ _⟩, fun free low => ?_⟩
      exact runs.elim (fun held => absurd (held.symm.trans free) Bool.noConfusion)
        fun high => absurd (high.symm.trans low) Bool.noConfusion
    · have branch : (u.held n || u.echoHigh n) = false := by
        rw [Bool.or_eq_false_iff]
        exact ⟨Bool.eq_false_iff.mpr fun h => runs (.inl h), Bool.eq_false_iff.mpr fun h => runs (.inr h)⟩
      rw [branch, if_neg Bool.false_ne_true, clearFault_eq] at done
      obtain ⟨frame, own, others, at_, _, follows, bytes, _⟩ := recorded_settled (s := u) wf n
        (fun t => { t with fault := false, recheck := none }) 0 (o := 0x13) (.inr rfl)
      generalize (u.stationEvent n _) = t at done frame own others at_ follows bytes
      have regs : t.regs = u.flagRaised t n := by
        generalize u.flagRaised t n = r at frame ⊢
        rw [frame]
      refine ⟨t, done, others, ?_, fun holds => absurd holds runs, fun _ _ => ⟨own, at_, follows, regs, bytes⟩⟩
      rw [regs]
      exact frame

end

end Sys2Proof.Machine
end

section
/-! The fast kinds at intake, and a delivery into a slot (02 R37, R38, 03 R59, R60). -/

namespace Sys2Proof.Machine

section
variable {s t u v : State} {n m : StationId} {k : CardId}

theorem stationBase_bound (n : StationId) : 0x100 ≤ stationBase n ∧ stationBase n + 128 ≤ 0x700 := by
  unfold stationBase
  omega

/-- A record that follows goes on to follow while its bytes and what it rests on stay. -/
theorem State.recordFollows.of_bytes (h : s.recordFollows t n) (same : SamePermit n t u)
    (bytes : ∀ o, o < 0x20 → u.byte (stationBase n + o) = t.byte (stationBase n + o)) : s.recordFollows u n := by
  obtain ⟨code, permit, moved⟩ := h
  have part := same.part
  simp only [Station.permitPart, Prod.mk.injEq] at part
  obtain ⟨⟨_, advise, _, _⟩, _, _, heldPermit, given⟩ := part
  have key : u.recordKey n = t.recordKey n := by
    simp only [State.recordKey, bytes stState (by decide), bytes stPresent (by decide), bytes stFaultCause (by decide)]
  have stamp : u.long (stationBase n + stStamp) = t.long (stationBase n + stStamp) :=
    State.long_congr fun i small => by rw [Nat.add_assoc]; exact bytes _ (by unfold stStamp; omega)
  refine ⟨?_, ?_, ?_⟩
  · rw [bytes stState (by decide), same.held, same.derived, code]
  · rw [same.held, same.derived, advise, heldPermit, given, permit]
  · rw [key, stamp, bytes stChangeFlag (by decide)]
    exact moved

theorem State.flagRaised_of_bytes (bytes : ∀ o, o < 0x20 → u.byte (stationBase n + o) = t.byte (stationBase n + o)) :
    s.flagRaised u n = s.flagRaised t n := by
  have key : u.recordKey n = t.recordKey n := by
    simp only [State.recordKey, bytes stState (by decide), bytes stPresent (by decide), bytes stFaultCause (by decide)]
  rw [State.flagRaised, key, State.flagRaised]

theorem flagRaised_enable (s t : State) (n : StationId) : (s.flagRaised t n).enable = s.regs.enable := by
  unfold State.flagRaised
  split_ifs <;> rfl

theorem flagRaised_snapshot (s t : State) (n : StationId) : (s.flagRaised t n).snapshot = s.regs.snapshot := by
  unfold State.flagRaised
  split_ifs <;> rfl

/-! ## The fast kinds (02 R37, R38) -/

theorem intakeCard_fast (noCancel : s.byte (cardBase k + 0x01) = 0)
    (fast : s.byte (cardBase k + 0x02) ∈ ([0x10, 0x11] : List Byte))
    (at_ : (s.byte (cardBase k + 0x04)).toNat = n.val) (on : (s.station n).setup.enabled = true) :
    s.intakeCard k = if s.byte (cardBase k + 0x02) = 0x10 then s.intakeClearFault k n else s.intakeForget k n := by
  rw [intakeCard_checked noCancel, validate_fast (h := s.readHeader k) fast at_ on]
  dsimp only
  obtain clear | forget : s.byte (cardBase k + 0x02) = 0x10 ∨ s.byte (cardBase k + 0x02) = 0x11 := by simpa using fast
  · rw [if_pos clear, if_pos (show _ = kindClearFault from clear)]
  · have notClear : s.byte (cardBase k + 0x02) ≠ 0x10 := by rw [forget]; decide
    rw [if_neg notClear, if_neg (show _ ≠ kindClearFault from notClear), if_pos (show _ = kindForget from forget)]

/-- A card that ends after an event of the Supervisor in the same burst. -/
theorem endBlank_event (wf : Memory.wf v.mem = true)
    (frame : v = { u with mem := v.mem, stations := v.stations, regs := u.flagRaised v n })
    (flags : v.byte (cardBase k + cdFlags) = u.byte (cardBase k + cdFlags)) (follows : u.recordFollows v n)
    (status : Byte) (err : ErrorCode) :
    let t := (v.endBlank k status err).nextVisit k
    t = { u with
      sweeper := u.sweeper.visited k u.regs.enable, mem := t.mem, stations := t.stations, regs := t.regs } ∧
    u.endsBlank t k status err ∧ t.stations = v.stations ∧ u.recordFollows t n ∧
    t.regs = (u.flagRaised t n).cardEnded (u.cardNotify k) ∧ ∀ a, outsideResult k a → t.byte a = v.byte a := by
  obtain ⟨ended, blank, outside⟩ := endBlank_visit wf k status err
  have same : SamePermit n v _ := nextVisit_permits (endBlank_permits (.refl v) k status err) k n
  generalize (v.endBlank k status err).nextVisit k = t at ended blank outside same ⊢
  have bounds := stationBase_bound n
  have bytes (o : Nat) (small : o < 0x20) : t.byte (stationBase n + o) = v.byte (stationBase n + o) :=
    outside _ ⟨by unfold cardBase; omega, .inl (by unfold cardBase; omega)⟩
  have regs : v.regs = u.flagRaised v n := by
    generalize u.flagRaised v n = r at frame ⊢
    rw [frame]
  have notify : v.cardNotify k = u.cardNotify k := by rw [State.cardNotify, flags, State.cardNotify]
  have sweeper : v.sweeper = u.sweeper := by rw [frame]
  have tracker : v.tracker = u.tracker := by rw [frame]
  refine ⟨?_, ?_, by rw [ended], follows.of_bytes same bytes, ?_, outside⟩
  · have enable : v.regs.enable = u.regs.enable := by rw [regs, flagRaised_enable]
    rw [enable, sweeper] at ended
    generalize u.sweeper.visited k u.regs.enable = w at ended ⊢
    generalize v.regs.cardEnded (v.cardNotify k) = r at ended
    generalize u.flagRaised v n = r' at frame
    rw [ended, frame]
  · unfold State.endsBlank at blank ⊢
    rwa [tracker] at blank
  · rw [State.flagRaised_of_bytes bytes, ← regs, ← notify]
    generalize v.regs.cardEnded (v.cardNotify k) = r at ended ⊢
    rw [ended]

/-- The slots as FORGET leaves them. -/
def SlotFields.forgotten (f : SlotFields) : SlotFields := { f with verdict := slotUnverified, score := 0 }

/-- FORGET's walk over the slots. -/
def State.forgets (s : State) (n : StationId) : State :=
  forAll allSlots (fun p t => t.writeSlot n p (t.readSlot n p).forgotten) s

theorem forgets_onSlots (wf : Memory.wf s.mem = true) (n : StationId) : OnSlots s (s.forgets n) n :=
  forAll_invariant (P := fun u => OnSlots s u n) (fun p _ h => h.write p _) allSlots (.refl wf n)

theorem forgets_cell (wf : Memory.wf s.mem = true) (n : StationId) (q : SlotId) :
    (s.forgets n).slotCell n q = ((s.readSlot n q).forgotten,
      if s.readSlot n q = (s.readSlot n q).forgotten then s.long (slotBase n q + 0x10) else s.tracker.cycles) :=
  (forAll_place_of (P := fun u => OnSlots s u n) (read := fun u p => u.slotCell n p)
    (f := fun _ c => (c.1.forgotten, if c.1 = c.1.forgotten then c.2 else s.tracker.cycles))
    (fun p _ h => h.write p _)
    (fun p q u h => by
      have cell := writeSlot_cell h.wf n p q (u.readSlot n p).forgotten
      rwa [h.tracker] at cell)
    allSlots_nodup (.refl wf n) q).trans (if_pos (mem_allSlots q))

/-- An event that only writes slots. -/
theorem onSlots_settled (h : OnSlots s u n) (wf : Memory.wf s.mem = true) :
    let t := u.settleRecord n (s.recordKey n)
    t = { s with mem := t.mem, stations := t.stations, regs := s.flagRaised t n } ∧
    t.station n = { s.station n with permit := (t.station n).permit } ∧
    (∀ m, m ≠ n → t.station m = s.station m) ∧ s.recordFollows t n ∧ (∀ p, t.slotCell n p = u.slotCell n p) ∧
    (∀ a, (∀ o, (eventOffset o = true ∨ slotOffset o = true) → a ≠ stationBase n + o) → t.byte a = s.byte a) ∧
    Memory.wf t.mem = true := by
  intro t
  have start : Acted s s n := ⟨wf, rfl, rfl, fun _ _ => rfl⟩
  have settled : Settled s u t n := (start.onSlots h).settled
  generalize t = t at settled ⊢
  have station (m : StationId) : u.station m = s.station m := State.station_eq (by rw [h.frame]) m
  refine ⟨?_, ?_, fun m other => ?_, settled.record, fun p => ?_, fun a apart => ?_, settled.wf⟩
  · refine settled.frame.trans ?_
    rw [h.frame]
  · rw [settled.own, station]
  · rw [settled.others m other, station]
  · refine slotCell_congr fun i small => ?_
    rw [settled.bytes] <;> simp only [slotBase] <;> omega
  · rw [settled.mem_apart fun o event => apart o (.inl event), h.bytes a fun o slot => apart o (.inr slot)]

theorem card_off_record (k : CardId) (n : StationId) {c o : Nat} (small : o < 128) :
    cardBase k + c ≠ stationBase n + o := by
  have := stationBase_bound n
  unfold cardBase
  omega

theorem offset_small {o : Nat} (h : eventOffset o = true ∨ slotOffset o = true) : o < 128 := by
  simp only [eventOffset, slotOffset, Bool.or_eq_true, Bool.and_eq_true, decide_eq_true_iff] at h
  omega

/-- Settles O33: each fast kind by hold, fault and echo line. -/
theorem intakeRunsTheFastKinds : Obligations.IntakeRunsTheFastKinds := by
  intro s k n bytes echo wf running visit clear same noCancel at_ on kind ends untouched
  let u := s.sampleEcho echo
  have intake : exec (.cardIntake echo) s = .next ((u.intakeCard k).nextVisit k) := by
    rw [exec_cardIntake running visit]
    exact congrArg Host.Outcome.next (intakeVisit_unchanged (s := u) clear same)
  have clears (h : kind = 0x10) : u.intakeCard k = u.intakeClearFault k n :=
    (intakeCard_fast (s := u) noCancel (List.mem_cons.mpr (.inl h)) at_ on).trans (if_pos h)
  have forgets (h : kind = 0x11) : u.intakeCard k = u.intakeForget k n := by
    refine (intakeCard_fast (s := u) noCancel (List.mem_cons_of_mem _ (List.mem_singleton.mpr h)) at_ on).trans (if_neg ?_)
    change ¬kind = 0x10
    rw [h]
    decide
  have plain (status : Byte) (err : ErrorCode) (card : u.intakeCard k = u.endBlank k status err) :
      ∃ t, ends status err t ∧ untouched t := by
    obtain ⟨frame, blank, outside⟩ := endBlank_visit (s := u) wf k status err
    rw [card] at intake
    generalize (u.endBlank k status err).nextVisit k = t at frame blank outside intake
    have regs : t.regs = s.regs.cardEnded (s.cardNotify k) := by rw [frame]; rfl
    refine ⟨t, ⟨intake, ?_, blank, fun m _ => State.station_eq (by rw [frame]; rfl) m⟩,
      State.station_eq (by rw [frame]; rfl) n, regs, outside⟩
    have stations : t.stations = s.stations := by rw [frame]; rfl
    rw [regs, stations]
    exact frame
  refine ⟨fun fast held => plain _ _ ?_, fun cf free noFault => plain _ _ ?_, fun cf free fault high => plain _ _ ?_,
    fun cf free fault low => ?_, fun fg free => ?_⟩
  · obtain cf | fg := fast
    · rw [clears cf, State.intakeClearFault, if_pos (show u.held n = true from held)]
      rfl
    · rw [forgets fg, State.intakeForget, if_pos (show u.held n = true from held)]
      rfl
  · have branch : (!(u.station n).fault) = true := by rw [show (u.station n).fault = false from noFault]; rfl
    rw [clears cf, State.intakeClearFault, if_neg (by rw [show u.held n = false from free]; decide), if_pos branch]
    rfl
  · have branch : (!(u.station n).fault) = false := by rw [show (u.station n).fault = true from fault]; rfl
    rw [clears cf, State.intakeClearFault, if_neg (by rw [show u.held n = false from free]; decide), branch,
      if_neg Bool.false_ne_true, if_pos (show u.echoHigh n = true from high)]
    rfl
  · have branch : (!(u.station n).fault) = false := by rw [show (u.station n).fault = true from fault]; rfl
    have card : u.intakeCard k = (u.clearFault n).endBlank k statusDone .none := by
      rw [clears cf, State.intakeClearFault, if_neg (by rw [show u.held n = false from free]; decide), branch,
        if_neg Bool.false_ne_true, if_neg (by rw [show u.echoHigh n = false from low]; decide)]
    rw [card, clearFault_eq] at intake
    obtain ⟨vframe, vown, vothers, vcause, _, vfollows, vbytes, vwf⟩ := recorded_settled (s := u) wf n
      (fun t => { t with fault := false, recheck := none }) 0 (o := 0x13) (.inr rfl)
    generalize (u.stationEvent n _) = v at intake vframe vown vothers vcause vfollows vbytes vwf
    obtain ⟨frame, blank, stations, follows, regs, outside⟩ := endBlank_event vwf vframe
      (k := k) (vbytes _ fun o h => card_off_record k n (offset_small (.inl h))) vfollows statusDone .none
    generalize (v.endBlank k statusDone .none).nextVisit k = t at intake frame blank stations follows regs outside
    have station := State.station_eq stations
    have bounds := stationBase_bound n
    refine ⟨t, ⟨intake, frame, blank, fun m other => (station m).trans (vothers m other)⟩, follows, ?_, ?_, regs,
      fun a out event => (outside a out).trans (vbytes a event)⟩
    · rw [outside _ ⟨by unfold cardBase; omega, .inl (by unfold cardBase; omega)⟩, vcause]
    · rw [station]
      exact vown
  · have card : u.intakeCard k = (u.forgetSlots n).endBlank k statusDone .none := by
      rw [forgets fg, State.intakeForget, if_neg (by rw [show u.held n = false from free]; decide)]
    rw [card] at intake
    have slots := forgets_onSlots (s := u) wf n
    have cells := forgets_cell (s := u) wf n
    obtain ⟨vframe, vown, vothers, vfollows, vcells, vbytes, vwf⟩ := onSlots_settled slots wf
    change exec _ _ = Host.Outcome.next ((((u.forgets n).settleRecord n (u.recordKey n)).endBlank _ _ _).nextVisit _) at intake
    generalize (u.forgets n).settleRecord n (u.recordKey n) = v at intake vframe vown vothers vcells vfollows vbytes vwf
    obtain ⟨frame, blank, stations, follows, regs, outside⟩ := endBlank_event vwf vframe
      (k := k) (vbytes _ fun o h => card_off_record k n (offset_small h)) vfollows statusDone .none
    generalize (v.endBlank k statusDone .none).nextVisit k = t at intake frame blank stations follows regs outside
    have station := State.station_eq stations
    have bounds := stationBase_bound n
    have cell (p : SlotId) : t.slotCell n p = _ := (slotCell_congr fun o small => outside _ (by
      unfold outsideResult cardBase slotBase
      omega)).trans ((vcells p).trans (cells p))
    refine ⟨t, ⟨intake, frame, blank, fun m other => (station m).trans (vothers m other)⟩, follows, fun p => ?_, ?_, regs,
      fun a out event => (outside a out).trans (vbytes a event)⟩
    · have read : t.readSlot n p = (s.readSlot n p).forgotten := congrArg Prod.fst (cell p)
      have stamp : t.long (slotBase n p + 0x10) = _ := congrArg Prod.snd (cell p)
      refine ⟨read, ?_⟩
      rw [stamp, read]
      simp only [eq_comm (a := (s.readSlot n p).forgotten)]
      rfl
    · rw [station]
      exact vown

/-! ## Events that change nothing -/

theorem Memory.ext_from {m m' : Memory} {low : Nat} (wf : Memory.wfFrom low m = true) (wf' : Memory.wfFrom low m' = true)
    (same : ∀ a, Memory.read m a = Memory.read m' a) : m = m' := by
  induction m generalizing m' low with
  | nil =>
    cases m' with
    | nil => rfl
    | cons c m' =>
      obtain ⟨k, v⟩ := c
      obtain ⟨_, set, _⟩ := (Memory.wfFrom_cons low k v m').mp wf'
      exact absurd ((same k).symm.trans rfl) (by simpa [Memory.read] using set)
  | cons c m ih =>
    obtain ⟨k, v⟩ := c
    obtain ⟨lowK, set, rest⟩ := (Memory.wfFrom_cons low k v m).mp wf
    cases m' with
    | nil => exact absurd (same k) (by simpa [Memory.read] using set)
    | cons c' m' =>
      obtain ⟨k', v'⟩ := c'
      obtain ⟨lowK', set', rest'⟩ := (Memory.wfFrom_cons low k' v' m').mp wf'
      have keys : k = k' := by
        rcases lt_trichotomy k k' with below | eq | above
        · have absent : Memory.read ((k', v') :: m') k = 0 := Memory.read_of_wfFrom
            ((Memory.wfFrom_cons k' k' v' m').mpr ⟨le_refl k', set', rest'⟩) below
          exact absurd ((same k).trans absent) (by simpa [Memory.read] using set)
        · exact eq
        · have absent : Memory.read ((k, v) :: m) k' = 0 := Memory.read_of_wfFrom
            ((Memory.wfFrom_cons k k v m).mpr ⟨le_refl k, set, rest⟩) above
          exact absurd ((same k').symm.trans absent) (by simpa [Memory.read] using set')
      subst keys
      have values : v = v' := by simpa [Memory.read] using same k
      subst values
      refine congrArg _ (ih rest rest' fun a => ?_)
      by_cases own : k = a
      · subst own
        rw [Memory.read_of_wfFrom rest (Nat.lt_succ_self k), Memory.read_of_wfFrom rest' (Nat.lt_succ_self k)]
      · simpa [Memory.read, own] using same a

/-- Memories in canonical form that read the same are the same. -/
theorem State.mem_ext (wf : Memory.wf s.mem = true) (wf' : Memory.wf t.mem = true) (same : ∀ a, t.byte a = s.byte a) :
    t.mem = s.mem := Memory.ext_from wf' wf same

theorem refreshHeldPermit_same (agrees : s.held n = true → (s.station n).heldPermit = s.freePermit n) :
    s.refreshHeldPermit n = s := by
  have stations : (s.refreshHeldPermit n).stations = s.stations := State.stations_ext fun m => by
    rw [refreshHeldPermit_station]
    split_ifs with own held
    · rw [own, ← agrees held]
    · rw [own]
    · rfl
  rw [refreshHeldPermit_frame, stations]

theorem settleRecord_same (wf : Memory.wf s.mem = true) (code : s.byte (stationBase n + 0x10) = (s.derived n (s.held n)).code)
    (permit : (s.station n).permit = permitOf (s.derived n (s.held n)) (s.station n).setup.advise (s.station n).heldPermit) :
    s.settleRecord n (s.recordKey n) = s := by
  have stays : s.recordMoves n (s.recordKey n) = false := by
    refine decide_eq_false (not_not.mpr ?_)
    rw [← code]
    rfl
  have byte := settleRecord_byte wf n (s.recordKey n)
  have wf' := settleRecord_wf wf n (s.recordKey n)
  have station := fun m => settleRecord_station wf n m (s.recordKey n)
  obtain ⟨frame, regs⟩ := settleRecord_frame wf n (s.recordKey n)
  generalize s.settleRecord n (s.recordKey n) = t at byte wf' station frame regs ⊢
  have mem : t.mem = s.mem := State.mem_ext wf wf' fun a => by
    rw [byte, stays, if_neg (c := _ ∧ _) (by simp), if_neg (c := _ ∧ _) (by simp)]
    split_ifs with own
    · rw [own, code]
    · rfl
  have stations : t.stations = s.stations := State.stations_ext fun m => by
    rw [station]
    split_ifs with own
    · rw [own, ← permit]
    · rfl
  rw [stays, if_neg (by simp)] at regs
  rw [frame, mem, stations, regs]

/-! ## A delivery (03 R59, R60) -/

/-- An event that writes slots and takes the held permit from them. -/
theorem refreshed_settled (h : OnSlots s v n) (wf : Memory.wf s.mem = true) :
    let t := (v.refreshHeldPermit n).settleRecord n (s.recordKey n)
    t = { s with mem := t.mem, stations := t.stations, regs := s.flagRaised t n } ∧
    t.station n = { s.station n with
      heldPermit := if s.held n = true then v.freePermit n else (s.station n).heldPermit, permit := (t.station n).permit } ∧
    (∀ m, m ≠ n → t.station m = s.station m) ∧ s.recordFollows t n ∧
    (∀ a, (∀ o, eventOffset o = true → a ≠ stationBase n + o) → t.byte a = v.byte a) ∧ Memory.wf t.mem = true := by
  intro t
  have start : Acted s s n := ⟨wf, rfl, rfl, fun _ _ => rfl⟩
  have settled : Settled s (v.refreshHeldPermit n) t n := ((start.onSlots h).refresh).settled
  have frame := refreshHeldPermit_frame v n
  have refreshed := refreshHeldPermit_station v n
  generalize t = t at settled ⊢
  generalize v.refreshHeldPermit n = w at settled frame refreshed
  have station (m : StationId) : v.station m = s.station m := State.station_eq (by rw [h.frame]) m
  have held : v.held n = s.held n := by
    rw [h.frame]
    rfl
  refine ⟨?_, ?_, fun m other => ?_, settled.record, fun a apart => ?_, settled.wf⟩
  · refine settled.frame.trans ?_
    rw [frame, h.frame]
  · rw [settled.own, refreshed, if_pos rfl, station, held]
  · rw [settled.others m other, refreshed, if_neg other, station]
  · rw [settled.mem_apart apart]
    exact State.byte_congr (by rw [frame]) a

/-- The slot writes of an accepted delivery into slot p. -/
def State.delivered (s : State) (n : StationId) (p : SlotId) (d : Parcel) : State :=
  (s.resetOnSerial n p d).writeSlot n p (((s.resetOnSerial n p d).readSlot n p).deliver d)

/-- The slot that a delivery finds. -/
def SlotFields.found (f : SlotFields) (d : Parcel) : SlotFields :=
  match d.identity with
  | some r => if tagSerial r ≠ f.serial then SlotFields.cleared else f
  | none => f

theorem resetOnSerial_onSlots (wf : Memory.wf s.mem = true) (n : StationId) (p : SlotId) (d : Parcel) :
    OnSlots s (s.resetOnSerial n p d) n := by
  unfold State.resetOnSerial
  split
  · split_ifs
    · exact (OnSlots.refl wf n).write p SlotFields.cleared
    · exact .refl wf n
  · exact .refl wf n

theorem resetOnSerial_cell (wf : Memory.wf s.mem = true) (n : StationId) (p : SlotId) (d : Parcel) :
    (s.resetOnSerial n p d).slotCell n p = ((s.readSlot n p).found d,
      if s.readSlot n p = (s.readSlot n p).found d then s.long (slotBase n p + 0x10) else s.tracker.cycles) := by
  cases identity : d.identity with
  | none =>
    have kept : (s.readSlot n p).found d = s.readSlot n p := by rw [SlotFields.found, identity]
    rw [kept, if_pos rfl, State.resetOnSerial, identity]
    rfl
  | some r =>
    by_cases other : tagSerial r ≠ (s.readSlot n p).serial
    · have cleared : (s.readSlot n p).found d = SlotFields.cleared := by
        rw [SlotFields.found, identity]
        exact if_pos other
      have reset : s.resetOnSerial n p d = s.writeSlot n p SlotFields.cleared := by
        rw [State.resetOnSerial, identity]
        exact if_pos other
      rw [reset, writeSlot_cell wf, if_pos rfl, cleared]
      rfl
    · have kept : (s.readSlot n p).found d = s.readSlot n p := by
        rw [SlotFields.found, identity]
        exact if_neg other
      have stays : s.resetOnSerial n p d = s := by
        rw [State.resetOnSerial, identity]
        exact if_neg other
      rw [stays, kept, if_pos rfl]
      rfl

theorem resetOnSerial_apart (wf : Memory.wf s.mem = true) (n : StationId) (p : SlotId) (d : Parcel) {a : Nat}
    (apart : a < slotBase n p ∨ slotBase n p + 20 ≤ a) : (s.resetOnSerial n p d).byte a = s.byte a := by
  unfold State.resetOnSerial
  split
  · split_ifs
    · exact writeSlot_apart wf n p SlotFields.cleared (apart.imp_right .inl)
    · rfl
  · rfl

theorem delivered_onSlots (wf : Memory.wf s.mem = true) (n : StationId) (p : SlotId) (d : Parcel) :
    OnSlots s (s.delivered n p d) n := (resetOnSerial_onSlots wf n p d).write p _

theorem delivered_apart (wf : Memory.wf s.mem = true) (n : StationId) (p : SlotId) (d : Parcel) {a : Nat}
    (apart : a < slotBase n p ∨ slotBase n p + 20 ≤ a) : (s.delivered n p d).byte a = s.byte a :=
  (writeSlot_apart (resetOnSerial_onSlots wf n p d).wf n p _ (apart.imp_right .inl)).trans
    (resetOnSerial_apart wf n p d apart)

/-- What a delivery leaves of its slot. -/
theorem delivered_cell (wf : Memory.wf s.mem = true) (n : StationId) (p : SlotId) (d : Parcel) :
    (s.delivered n p d).readSlot n p = ((s.readSlot n p).found d).deliver d ∧
    ((s.delivered n p d).readSlot n p ≠ s.readSlot n p →
      (s.delivered n p d).long (slotBase n p + 0x10) = s.tracker.cycles) := by
  have reset := resetOnSerial_cell wf n p d
  have slots := resetOnSerial_onSlots wf n p d
  have found : (s.resetOnSerial n p d).readSlot n p = (s.readSlot n p).found d := congrArg Prod.fst reset
  have cell := (writeSlot_cell slots.wf n p p (((s.resetOnSerial n p d).readSlot n p).deliver d)).trans (if_pos rfl)
  rw [found, reset, slots.tracker] at cell
  unfold State.delivered
  rw [found]
  generalize (s.resetOnSerial n p d).writeSlot n p _ = w at cell ⊢
  have read : w.readSlot n p = ((s.readSlot n p).found d).deliver d := congrArg Prod.fst cell
  refine ⟨read, fun differ => (congrArg Prod.snd cell).trans ?_⟩
  rw [read] at differ
  dsimp only
  split_ifs with kept same
  · exact absurd (kept.symm.trans same.symm) differ
  · rfl
  · rfl

theorem judgeDelivery_accepts (noLoss : (s.station n).lossMark = none) (on : (s.station n).setup.enabled = true)
    (noFault : (s.station n).fault = false) (present : (s.station n).present = true) : s.judgeDelivery n = none := by
  simp [State.judgeDelivery, noLoss, on, noFault, present]

/-- Settles O58: a delivery by what the station has lost, and by its position. -/
theorem deliveryIsJudged : Obligations.DeliveryIsJudged := by
  have done (s : State) (e : EngineId) (j : Job) (d : Parcel) (running : s.inReset = false)
      (phase : (s.engine e).phase = .writing .delivery) (job : (s.engine e).job = some j)
      (parcel : (s.engine e).parcel = some d) : exec (.delivery e) s = .next (s.deliver e j.station d) := by
    change execDelivery e s = _
    simp [execDelivery, job, parcel, phase, State.whenever, running]
  refine ⟨fun s e j l running phase job parcel => ?_, fun s e j d p wf running phase job parcel => ?_,
    fun s e j d wf running phase job parcel => ?_⟩
  · intro x lost
    obtain ⟨d, parcel⟩ := Option.ne_none_iff_exists'.mp parcel
    have refused : s.judgeDelivery j.station = some l := by
      obtain mark | ⟨mark, ⟨off, rfl⟩ | ⟨on, fault, rfl⟩ | ⟨on, free, absent, rfl⟩⟩ := lost
      · simp [State.judgeDelivery, show (s.station j.station).lossMark = some l from mark]
      · simp [State.judgeDelivery, show (s.station j.station).lossMark = none from mark,
          show (s.station j.station).setup.enabled = false from off]
      · simp [State.judgeDelivery, show (s.station j.station).lossMark = none from mark,
          show (s.station j.station).setup.enabled = true from on, show (s.station j.station).fault = true from fault]
      · simp [State.judgeDelivery, show (s.station j.station).lossMark = none from mark,
          show (s.station j.station).setup.enabled = true from on, show (s.station j.station).fault = false from free,
          show (s.station j.station).present = false from absent]
    rw [done s e j d running phase job parcel, State.deliver, refused]
    rfl
  · intro n x old noLoss on noFault present active address
    have accepted := judgeDelivery_accepts (n := n) noLoss on noFault present
    have position := x.setup.positionOf_eq_some active address
    have delivery : s.deliver e n d = State.modEngine
        (((s.delivered n p d).refreshHeldPermit n).settleRecord n (s.recordKey n)) e
        fun g => { g with phase := .writing .terminal, answer := none } := by
      unfold State.deliver State.acceptDelivery State.stationEvent
      rw [accepted]
      dsimp only
      rw [show (s.station n).setup.positionOf _ = some p from position]
      rfl
    have next := done s e j d running phase job parcel
    rw [delivery] at next
    obtain ⟨frame, own, others, follows, bytes, _⟩ := refreshed_settled (delivered_onSlots wf n p d) wf
    obtain ⟨read, stamped⟩ := delivered_cell wf n p d
    have apart (a : Nat) := delivered_apart wf n p d (a := a)
    have free := freePermit_eq (s.delivered n p d) n
    have slots := delivered_onSlots wf n p d
    generalize ((s.delivered n p d).refreshHeldPermit n).settleRecord n (s.recordKey n) = t at next frame own others follows bytes
    generalize s.delivered n p d = v at own bytes read stamped apart free slots
    have station (m : StationId) : v.station m = s.station m := State.station_eq (by rw [slots.frame]) m
    have below (q : SlotId) (o : Nat) (ho : o < 20) (o' : Nat) (event : eventOffset o' = true) :
        slotBase n q + o ≠ stationBase n + o' := by
      simp only [eventOffset, Bool.or_eq_true, Bool.and_eq_true, decide_eq_true_iff] at event
      simp only [slotBase]
      omega
    have cell (q : SlotId) : t.slotCell n q = v.slotCell n q :=
      slotCell_congr fun o small => bytes _ (below q o small)
    have tread : t.readSlot n p = (old.found d).deliver d := (congrArg Prod.fst (cell p)).trans read
    have regs : (t.modEngine e fun g => { g with phase := .writing .terminal, answer := none }).regs = s.flagRaised t n := by
      change t.regs = _
      generalize s.flagRaised t n = r at frame ⊢
      rw [frame]
    have engine (e' : EngineId) : t.engine e' = s.engine e' := State.engine_eq (by rw [frame]) e'
    have count : x.setup.rosterCount ≠ 0 := fun zero => by
      obtain ⟨small, _⟩ := (x.setup.activeAt_iff p).mp active
      rw [zero] at small
      exact absurd small (Nat.not_lt_zero _)
    refine ⟨_, next, ?_, fun e' other => ?_, ?_, others, ?_, fun free' => ?_, fun held => ?_, follows, fun r identity => ?_,
      fun identity y verdict => ?_, fun differ => ?_, fun a outside event => ?_⟩
    · have regs : t.regs = s.flagRaised (t.modEngine e fun g => { g with phase := .writing .terminal, answer := none }) n := regs
      rw [← regs]
      generalize s.flagRaised t n = r at frame
      rw [frame]
      rfl
    · rw [State.engine_modEngine_other _ _ _ _ other, engine]
    · rw [State.engine_modEngine_self, engine]
    · have heldPermit : (t.station n).heldPermit = if s.held n = true then v.freePermit n else x.heldPermit := by rw [own]
      refine own.trans ?_
      rw [← heldPermit]
      rfl
    · change (t.station n).heldPermit = _
      rw [own, free']
      rfl
    · change (t.station n).heldPermit = _
      have verdicts (q : SlotId) : v.slotVerdict n q = t.byte (slotBase n q) :=
        (congrArg (fun c : SlotFields × Long => c.1.verdict) (cell q)).symm
      rw [own, held, if_pos rfl, free, station, decide_eq_true (show (s.station n).setup.rosterCount ≠ 0 from count),
        Bool.true_and]
      simp only [verdicts]
      rfl
    · refine tread.trans ?_
      cases verdict : d.verdict <;> by_cases other : tagSerial r = old.serial <;>
        simp [SlotFields.deliver, SlotFields.found, identity, verdict, other, SlotFields.cleared, slotUnverified]
    · refine tread.trans ?_
      simp [SlotFields.deliver, SlotFields.found, identity, verdict]
    · refine (congrArg Prod.snd (cell p)).trans (stamped fun same => differ ?_)
      exact (congrArg Prod.fst (cell p)).trans same
    · exact (bytes a event).trans (apart a outside)
  · intro n x slotsPermit noLoss on noFault present nowhere
    have accepted := judgeDelivery_accepts (n := n) noLoss on noFault present
    have position := x.setup.positionOf_eq_none nowhere
    have delivery : s.deliver e n d = State.modEngine ((s.refreshHeldPermit n).settleRecord n (s.recordKey n)) e
        fun g => { g with phase := .writing .terminal, answer := none } := by
      unfold State.deliver State.acceptDelivery State.stationEvent
      rw [accepted]
      dsimp only
      rw [show (s.station n).setup.positionOf _ = none from position]
      rfl
    have next := done s e j d running phase job parcel
    rw [delivery] at next
    have free : s.freePermit n = slotsPermit := freePermit_eq s n
    have stays (code : s.byte (stationBase n + stState) = (s.derived n (s.held n)).code)
        (agrees : s.held n = true → x.heldPermit = slotsPermit)
        (permit : x.permit = permitOf (s.derived n (s.held n)) x.setup.advise x.heldPermit) :
        (s.refreshHeldPermit n).settleRecord n (s.recordKey n) = s := by
      rw [refreshHeldPermit_same fun held => (agrees held).trans free.symm, settleRecord_same wf code permit]
    obtain ⟨frame, own, others, follows, bytes, _⟩ := refreshed_settled (.refl wf n) wf
    generalize (s.refreshHeldPermit n).settleRecord n (s.recordKey n) = t at next frame own others follows bytes stays
    have engine (e' : EngineId) : t.engine e' = s.engine e' := State.engine_eq (by rw [frame]) e'
    have regs : t.regs = s.flagRaised t n := by
      generalize s.flagRaised t n = r at frame ⊢
      rw [frame]
    refine ⟨_, next, ?_, fun e' other => ?_, ?_, others, ?_, follows, bytes, fun code agrees permit => ?_⟩
    · change _ = { s with
        mem := t.mem, engines := _, stations := t.stations, regs := s.flagRaised t n }
      rw [← regs]
      generalize s.flagRaised t n = r at frame
      rw [frame]
      rfl
    · rw [State.engine_modEngine_other _ _ _ _ other, engine]
    · rw [State.engine_modEngine_self, engine]
    · rw [free] at own
      exact own
    · rw [stays code agrees permit]

end

end Sys2Proof.Machine
end

section
/-! What an engine's own operations leave: stops, faults, the start of work, questions and watches (05 R100, R102, 04 R76 to
R83). -/

namespace Sys2Proof.Machine

/-- Engine, question and watch of one engine in a state. -/
structure Own (t : State) (e : EngineId) (g : Engine) (q : Option Question) (w : Option Watch) : Prop where
  engine : t.engine e = g
  question : t.question e = q
  watch : t.watch e = w

section
variable {s t : State} {e : EngineId} {g : Engine} {q : Option Question} {w : Option Watch}

theorem Own.of (s : State) (e : EngineId) : Own s e (s.engine e) (s.question e) (s.watch e) := ⟨rfl, rfl, rfl⟩

theorem Own.mod (h : Own s e g q w) (f : Engine → Engine) : Own (s.modEngine e f) e (f g) q w :=
  ⟨by rw [State.engine_modEngine_self, h.engine], h.question, h.watch⟩

theorem Own.ask (h : Own s e g q w) (q' : Option Question) : Own (s.setQuestion e q') e g q' w :=
  ⟨h.engine, by rw [State.question_setQuestion, if_pos rfl], h.watch⟩

theorem Own.setWatch (h : Own s e g q w) (w' : Option Watch) : Own (s.setWatch e w') e g q w' :=
  ⟨h.engine, h.question, by rw [State.watch_setWatch, if_pos rfl]⟩

/-! ## Stops and faults (05 R100, R102) -/

theorem Own.stopNow (h : Own s e g q w) : Own (s.stopNow e) e g.stoppedNow none none :=
  ((h.mod _).setWatch none).ask none

theorem Own.faultStop (h : Own s e g q w) (cause : FaultCause) :
    Own (s.faultStop e cause) e (g.faulted cause) none none := (h.mod _).stopNow

/-! ## The start of work (06 R107, R109, 07 R125) -/

section
variable {snap : Snapshot} {j : Job} {p : Profile}

theorem Own.startWork (h : Own s e g q w) (snapshot : s.regs.snapshot = some snap) (job : g.job = some j) (x : Work)
    (profile : x = .round → g.profile = some p) :
    Own (s.startWork e x) e (if s.echoHigh j.station = true then g.faulted .echoStuck else g.atWork x snap p)
      (if s.echoHigh j.station = true then none else q) (if s.echoHigh j.station = true then none else w) := by
  have job' : (s.engine e).job = some j := by rw [h.engine, job]
  unfold State.startWork
  rw [job']
  dsimp only
  split_ifs with high
  · exact h.faultStop .echoStuck
  · cases x with
    | frame =>
      dsimp only
      unfold State.startFrame
      rw [snapshot]
      exact h.mod _
    | round =>
      have profile' : (s.engine e).profile = some p := by rw [h.engine, profile rfl]
      dsimp only
      unfold State.startRound
      rw [profile', snapshot]
      refine cast (congrArg (fun g' => Own _ e g' q w) ?_) (h.mod _)
      unfold Engine.atWork
      dsimp only
      split_ifs <;> rfl

/-! ## Questions (04 R76, R77) -/

/-- The ground of a station's question is that of its setup copy. -/
theorem groundOn_eq (c : Setup) (t : Tracker) (snap : Snapshot) :
    t.ground snap (clampArc snap.ppc c.arcStart) (clampArc snap.ppc c.arcEnd) = c.groundOn t snap := rfl

/-- A tracker with other questions and watches gives the same grounds. -/
theorem groundOn_congr (c : Setup) {t u : Tracker} (snap : Snapshot) (angle : u.angle = t.angle) (valid : u.valid = t.valid)
    (stopped : u.stopped = t.stopped) : c.groundOn u snap = c.groundOn t snap := by
  simp only [Setup.groundOn, Tracker.ground, angle, valid, stopped]

theorem Within.ground (h : Within s t) (c : Setup) (snap : Snapshot) : c.groundOn t.tracker snap = c.groundOn s.tracker snap :=
  groundOn_congr c snap (by rw [h]) (by rw [h]) (by rw [h])

/-- An open question that can be judged. -/
structure Judged (s : State) (e : EngineId) (q : Question) (x : Work) (snap : Snapshot) (j : Job) : Prop where
  question : s.question e = some q
  running : q.suspended = false
  snapshot : s.regs.snapshot = some snap
  phase : (s.engine e).phase = .gating x
  job : (s.engine e).job = some j
  noStop : (s.engine e).stopAtHoldBegin = false

theorem judgeQuestion_eq {q : Question} {x : Work} (h : Judged s e q x snap j) :
    s.judgeQuestion e = match (s.station j.station).setup.groundOn s.tracker snap with
      | none => s
      | some gr => ((s.setQuestion e none).setWatch e
          ((s.station j.station).setup.watchOn snap j.station gr)).startWork e x := by
  unfold State.judgeQuestion
  rw [h.question, h.snapshot, h.phase, h.job]
  dsimp only
  rw [h.running, h.noStop, if_neg (by decide), groundOn_eq]
  rfl

/-- A question judged: what it leaves of the engine's own. -/
theorem judgeQuestion_asked {q : Question} {x : Work} (h : Judged s e q x snap j) (p : Profile)
    (profile : x = .round → (s.engine e).profile = some p) :
    (s.judgeQuestion e).asked e (s.engine e) x j.station (s.station j.station).setup q snap p s.pins.echo (s.watch e) := by
  have within := (judgeQuestion_onEngine (OnEngine.refl e s)).rest
  unfold State.asked
  rw [within.ground, judgeQuestion_eq h]
  cases ground : (s.station j.station).setup.groundOn s.tracker snap with
  | none =>
    refine ⟨?_, h.question, rfl⟩
    rw [← h.phase]
  | some gr =>
    dsimp only
    have own := (((Own.of s e).ask none).setWatch ((s.station j.station).setup.watchOn snap j.station gr)).startWork
      (snap := snap) (p := p) h.snapshot h.job x profile
    have echo : ((s.setQuestion e none).setWatch e ((s.station j.station).setup.watchOn snap j.station gr)).echoHigh
        j.station = s.pins.echo.getLsbD j.station.val := rfl
    rw [echo] at own
    generalize State.startWork _ e x = t at own ⊢
    by_cases high : s.pins.echo.getLsbD j.station.val = true
    · simp only [high, if_true] at own ⊢
      exact ⟨own.question, own.engine, own.watch⟩
    · simp only [high] at own ⊢
      exact ⟨own.question, own.engine, own.watch⟩

/-- A question that cannot be judged stays as it is. -/
theorem judgeQuestion_stays
    (closed : s.question e = none ∨ (∃ q, s.question e = some q ∧ q.suspended = true) ∨
      (∀ x, (s.engine e).phase ≠ .gating x) ∨ (s.engine e).stopAtHoldBegin = true) : s.judgeQuestion e = s := by
  unfold State.judgeQuestion
  split
  · rename_i q snap x j question snapshot phase job
    have stays : (q.suspended || (s.engine e).stopAtHoldBegin) = true := by
      obtain none | ⟨q', open_, suspended⟩ | other | stop := closed
      · rw [none] at question
        exact absurd question nofun
      · rw [question] at open_
        rw [Option.some.inj open_, suspended, Bool.true_or]
      · exact absurd phase (other x)
      · rw [stop, Bool.or_true]
    rw [stays, if_pos rfl]
  · rfl

/-- A question asked by an engine whose job is j. -/
theorem askQuestion_asked (snapshot : s.regs.snapshot = some snap) (job : (s.engine e).job = some j)
    (noStop : (s.engine e).stopAtHoldBegin = false) (x : Work) (p : Profile)
    (profile : x = .round → (s.engine e).profile = some p) :
    (s.askQuestion e x).asked e (s.engine e) x j.station (s.station j.station).setup { timer := 0, suspended := false }
      snap p s.pins.echo (s.watch e) := by
  have own := ((Own.of s e).mod fun g => { g with phase := .gating x }).ask (some { timer := 0, suspended := false })
  have judged : Judged ((s.setPhase e (.gating x)).setQuestion e (some { timer := 0, suspended := false })) e
      { timer := 0, suspended := false } x snap j :=
    ⟨own.question, rfl, snapshot, congrArg Engine.phase own.engine, (congrArg Engine.job own.engine).trans job,
      (congrArg Engine.stopAtHoldBegin own.engine).trans noStop⟩
  have asked := judgeQuestion_asked judged p fun round => (congrArg Engine.profile own.engine).trans (profile round)
  unfold State.askQuestion
  generalize State.judgeQuestion _ e = t at asked ⊢
  rw [show ((s.setPhase e (.gating x)).setQuestion e (some { timer := 0, suspended := false })).engine e = _ from own.engine]
    at asked
  unfold State.asked at asked ⊢
  cases x <;> exact asked

end

/-! ## Watches (04 R81 to R83) -/

/-- The engine whose work in flight is marked. -/
def Engine.marked (g : Engine) : Engine :=
  match g.phase with
  | .reading => { g with frame := { g.frame with disturbed := true } }
  | _ => { g with capture := { g.capture with disturbed := true } }

theorem judgeWatch_none (none : s.watch e = none) : s.judgeWatch e = s := by
  unfold State.judgeWatch
  rw [none]

theorem judgeWatch_some {w : Watch} (watch : s.watch e = some w) :
    s.judgeWatch e = if w.disturbed = false ∧ w.isDisturbed s.tracker = true then s.disturb e w else s := by
  unfold State.judgeWatch
  rw [watch]
  simp only [Bool.and_eq_true, Bool.not_eq_true']

theorem disturb_own (w : Watch) :
    Own (s.disturb e w) e (s.engine e).marked (s.question e) (some { w with disturbed := true }) :=
  ((Own.of s e).setWatch (some { w with disturbed := true })).mod _

end

end Sys2Proof.Machine
end

section
/-! The Machine Cycle Tracker: edges and timers on the angle, its record, the questions and the watches (04 R68 to R83). -/

namespace Sys2Proof.Machine

/-! ## A transition reaches the tracker (04 R68, 11 R196) -/

section
variable {s t : State}

/-- A transition on the part: taken is whether the synchroniser takes it, falling the selected direction. -/
def State.edgeServed (s : State) (taken rising : Bool) (falling : Snapshot → Bool) (take : State → Half → State) : State :=
  match s.regs.snapshot with
  | some snap => if taken && rising != falling snap then take s snap.ppc else s
  | none => s

theorem edgeServed_untaken (s : State) (rising : Bool) (falling : Snapshot → Bool) (take : State → Half → State) :
    s.edgeServed false rising falling take = s := by
  unfold State.edgeServed
  cases s.regs.snapshot <;> rfl

theorem edgeServed_against {taken rising : Bool} {falling : Snapshot → Bool} (take : State → Half → State)
    (against : s.regs.snapshot = none ∨ ∃ snap, s.regs.snapshot = some snap ∧ rising = falling snap) :
    s.edgeServed taken rising falling take = s := by
  unfold State.edgeServed
  obtain none | ⟨snap, snapshot, same⟩ := against
  · rw [none]
  · rw [snapshot, same]
    simp

theorem edgeServed_selected {rising : Bool} {falling : Snapshot → Bool} {snap : Snapshot} (take : State → Half → State)
    (snapshot : s.regs.snapshot = some snap) (selected : rising = !falling snap) :
    s.edgeServed true rising falling take = take s snap.ppc := by
  unfold State.edgeServed
  rw [snapshot, selected]
  simp

/-- A transition of an encoder pin, by the length of its level. -/
def State.encoderEdge (s : State) (before rising : Bool) (keep : Pins → Pins) (falling : Snapshot → Bool)
    (take : State → Half → State) (echo : Levels) (stood : Nat) : State :=
  ((s.synchronise (s.takesTransition before rising stood) stood keep).sampleEcho echo).edgeServed
    (s.takesTransition before rising stood) rising falling take

section
variable {before rising : Bool} {keep : Pins → Pins} {falling : Snapshot → Bool} {take : State → Half → State} {echo : Levels}
  {stood : Nat}

theorem encoderEdge_short (short : stood < 15) :
    s.encoderEdge before rising keep falling take echo stood = s.sampleEcho echo := by
  rw [State.encoderEdge, synchronise_short _ _ short, State.takesTransition_short _ _ _ _ short, edgeServed_untaken]

theorem encoderEdge_unsure (low : 15 ≤ stood) (high : stood < 20) :
    s.encoderEdge before rising keep falling take echo stood =
        { s with pins := { s.pins with echo := echo }, freeReads := s.freeReads + 1 } ∨
      State.encoderEdge { s with freeReads := s.freeReads + 1 } before rising keep falling take echo 20 =
        s.encoderEdge before rising keep falling take echo stood := by
  have later : State.takesTransition { s with freeReads := s.freeReads + 1 } before rising 20 = (before != rising) :=
    State.takesTransition_long _ _ _ _ le_rfl
  cases taken : s.takesTransition before rising stood
  · left
    rw [State.encoderEdge, taken, State.synchronise_eq, edgeServed_untaken, if_pos (c := 15 ≤ stood ∧ stood < 20) ⟨low, high⟩]
    rfl
  · right
    have differ : (before != rising) = true := by
      simp only [State.takesTransition, Bool.and_eq_true] at taken
      exact taken.1.1
    rw [State.encoderEdge, State.encoderEdge, later, differ, taken, State.synchronise_eq, State.synchronise_eq,
      if_pos (c := 15 ≤ stood ∧ stood < 20) ⟨low, high⟩]
    rfl

theorem encoderEdge_same (long : 20 ≤ stood) (same : before = rising) :
    s.encoderEdge before rising keep falling take echo stood = s.sampleEcho echo := by
  subst same
  rw [State.encoderEdge, State.takesTransition_same, State.synchronise_eq, edgeServed_untaken,
    if_neg (c := 15 ≤ stood ∧ stood < 20) (by omega)]
  rfl

theorem encoderEdge_against (long : 20 ≤ stood) (kept : before = rising → keep s.pins = s.pins)
    (against : s.regs.snapshot = none ∨ ∃ snap, s.regs.snapshot = some snap ∧ rising = falling snap) :
    s.encoderEdge before rising keep falling take echo stood = { s with pins := { keep s.pins with echo := echo } } := by
  rw [State.encoderEdge, synchronise_long _ _ long kept]
  exact edgeServed_against take against

theorem encoderEdge_selected {snap : Snapshot} (long : 20 ≤ stood) (differ : before ≠ rising)
    (snapshot : s.regs.snapshot = some snap) (selected : rising = !falling snap) :
    s.encoderEdge before rising keep falling take echo stood =
      take { s with pins := { keep s.pins with echo := echo } } snap.ppc := by
  rw [State.encoderEdge, synchronise_long _ _ long fun same => absurd same differ,
    State.takesTransition_long _ _ _ _ long, show (before != rising) = true from bne_iff_ne.mpr differ]
  exact edgeServed_selected take snapshot selected

end

theorem exec_mclkEdge (running : s.inReset = false) (rising : Bool) (echo : Levels) (stood : Nat) :
    exec (.mclkEdge rising echo stood) s = .next (s.encoderEdge s.pins.mclk rising (fun p => { p with mclk := rising })
      (·.mclkFalling) State.takeMclk echo stood) := by
  have on : (s.synchronise (s.takesTransition s.pins.mclk rising stood) stood fun p => { p with mclk := rising }).inReset =
      false := by
    rw [State.synchronise_eq]
    cases s.takesTransition s.pins.mclk rising stood <;> exact running
  change execMclkEdge rising echo s stood = _
  unfold execMclkEdge State.whenever State.encoderEdge State.edgeServed
  dsimp only
  rw [on]
  rfl

theorem exec_midxEdge (running : s.inReset = false) (rising : Bool) (echo : Levels) (stood : Nat) :
    exec (.midxEdge rising echo stood) s = .next (s.encoderEdge s.pins.midx rising (fun p => { p with midx := rising })
      (·.midxFalling) State.takeMidx echo stood) := by
  have on : (s.synchronise (s.takesTransition s.pins.midx rising stood) stood fun p => { p with midx := rising }).inReset =
      false := by
    rw [State.synchronise_eq]
    cases s.takesTransition s.pins.midx rising stood <;> exact running
  change execMidxEdge rising echo s stood = _
  unfold execMidxEdge State.whenever State.encoderEdge State.edgeServed
  dsimp only
  rw [on]
  rfl

/-! ## The machine status record (04 R75) -/

/-- The tracker and its record. -/
@[irreducible] def State.tracked (s : State) (k : Tracker) : State := (s.setTracker k).writeTracker

theorem tracked_frame (s : State) (k : Tracker) : s.tracked k = { s with tracker := k, mem := (s.tracked k).mem } := by
  unfold State.tracked State.writeTracker
  simp only [State.put, State.setTracker]

theorem tracked_byte (wf : Memory.wf s.mem = true) (k : Tracker) (a : Nat) :
    (s.tracked k).byte a =
      if 0x88 ≤ a ∧ a < 0x8C then (longBytes k.cycles).getD (a - 0x88) 0
      else if 0x80 ≤ a ∧ a < 0x85 then
        (halfBytes k.angle ++ [flagByte k.valid, flagByte k.stopped, flagByte k.indexMissed]).getD (a - 0x80) 0
      else s.byte a := by
  have wf' : Memory.wf (s.setTracker k).mem = true := wf
  unfold State.tracked State.writeTracker
  dsimp only
  rw [State.byte_put_getD (State.wf_put _ _ wf'), State.byte_put_getD wf', longBytes_length]
  rfl

theorem updateTracker_eq (s : State) (k : Tracker) (event : Bool) :
    s.updateTracker k event = { s.tracked k with
      regs := { s.regs with causes := if event = true then s.regs.causes ||| causeMachineEvent else s.regs.causes } } := by
  have regs : (s.tracked k).regs = s.regs := by rw [tracked_frame]
  rw [State.updateTracker, State.raiseIf_eq]
  rw [show (s.setTracker k).writeTracker = s.tracked k by unfold State.tracked; rfl, regs]

/-- What the record reads after an update of the tracker. -/
structure Recorded (s t : State) (k : Tracker) : Prop where
  angle : t.half 0x80 = k.angle
  valid : t.byte 0x82 = flagByte k.valid
  stopped : t.byte 0x83 = flagByte k.stopped
  missed : t.byte 0x84 = flagByte k.indexMissed
  cycles : t.long 0x88 = k.cycles
  rest : ∀ a, (a < 0x80 ∨ a = 0x85 ∨ a = 0x86 ∨ a = 0x87 ∨ 0x8C ≤ a) → t.byte a = s.byte a

theorem tracked_recorded (wf : Memory.wf s.mem = true) (k : Tracker) (mem : t.mem = (s.tracked k).mem) : Recorded s t k := by
  have byte (a : Nat) : t.byte a = _ := (State.byte_congr mem a).trans (tracked_byte wf k a)
  have low (o : Nat) (small : o < 5) : t.byte (0x80 + o) =
      (halfBytes k.angle ++ [flagByte k.valid, flagByte k.stopped, flagByte k.indexMissed]).getD o 0 := by
    rw [byte, if_neg (by omega), if_pos (by omega), Nat.add_sub_cancel_left]
  refine ⟨State.half_of_bytes (low 0 (by omega)) (low 1 (by omega)), low 2 (by omega), low 3 (by omega), low 4 (by omega),
    State.long_of_bytes fun i small => ?_, fun a apart => ?_⟩
  · rw [byte, if_pos (by omega), Nat.add_sub_cancel_left, List.getD_eq_getElem _ _ (by rwa [longBytes_length])]
    rfl
  · rw [byte, if_neg (by omega), if_neg (by omega)]

/-! ## Watches, then questions (04 R77, R82) -/

/-- What becomes of the own of one engine, when the watches and then the questions are judged. -/
theorem judged_own (e : EngineId) (s : State) :
    ∃ u v, Apart e s u ∧ Apart e (u.judgeWatch e) v ∧ Apart e (v.judgeQuestion e) (s.judgeWatches.judgeQuestions) := by
  obtain ⟨u, before, watched⟩ := forAll_own (act := fun e t => t.judgeWatch e)
    (fun e u => judgeWatch_onEngine (.refl e u)) e s
  obtain ⟨v, between, asked⟩ := forAll_own (act := fun e t => t.judgeQuestion e)
    (fun e u => judgeQuestion_onEngine (.refl e u)) e s.judgeWatches
  refine ⟨u, v, before, ⟨watched.rest.trans between.rest, between.engine.trans watched.engine,
    between.question.trans watched.question, between.watch.trans watched.watch⟩, asked⟩

theorem Apart.trans {e : EngineId} {s t u : State} (h : Apart e s t) (k : Apart e t u) : Apart e s u :=
  ⟨h.rest.trans k.rest, k.engine.trans h.engine, k.question.trans h.question, k.watch.trans h.watch⟩

/-- An engine without question and watch. -/
theorem judged_quiet {e : EngineId} (noQuestion : s.question e = none) (noWatch : s.watch e = none) :
    Apart e s s.judgeWatches.judgeQuestions := by
  obtain ⟨u, v, before, watched, asked⟩ := judged_own e s
  rw [judgeWatch_none (before.watch.trans noWatch)] at watched
  have quiet := before.trans watched
  rw [judgeQuestion_stays (.inl (quiet.question.trans noQuestion))] at asked
  exact quiet.trans asked

/-- The tracker of a state after its watches and questions are judged, but for the questions and watches. -/
theorem Within.tracker_rest {s t : State} (h : Within s t) :
    t.tracker.angle = s.tracker.angle ∧ t.tracker.valid = s.tracker.valid ∧ t.tracker.cycles = s.tracker.cycles ∧
    t.tracker.indexMissed = s.tracker.indexMissed ∧ t.tracker.stopped = s.tracker.stopped ∧
    t.tracker.stopTimer = s.tracker.stopTimer := by
  rw [h]
  exact ⟨rfl, rfl, rfl, rfl, rfl, rfl⟩

/-- An update of the tracker, after which watches and questions are judged. -/
theorem update_judged (wf : Memory.wf s.mem = true) (k : Tracker) (event : Bool) (t : State)
    (within : Within (s.updateTracker k event) t) :
    t = { s with
      tracker := t.tracker, mem := t.mem, engines := t.engines, regs := { s.regs with causes := t.regs.causes } } ∧
    t.regs.causes = (if event = true then s.regs.causes ||| 0b10000 else s.regs.causes) ∧ Recorded s t k ∧
    t.tracker.angle = k.angle ∧ t.tracker.valid = k.valid ∧ t.tracker.cycles = k.cycles ∧
    t.tracker.indexMissed = k.indexMissed ∧ t.tracker.stopped = k.stopped ∧ t.tracker.stopTimer = k.stopTimer := by
  have mem := within.mem
  have regs := within.regs
  have rest := within.tracker_rest
  have frame : Within (s.updateTracker k event) t := within
  rw [updateTracker_eq] at mem regs rest frame
  have tracker : (s.tracked k).tracker = k := by rw [tracked_frame]
  simp only [tracker] at rest
  refine ⟨?_, by rw [regs]; rfl, tracked_recorded wf k mem, rest⟩
  unfold Within at frame
  rw [tracked_frame] at frame
  generalize (if event = true then s.regs.causes ||| causeMachineEvent else s.regs.causes) = c at frame
  generalize (s.tracked k).mem = m at frame
  rw [frame]

/-! ## Edges on the angle (04 R70, R71) -/

theorem advance_invalid {k : Tracker} (ppc : Half) (invalid : k.valid = false) : k.advance ppc = (k, false) := by
  rw [Tracker.advance, invalid]
  rfl

theorem advance_inside {k : Tracker} {ppc : Half} (valid : k.valid = true) (inside : k.angle.toNat + 1 < ppc.toNat) :
    k.advance ppc = ({ k with angle := k.angle + 1 }, false) := by
  rw [Tracker.advance, valid, if_neg (by decide), if_pos (by omega)]

theorem advance_past {k : Tracker} {ppc : Half} (valid : k.valid = true) (past : ppc.toNat ≤ k.angle.toNat + 1) :
    k.advance ppc =
      ({ k with angle := 0, valid := false, cycles := k.cycles + 1, indexMissed := true }, !k.indexMissed) := by
  rw [Tracker.advance, valid, if_neg (by decide), if_neg (by omega)]

theorem takeMclk_within (s : State) (ppc : Half) :
    Within (s.updateTracker { (s.tracker.advance ppc).1 with stopTimer := 0, stopped := false }
      ((s.tracker.advance ppc).2 || s.tracker.stopped)) (s.takeMclk ppc) :=
  judgeQuestions_within (judgeWatches_within (.refl _))

theorem takeMidx_within (s : State) (ppc : Half) :
    Within (s.updateTracker (s.tracker.index ppc).1 (s.tracker.index ppc).2) (s.takeMidx ppc) :=
  judgeQuestions_within (judgeWatches_within (.refl _))

/-- Engine, question and watch of an engine without question and watch, after an update of the tracker that keeps both. -/
theorem update_quiet {k : Tracker} {event : Bool} {e : EngineId} (questions : k.questions = s.tracker.questions)
    (watches : k.watches = s.tracker.watches) (noQuestion : s.question e = none) (noWatch : s.watch e = none) :
    let t := ((s.updateTracker k event).judgeWatches).judgeQuestions
    t.engine e = s.engine e ∧ t.question e = none ∧ t.watch e = none := by
  have tracker : (s.updateTracker k event).tracker = k := by rw [updateTracker_eq, tracked_frame]
  have engine : (s.updateTracker k event).engine e = s.engine e := State.engine_eq (by rw [updateTracker_eq, tracked_frame]) e
  have question : (s.updateTracker k event).question e = none := by
    rw [State.question, tracker, questions]
    exact noQuestion
  have watch : (s.updateTracker k event).watch e = none := by
    rw [State.watch, tracker, watches]
    exact noWatch
  have quiet := judged_quiet question watch
  exact ⟨quiet.engine.trans engine, quiet.question.trans question, quiet.watch.trans watch⟩

theorem advance_keeps (k : Tracker) (ppc : Half) :
    (k.advance ppc).1.questions = k.questions ∧ (k.advance ppc).1.watches = k.watches := by
  unfold Tracker.advance
  split_ifs <;> exact ⟨rfl, rfl⟩

theorem index_keeps (k : Tracker) (ppc : Half) :
    (k.index ppc).1.questions = k.questions ∧ (k.index ppc).1.watches = k.watches := by
  unfold Tracker.index
  split_ifs <;> exact ⟨rfl, rfl⟩

/-- A selected MCLK edge, on a state with pins and echo levels taken. -/
theorem takeMclk_taken (wf : Memory.wf s.mem = true) (ppc : Half) :
    let t := s.takeMclk ppc
    t = { s with
      tracker := t.tracker, mem := t.mem, engines := t.engines, regs := { s.regs with causes := t.regs.causes } } ∧
    t.tracker.stopTimer = 0 ∧ t.tracker.stopped = false ∧
    (s.tracker.valid = false →
      t.tracker.angle = s.tracker.angle ∧ t.tracker.valid = false ∧ t.tracker.cycles = s.tracker.cycles ∧
      t.tracker.indexMissed = s.tracker.indexMissed) ∧
    (s.tracker.valid = true → s.tracker.angle.toNat + 1 < ppc.toNat →
      t.tracker.angle = s.tracker.angle + 1 ∧ t.tracker.valid = true ∧ t.tracker.cycles = s.tracker.cycles ∧
      t.tracker.indexMissed = s.tracker.indexMissed) ∧
    (s.tracker.valid = true → ppc.toNat ≤ s.tracker.angle.toNat + 1 →
      t.tracker.angle = 0 ∧ t.tracker.valid = false ∧ t.tracker.cycles = s.tracker.cycles + 1 ∧
      t.tracker.indexMissed = true) ∧
    t.regs.causes = (if s.tracker.stopped = true ∨ (t.tracker.indexMissed = true ∧ s.tracker.indexMissed = false)
      then s.regs.causes ||| 0b10000 else s.regs.causes) ∧
    Recorded s t t.tracker ∧
    ∀ e, s.question e = none → s.watch e = none →
      t.engine e = s.engine e ∧ t.question e = none ∧ t.watch e = none := by
  obtain ⟨frame, causes, record, angle, valid, cycles, missed, stopped, timer⟩ :=
    update_judged wf _ _ _ (takeMclk_within s ppc)
  have quiet (e : EngineId) (noQuestion : s.question e = none) (noWatch : s.watch e = none) :
      (s.takeMclk ppc).engine e = s.engine e ∧ (s.takeMclk ppc).question e = none ∧ (s.takeMclk ppc).watch e = none :=
    update_quiet (k := { (s.tracker.advance ppc).1 with stopTimer := 0, stopped := false })
      (advance_keeps s.tracker ppc).1 (advance_keeps s.tracker ppc).2 noQuestion noWatch
  generalize s.takeMclk ppc = t at frame causes record angle valid cycles missed stopped timer quiet ⊢
  dsimp only at causes angle valid cycles missed stopped timer
  refine ⟨frame, timer, stopped, fun lost => ?_, fun keeps inside => ?_, fun keeps past => ?_, causes.trans ?_,
    ⟨record.angle.trans angle.symm, by rw [record.valid, valid], by rw [record.stopped, stopped],
      by rw [record.missed, missed], record.cycles.trans cycles.symm, record.rest⟩, quiet⟩
  · rw [advance_invalid _ lost] at angle valid cycles missed
    exact ⟨angle, valid.trans lost, cycles, missed⟩
  · rw [advance_inside keeps inside] at angle valid cycles missed
    exact ⟨angle, valid.trans keeps, cycles, missed⟩
  · rw [advance_past keeps past] at angle valid cycles missed
    exact ⟨angle, valid, cycles, missed⟩
  · have comes : (s.tracker.advance ppc).2 = true ↔ t.tracker.indexMissed = true ∧ s.tracker.indexMissed = false := by
      rw [missed]
      unfold Tracker.advance
      split_ifs <;> simp
    simp only [Bool.or_eq_true, comes, or_comm]

/-- Settles O39: the length of the level first, then the edge on the angle. -/
theorem mclkEdgeMovesTheAngle : Obligations.MclkEdgeMovesTheAngle := by
  intro s rising echo stood wf running untaken
  refine ⟨_, exec_mclkEdge running rising echo stood, fun short => encoderEdge_short short, fun low high => ?_,
    fun long same => encoderEdge_same long same, fun long against => encoderEdge_against long (fun h => by rw [← h]) against,
    fun snap long differ snapshot selected => ?_⟩
  · refine (encoderEdge_unsure low high).imp id fun later => ?_
    rw [← later]
    exact exec_mclkEdge (s := { s with freeReads := s.freeReads + 1 }) running rising echo 20
  · let u : State := { s with pins := { s.pins with mclk := rising, echo := echo } }
    have edge : s.encoderEdge s.pins.mclk rising (fun p => { p with mclk := rising }) (·.mclkFalling) State.takeMclk echo stood =
        u.takeMclk snap.ppc := encoderEdge_selected long differ snapshot selected
    rw [edge]
    obtain ⟨frame, timer, stopped, lost, inside, past, causes, record, quiet⟩ :=
      takeMclk_taken (s := u) wf snap.ppc
    generalize u.takeMclk snap.ppc = t at frame timer stopped lost inside past causes record quiet ⊢
    refine ⟨frame, timer, stopped, lost, inside, past, causes, record.angle, record.valid, ?_, record.missed, record.cycles,
      record.rest, quiet⟩
    rw [record.stopped, stopped]
    rfl

/-- A selected MIDX edge, on a state with pins and echo levels taken. -/
theorem takeMidx_taken (wf : Memory.wf s.mem = true) (ppc : Half) :
    let t := s.takeMidx ppc
    t = { s with
      tracker := t.tracker, mem := t.mem, engines := t.engines, regs := { s.regs with causes := t.regs.causes } } ∧
    t.tracker.angle = 0 ∧ t.tracker.valid = true ∧ t.tracker.cycles = s.tracker.cycles + 1 ∧
    t.tracker.stopped = s.tracker.stopped ∧ t.tracker.stopTimer = s.tracker.stopTimer ∧
    t.tracker.indexMissed = (if s.tracker.valid = false then s.tracker.indexMissed
      else decide (s.tracker.angle.toNat ≠ ppc.toNat - 1)) ∧
    t.regs.causes = (if t.tracker.indexMissed = true ∧ s.tracker.indexMissed = false
      then s.regs.causes ||| 0b10000 else s.regs.causes) ∧
    Recorded s t t.tracker ∧
    ∀ e, s.question e = none → s.watch e = none →
      t.engine e = s.engine e ∧ t.question e = none ∧ t.watch e = none := by
  obtain ⟨frame, causes, record, angle, valid, cycles, missed, stopped, timer⟩ :=
    update_judged wf _ _ _ (takeMidx_within s ppc)
  have quiet (e : EngineId) (noQuestion : s.question e = none) (noWatch : s.watch e = none) :
      (s.takeMidx ppc).engine e = s.engine e ∧ (s.takeMidx ppc).question e = none ∧ (s.takeMidx ppc).watch e = none :=
    update_quiet (index_keeps s.tracker ppc).1 (index_keeps s.tracker ppc).2 noQuestion noWatch
  generalize s.takeMidx ppc = t at frame causes record angle valid cycles missed stopped timer quiet ⊢
  have index : s.tracker.index ppc = ({ s.tracker with
      angle := 0, valid := true, cycles := s.tracker.cycles + 1
      indexMissed := if s.tracker.valid = false then s.tracker.indexMissed
        else decide (s.tracker.angle.toNat ≠ ppc.toNat - 1) },
      if s.tracker.valid = false then false
      else if s.tracker.angle.toNat = ppc.toNat - 1 then false else !s.tracker.indexMissed) := by
    unfold Tracker.index
    cases valid : s.tracker.valid
    · rfl
    · by_cases first : s.tracker.angle.toNat = ppc.toNat - 1 <;> simp [first, ← valid]
  rw [index] at causes record angle valid cycles missed stopped timer
  refine ⟨frame, angle, valid, cycles, stopped, timer, missed, causes.trans ?_,
    ⟨record.angle.trans angle.symm, record.valid.trans (congrArg flagByte valid.symm),
      record.stopped.trans (congrArg flagByte stopped.symm), record.missed.trans (congrArg flagByte missed.symm),
      record.cycles.trans cycles.symm, record.rest⟩, quiet⟩
  · rw [missed]
    cases s.tracker.valid <;> by_cases first : s.tracker.angle.toNat = ppc.toNat - 1 <;> simp [first]

/-- Settles O40: as O39, with the index on the angle. -/
theorem midxEdgeChecksTheAngle : Obligations.MidxEdgeChecksTheAngle := by
  intro s rising echo stood wf running untaken
  refine ⟨_, exec_midxEdge running rising echo stood, fun short => encoderEdge_short short, fun low high => ?_,
    fun long same => encoderEdge_same long same, fun long against => encoderEdge_against long (fun h => by rw [← h]) against,
    fun snap long differ snapshot selected => ?_⟩
  · refine (encoderEdge_unsure low high).imp id fun later => ?_
    rw [← later]
    exact exec_midxEdge (s := { s with freeReads := s.freeReads + 1 }) running rising echo 20
  · let u : State := { s with pins := { s.pins with midx := rising, echo := echo } }
    have edge : s.encoderEdge s.pins.midx rising (fun p => { p with midx := rising }) (·.midxFalling) State.takeMidx echo stood =
        u.takeMidx snap.ppc := encoderEdge_selected long differ snapshot selected
    rw [edge]
    obtain ⟨frame, angle, valid, cycles, stopped, timer, missed, causes, record, quiet⟩ :=
      takeMidx_taken (s := u) wf snap.ppc
    generalize u.takeMidx snap.ppc = t at frame angle valid cycles stopped timer missed causes record quiet ⊢
    refine ⟨frame, angle, valid, cycles, stopped, timer, missed, causes, record.angle.trans angle, ?_, ?_, record.missed,
      record.cycles, record.rest, quiet⟩
    · rw [record.valid, valid]
      rfl
    · rw [record.stopped, stopped]

end

end Sys2Proof.Machine
end

section
/-! The timers of the tracker, the grounds of a question, and the watches at an edge (04 R74 to R83). -/

namespace Sys2Proof.Machine

section
variable {s t : State} {e : EngineId}

theorem modEngine_modEngine (s : State) (e : EngineId) (f g : Engine → Engine) :
    (s.modEngine e f).modEngine e g = s.modEngine e fun x => g (f x) := by
  unfold State.modEngine
  simp only [Vector.set_set]
  rw [show State.engine { s with engines := s.engines.set e.val (f (s.engine e)) } e = f (s.engine e) from
    State.engine_modEngine_self s e f]

/-! ## The timers (04 R74, R78) -/

/-- What becomes of the own of one engine, when the questions are judged. -/
theorem judgeQuestions_own (e : EngineId) (s : State) :
    ∃ u, Apart e s u ∧ Apart e (u.judgeQuestion e) s.judgeQuestions :=
  forAll_own (act := fun e t => t.judgeQuestion e) (fun e u => judgeQuestion_onEngine (.refl e u)) e s

theorem judgeQuestions_quiet (noQuestion : s.question e = none) : Apart e s s.judgeQuestions := by
  obtain ⟨u, before, asked⟩ := judgeQuestions_own e s
  rw [judgeQuestion_stays (.inl (before.question.trans noQuestion))] at asked
  exact before.trans asked

/-- The tracker as the stop timeout leaves it. -/
def Tracker.timedOut (k : Tracker) (timeout : Byte) : Tracker :=
  { k with stopped := true, stopTimer := max k.stopTimer timeout.toNat }

theorem takeStopTimeout_eq (s : State) (timeout : Byte) :
    s.takeStopTimeout timeout = (s.updateTracker (s.tracker.timedOut timeout) true).judgeQuestions := rfl

/-- The own of an engine after an update of the tracker that keeps questions and watches. -/
theorem updateTracker_own {k : Tracker} (event : Bool) (questions : k.questions = s.tracker.questions)
    (watches : k.watches = s.tracker.watches) (e : EngineId) :
    Own (s.updateTracker k event) e (s.engine e) (s.question e) (s.watch e) := by
  have tracker : (s.updateTracker k event).tracker = k := by rw [updateTracker_eq, tracked_frame]
  refine ⟨State.engine_eq (by rw [updateTracker_eq, tracked_frame]) e, ?_, ?_⟩
  · rw [State.question, tracker, questions]
    rfl
  · rw [State.watch, tracker, watches]
    rfl

theorem takeStopTimeout_taken (wf : Memory.wf s.mem = true) (timeout : Byte) :
    let t := s.takeStopTimeout timeout
    t = { s with
      mem := t.mem, engines := t.engines, regs := { s.regs with causes := s.regs.causes ||| 0b10000 }
      tracker := { s.tracker with
        stopped := true, stopTimer := t.tracker.stopTimer, questions := t.tracker.questions
        watches := t.tracker.watches } } ∧
    t.tracker.stopTimer = max s.tracker.stopTimer timeout.toNat ∧ Recorded s t (s.tracker.timedOut timeout) ∧
    ∀ e, s.question e = none → t.engine e = s.engine e ∧ t.question e = none ∧ t.watch e = s.watch e := by
  have within : Within (s.updateTracker (s.tracker.timedOut timeout) true) (s.takeStopTimeout timeout) :=
    judgeQuestions_within (.refl _)
  have quiet (e : EngineId) (noQuestion : s.question e = none) :
      (s.takeStopTimeout timeout).engine e = s.engine e ∧ (s.takeStopTimeout timeout).question e = none ∧
      (s.takeStopTimeout timeout).watch e = s.watch e := by
    have own := updateTracker_own (s := s) (k := s.tracker.timedOut timeout) true rfl rfl e
    have quiet := judgeQuestions_quiet (own.question.trans noQuestion)
    rw [takeStopTimeout_eq]
    exact ⟨quiet.engine.trans own.engine, quiet.question.trans (own.question.trans noQuestion),
      quiet.watch.trans own.watch⟩
  obtain ⟨frame, causes, record, _, _, _, _, _, timer⟩ := update_judged wf _ _ _ within
  generalize s.takeStopTimeout timeout = t at frame causes record timer quiet within ⊢
  refine ⟨?_, timer, record, quiet⟩
  have tracker : t.tracker = { s.tracker with
      stopped := true, stopTimer := t.tracker.stopTimer, questions := t.tracker.questions
      watches := t.tracker.watches } := by
    rw [timer]
    unfold Within at within
    rw [updateTracker_eq, tracked_frame] at within
    generalize ({ s.regs with causes := if true = true then _ else _ } : Registers) = r at within
    generalize (s.tracked _).mem = m at within
    rw [within]
    rfl
  rw [← tracker]
  rw [if_pos rfl] at causes
  rw [causes] at frame
  exact frame

/-- Settles O41. -/
theorem timersOfTheTracker : Obligations.TimersOfTheTracker := by
  refine ⟨fun s echo snap wf running snapshot runs => ?_, fun s e q snap running on snapshot question open_ noStop => ?_⟩
  · let u := s.sampleEcho echo
    have done : exec (.stopTimeout echo) s = .next (u.takeStopTimeout snap.stopTimeout) := by
      change execStopTimeout echo s = _
      simp [execStopTimeout, snapshot, State.whenever, running, runs, u]
    obtain ⟨frame, timer, record, quiet⟩ := takeStopTimeout_taken (s := u) wf snap.stopTimeout
    generalize u.takeStopTimeout snap.stopTimeout = t at done frame timer record quiet
    refine ⟨t, done, frame, ?_, ?_, record.stopped, record.angle, record.valid, record.missed, record.cycles, record.rest,
      quiet⟩
    · exact timer ▸ le_max_left _ _
    · exact timer ▸ le_max_right _ _
  · have expires : s.canExpire e = true := by
      simp [State.canExpire, question, on, noStop, open_]
    refine ⟨fun frame => ?_, fun round => ?_⟩
    · have done : exec (.gateLimitExpiry e) s = .next (s.expireGate e .frame) := by
        change execGateLimitExpiry e s = _
        simp [execGateLimitExpiry, frame, State.whenever, running, expires]
      rw [done]
      have enabled : ((((s.withdrawQuestion e).addFlag e flagGateTimeout).setVerdict e .inconclusive)).regs.enable = true := on
      unfold State.expireGate
      dsimp only
      rw [State.toWriting, enabled, if_pos rfl]
      unfold State.setVerdict State.addFlag State.setPhase
      rw [modEngine_modEngine, modEngine_modEngine]
      rfl
    · have done : exec (.gateLimitExpiry e) s = .next (s.expireGate e .round) := by
        change execGateLimitExpiry e s = _
        simp [execGateLimitExpiry, round, State.whenever, running, expires]
      rw [done]
      have enabled : ((((s.withdrawQuestion e).addFlag e flagGateTimeout).modEngine e fun g =>
        { g with ending := some .gateLimit })).regs.enable = true := on
      have taken : ((((s.withdrawQuestion e).addFlag e flagGateTimeout).modEngine e fun g =>
        { g with ending := some .gateLimit })).regs.snapshot = some snap := snapshot
      unfold State.expireGate
      dsimp only
      rw [State.toScoring, enabled, if_pos rfl, State.beginScoring, taken]
      unfold State.addFlag
      rw [modEngine_modEngine, modEngine_modEngine]
      rfl

/-! ## The grounds (04 R76, Table 4-3) -/

theorem clampArc_toNat {ppc v : Half} (positive : 1 ≤ ppc.toNat) : (clampArc ppc v).toNat = min v.toNat (ppc.toNat - 1) := by
  unfold clampArc
  split_ifs with past
  · rw [BitVec.toNat_sub_of_le (BitVec.le_def.mpr (show (1 : Half).toNat ≤ ppc.toNat from positive))]
    change ppc.toNat - 1 = _
    omega
  · omega

/-- Arithmetic of walking forward from the start of an arc to its end. -/
theorem walk_inside {a b x ppc : Nat} (ha : a < ppc) (hb : b < ppc) (hx : x < ppc) (differ : a ≠ b) :
    ((x + ppc - a) % ppc < (b + ppc - a) % ppc) ↔
      if a < b then a ≤ x ∧ x < b else a ≤ x ∨ x < b := by
  have walk (y : Nat) (hy : y < ppc) : (y + ppc - a) % ppc = if a ≤ y then y - a else y + ppc - a := by
    split_ifs with after
    · rw [show y + ppc - a = y - a + ppc by omega, Nat.add_mod_right, Nat.mod_eq_of_lt (by omega)]
    · exact Nat.mod_eq_of_lt (by omega)
  rw [walk x hx, walk b hb]
  split_ifs <;> omega

theorem inArc_iff {x a b : Half} (differ : a ≠ b) :
    inArc x a b = true ↔ if a.toNat < b.toNat then a.toNat ≤ x.toNat ∧ x.toNat < b.toNat else a.toNat ≤ x.toNat ∨ x.toNat < b.toNat := by
  have apart : a.toNat ≠ b.toNat := fun h => differ (BitVec.eq_of_toNat_eq h)
  unfold inArc
  split_ifs with up down
  · exact decide_eq_true_iff
  · exact decide_eq_true_iff
  · omega

/-- The grounds in their order. -/
theorem groundOn_cases (c : Setup) (k : Tracker) (snap : Snapshot) (positive : 1 ≤ snap.ppc.toNat)
    (inside : k.angle.toNat < snap.ppc.toNat) :
    let ppc := snap.ppc.toNat
    let a := min c.arcStart.toNat (ppc - 1)
    let b := min c.arcEnd.toNat (ppc - 1)
    let within := (k.angle.toNat + ppc - a) % ppc < (b + ppc - a) % ppc
    c.groundOn k snap =
      if a = b then some .wholeCycle
      else if k.valid = true ∧ within then some .arc
      else if k.stopped = true ∧ snap.quietWhenStopped = true then some .stopped else none := by
  intro ppc a b within
  have start : (clampArc snap.ppc c.arcStart).toNat = a := clampArc_toNat positive
  have stop : (clampArc snap.ppc c.arcEnd).toNat = b := clampArc_toNat positive
  have same : clampArc snap.ppc c.arcStart = clampArc snap.ppc c.arcEnd ↔ a = b := by
    rw [← start, ← stop]
    exact ⟨congrArg _, BitVec.eq_of_toNat_eq⟩
  unfold Setup.groundOn Tracker.ground
  by_cases whole : a = b
  · rw [if_pos (same.mpr whole), if_pos whole]
  · have arc : inArc k.angle (clampArc snap.ppc c.arcStart) (clampArc snap.ppc c.arcEnd) = true ↔ within := by
      rw [inArc_iff (mt same.mp whole), start, stop]
      exact (walk_inside (by omega) (by omega) inside whole).symm
    rw [if_neg (mt same.mp whole), if_neg whole]
    simp only [Bool.and_eq_true, arc]

/-! ## Questions at an edge or a stop timeout (04 R77) -/

/-- What was asked of a state holds of one that has the same own of the engine. -/
theorem Apart.asked {u : State} (h : Apart e t u) {g : Engine} {x : Work} {n : StationId} {c : Setup} {q : Question}
    {snap : Snapshot} {p : Profile} {echo : Levels} {w : Option Watch} (asked : t.asked e g x n c q snap p echo w) :
    u.asked e g x n c q snap p echo w := by
  unfold State.asked at asked ⊢
  rw [h.rest.ground, h.engine, h.question, h.watch]
  exact asked

theorem Apart.judged {u : State} (h : Apart e s u) {q : Question} {x : Work} {snap : Snapshot} {j : Job}
    (judged : Judged s e q x snap j) : Judged u e q x snap j :=
  ⟨h.question.trans judged.question, judged.running, by rw [h.rest.regs]; exact judged.snapshot,
    by rw [h.engine]; exact judged.phase, by rw [h.engine]; exact judged.job, by rw [h.engine]; exact judged.noStop⟩

/-- The question of an engine without a watch, when all watches and then all questions are judged. -/
theorem judged_asks {q : Question} {x : Work} {snap : Snapshot} {j : Job} {p : Profile} (judged : Judged s e q x snap j)
    (profile : x = .round → (s.engine e).profile = some p) (noWatch : s.watch e = none) :
    s.judgeWatches.judgeQuestions.asked e (s.engine e) x j.station (s.station j.station).setup q snap p s.pins.echo none := by
  obtain ⟨u, v, before, watched, asked⟩ := judged_own e s
  rw [judgeWatch_none (before.watch.trans noWatch)] at watched
  have quiet := before.trans watched
  have result := judgeQuestion_asked (quiet.judged judged) p fun round => by rw [quiet.engine]; exact profile round
  rw [quiet.engine, quiet.rest.station, quiet.rest.pins, quiet.watch, noWatch] at result
  exact asked.asked result

theorem judgeQuestions_asks {q : Question} {x : Work} {snap : Snapshot} {j : Job} {p : Profile} (judged : Judged s e q x snap j)
    (profile : x = .round → (s.engine e).profile = some p) :
    s.judgeQuestions.asked e (s.engine e) x j.station (s.station j.station).setup q snap p s.pins.echo (s.watch e) := by
  obtain ⟨u, before, asked⟩ := judgeQuestions_own e s
  have result := judgeQuestion_asked (before.judged judged) p fun round => by rw [before.engine]; exact profile round
  rw [before.engine, before.rest.station, before.rest.pins, before.watch] at result
  exact asked.asked result

theorem updateTracker_judged {k : Tracker} (event : Bool) (questions : k.questions = s.tracker.questions)
    {q : Question} {x : Work} {snap : Snapshot} {j : Job} (judged : Judged s e q x snap j) :
    Judged (s.updateTracker k event) e q x snap j := by
  have tracker : (s.updateTracker k event).tracker = k := by rw [updateTracker_eq, tracked_frame]
  have engine : (s.updateTracker k event).engine e = s.engine e := State.engine_eq (by rw [updateTracker_eq, tracked_frame]) e
  refine ⟨?_, judged.running, ?_, by rw [engine]; exact judged.phase, by rw [engine]; exact judged.job,
    by rw [engine]; exact judged.noStop⟩
  · rw [State.question, tracker, questions]
    exact judged.question
  · rw [updateTracker_eq]
    exact judged.snapshot

theorem updateTracker_station (k : Tracker) (event : Bool) (n : StationId) :
    (s.updateTracker k event).station n = s.station n := State.station_eq (by rw [updateTracker_eq, tracked_frame]) n

theorem updateTracker_pins (k : Tracker) (event : Bool) : (s.updateTracker k event).pins = s.pins := by
  rw [updateTracker_eq, tracked_frame]

/-- The question of an engine without a watch, after an update of the tracker. -/
theorem update_asks {k : Tracker} (event : Bool) (questions : k.questions = s.tracker.questions)
    (watches : k.watches = s.tracker.watches) {q : Question} {x : Work} {snap : Snapshot} {j : Job} {p : Profile}
    (judged : Judged s e q x snap j) (profile : x = .round → (s.engine e).profile = some p) (noWatch : s.watch e = none) :
    (s.updateTracker k event).judgeWatches.judgeQuestions.asked e (s.engine e) x j.station (s.station j.station).setup q snap p
      s.pins.echo none ∧
    (s.updateTracker k event).judgeQuestions.asked e (s.engine e) x j.station (s.station j.station).setup q snap p
      s.pins.echo none := by
  have own := updateTracker_own event questions watches e
  have later := updateTracker_judged event questions judged
  have later' : x = .round → ((s.updateTracker k event).engine e).profile = some p := fun round => by
    rw [own.engine]
    exact profile round
  have both := judged_asks later later' (own.watch.trans noWatch)
  have alone := judgeQuestions_asks later later'
  rw [own.engine, updateTracker_station, updateTracker_pins] at both alone
  rw [own.watch, noWatch] at alone
  exact ⟨both, alone⟩

/-- A command that lets every question be judged afresh. -/
def judgesAfresh (c : Instr) (s : State) (snap : Snapshot) (echo : Levels) : Prop :=
  c = .mclkEdge (!snap.mclkFalling) echo ∧ s.pins.mclk = snap.mclkFalling ∨
    c = .midxEdge (!snap.midxFalling) echo ∧ s.pins.midx = snap.midxFalling ∨
    (c = .stopTimeout echo ∧ s.tracker.stopped = false)

theorem exec_mclk_selected {snap : Snapshot} (running : s.inReset = false) (snapshot : s.regs.snapshot = some snap)
    (pin : s.pins.mclk = snap.mclkFalling) (echo : Levels) :
    exec (.mclkEdge (!snap.mclkFalling) echo) s =
      .next (State.takeMclk { s with pins := { s.pins with mclk := !snap.mclkFalling, echo := echo } } snap.ppc) := by
  rw [exec_mclkEdge running]
  exact congrArg Host.Outcome.next (encoderEdge_selected le_rfl (by rw [pin]; cases snap.mclkFalling <;> decide) snapshot rfl)

theorem exec_midx_selected {snap : Snapshot} (running : s.inReset = false) (snapshot : s.regs.snapshot = some snap)
    (pin : s.pins.midx = snap.midxFalling) (echo : Levels) :
    exec (.midxEdge (!snap.midxFalling) echo) s =
      .next (State.takeMidx { s with pins := { s.pins with midx := !snap.midxFalling, echo := echo } } snap.ppc) := by
  rw [exec_midxEdge running]
  exact congrArg Host.Outcome.next (encoderEdge_selected le_rfl (by rw [pin]; cases snap.midxFalling <;> decide) snapshot rfl)

theorem exec_stopTimeout {snap : Snapshot} (running : s.inReset = false) (snapshot : s.regs.snapshot = some snap)
    (runs : s.tracker.stopped = false) (echo : Levels) :
    exec (.stopTimeout echo) s = .next ((s.sampleEcho echo).takeStopTimeout snap.stopTimeout) := by
  change execStopTimeout echo s = _
  simp [execStopTimeout, snapshot, State.whenever, running, runs]

/-- Such a command asks the question of an engine without a watch. -/
theorem judgesAfresh_asks {c : Instr} {snap : Snapshot} {echo : Levels} (running : s.inReset = false)
    (afresh : judgesAfresh c s snap echo) {q : Question} {x : Work} {j : Job} {p : Profile} (judged : Judged s e q x snap j)
    (profile : x = .round → (s.engine e).profile = some p) (noWatch : s.watch e = none) :
    ∃ t, exec c s = .next t ∧
      t.asked e (s.engine e) x j.station (s.station j.station).setup q snap p echo none := by
  obtain ⟨rfl, pin⟩ | ⟨rfl, pin⟩ | ⟨rfl, runs⟩ := afresh
  · obtain ⟨same, watches⟩ := advance_keeps s.tracker snap.ppc
    exact ⟨_, exec_mclk_selected running judged.snapshot pin echo,
      (update_asks (s := { s with pins := { s.pins with mclk := !snap.mclkFalling, echo := echo } })
        (k := { (s.tracker.advance snap.ppc).1 with stopTimer := 0, stopped := false })
        ((s.tracker.advance snap.ppc).2 || s.tracker.stopped) same watches
        ⟨judged.question, judged.running, judged.snapshot, judged.phase, judged.job, judged.noStop⟩ profile noWatch).1⟩
  · obtain ⟨same, watches⟩ := index_keeps s.tracker snap.ppc
    exact ⟨_, exec_midx_selected running judged.snapshot pin echo,
      (update_asks (s := { s with pins := { s.pins with midx := !snap.midxFalling, echo := echo } })
        (k := (s.tracker.index snap.ppc).1) (s.tracker.index snap.ppc).2 same watches
        ⟨judged.question, judged.running, judged.snapshot, judged.phase, judged.job, judged.noStop⟩ profile noWatch).1⟩
  · exact ⟨_, exec_stopTimeout running judged.snapshot runs echo,
      (update_asks (s := s.sampleEcho echo) (k := s.tracker.timedOut snap.stopTimeout) true rfl rfl
        ⟨judged.question, judged.running, judged.snapshot, judged.phase, judged.job, judged.noStop⟩ profile noWatch).2⟩

/-- Settles O42. -/
theorem questionsAndTheirGrounds : Obligations.QuestionsAndTheirGrounds := by
  refine ⟨fun c k snap positive angle => ?_, fun s c echo e x snap j q p running snapshot afresh phase job question open_ noStop
    profile noWatch => ?_⟩
  · have cases_ := groundOn_cases c k snap positive angle
    intro ppc a b inside
    refine ⟨fun whole => ?_, fun differ valid within => ?_, fun differ outside => ?_⟩
    · exact cases_.trans (if_pos whole)
    · exact cases_.trans ((if_neg differ).trans (if_pos ⟨valid, within⟩))
    · refine cases_.trans ((if_neg differ).trans (if_neg ?_))
      rintro ⟨valid, within⟩
      obtain invalid | out := outside
      · rw [valid] at invalid
        exact Bool.noConfusion invalid
      · exact out within
  · obtain ⟨t, done, asked⟩ := judgesAfresh_asks running afresh ⟨question, open_, snapshot, phase, job, noStop⟩ profile noWatch
    refine ⟨t, done, fun closed => ?_, fun g ground => ?_⟩
    · unfold State.asked at asked
      rw [closed] at asked
      obtain ⟨engine, open_, watch⟩ := asked
      exact ⟨engine.trans (by rw [← phase]), open_, watch⟩
    · unfold State.asked at asked
      rw [ground] at asked
      obtain ⟨ended, began⟩ := asked
      refine ⟨ended, fun low => ?_, fun high => ?_⟩
      · rw [low, if_neg (by decide)] at began
        exact began.symm
      · rw [high, if_pos rfl] at began
        exact began.symm

/-! ## Watches at an edge (04 R81 to R83) -/

theorem isDisturbed_congr (w : Watch) {k l : Tracker} (angle : l.angle = k.angle) (valid : l.valid = k.valid) :
    w.isDisturbed l = w.isDisturbed k := by
  unfold Watch.isDisturbed
  rw [angle, valid]

theorem Within.disturbs (h : Within s t) (w : Watch) : w.isDisturbed t.tracker = w.isDisturbed s.tracker :=
  isDisturbed_congr w (by rw [h]) (by rw [h])

theorem marked_phase (g : Engine) : g.marked.phase = g.phase := by
  unfold Engine.marked
  split <;> rfl

theorem marked_reading {g : Engine} (reading : g.phase = .reading) :
    g.marked = { g with frame := { g.frame with disturbed := true } } := by
  unfold Engine.marked
  rw [reading]

theorem marked_other {g : Engine} (other : g.phase ≠ .reading) :
    g.marked = { g with capture := { g.capture with disturbed := true } } := by
  unfold Engine.marked
  split
  · rename_i reading
    exact absurd reading other
  · rfl

/-- The watch of an engine at work, when all watches and then all questions are judged. -/
theorem judged_marks {w : Watch} (watch : s.watch e = some w) (working : ∀ x, (s.engine e).phase ≠ .gating x) :
    let t := s.judgeWatches.judgeQuestions
    (w.disturbed = false ∧ w.isDisturbed t.tracker = true →
      t.watch e = some { w with disturbed := true } ∧ t.engine e = (s.engine e).marked) ∧
    (¬(w.disturbed = false ∧ w.isDisturbed t.tracker = true) → t.watch e = some w ∧ t.engine e = s.engine e) := by
  intro t
  obtain ⟨u, v, before, watched, asked⟩ := judged_own e s
  have within : Within s t := judgeQuestions_within (judgeWatches_within (.refl s))
  have same : w.isDisturbed u.tracker = w.isDisturbed t.tracker := (before.rest.disturbs w).trans (within.disturbs w).symm
  rw [judgeWatch_some (before.watch.trans watch), same] at watched
  have goes_on (h : ∀ x, (v.engine e).phase ≠ .gating x) : Apart e v t := by
    rw [judgeQuestion_stays (.inr (.inr (.inl h)))] at asked
    exact asked
  refine ⟨fun disturbs => ?_, fun quiet => ?_⟩
  · rw [if_pos disturbs] at watched
    have own := disturb_own (s := u) (e := e) w
    have engine : v.engine e = (s.engine e).marked := (watched.engine.trans own.engine).trans (by rw [before.engine])
    have rest := goes_on fun x => by
      rw [engine, marked_phase]
      exact working x
    exact ⟨(rest.watch.trans watched.watch).trans own.watch, rest.engine.trans engine⟩
  · rw [if_neg quiet] at watched
    have all := before.trans watched
    have rest := goes_on fun x => by
      rw [all.engine]
      exact working x
    exact ⟨(rest.watch.trans all.watch).trans watch, rest.engine.trans all.engine⟩

theorem isDisturbed_iff (w : Watch) (k : Tracker) (ground : w.ground ≠ .wholeCycle) :
    w.isDisturbed k = true ↔ (w.ground = .arc → ¬(k.valid = true ∧ inArc k.angle w.arcStart w.arcEnd = true)) := by
  unfold Watch.isDisturbed
  cases kind : w.ground
  case wholeCycle => exact absurd kind ground
  case arc => cases k.valid <;> simp
  case stopped => simp

/-- State t follows state s by an edge, with the watch w of the working engine e judged. -/
def State.marksWork (s t : State) (e : EngineId) (w : Watch) : Prop :=
  let disturbs := w.disturbed = false ∧
    (w.ground = .arc → ¬(t.tracker.valid = true ∧ inArc t.tracker.angle w.arcStart w.arcEnd = true))
  (disturbs → t.watch e = some { w with disturbed := true } ∧
    ((s.engine e).phase = .reading →
      t.engine e = { s.engine e with frame := { (s.engine e).frame with disturbed := true } }) ∧
    ((s.engine e).phase ≠ .reading →
      t.engine e = { s.engine e with capture := { (s.engine e).capture with disturbed := true } })) ∧
  (¬disturbs → t.watch e = some w ∧ t.engine e = s.engine e)

/-- The watch of an engine at work, at an update of the tracker after which watches and questions are judged. -/
theorem update_marks {k : Tracker} (event : Bool) (questions : k.questions = s.tracker.questions)
    (watches : k.watches = s.tracker.watches) {w : Watch} (watch : s.watch e = some w)
    (phase : (s.engine e).phase ∈ ([.reading, .pulsing, .listening] : List Phase)) (ground : w.ground ≠ .wholeCycle) :
    s.marksWork (s.updateTracker k event).judgeWatches.judgeQuestions e w := by
  have own := updateTracker_own event questions watches e
  have marks := judged_marks (own.watch.trans watch) fun x => by
    rw [own.engine]
    rintro gating
    simp [gating] at phase
  generalize ((s.updateTracker k event).judgeWatches).judgeQuestions = t at marks ⊢
  rw [own.engine] at marks
  obtain ⟨disturbed, quiet⟩ := marks
  rw [isDisturbed_iff w _ ground] at disturbed quiet
  refine ⟨fun disturbs => ?_, quiet⟩
  obtain ⟨watch', engine⟩ := disturbed disturbs
  exact ⟨watch', fun reading => engine.trans (marked_reading reading), fun other => engine.trans (marked_other other)⟩

theorem takeMclk_marks (ppc : Half) {w : Watch} (watch : s.watch e = some w)
    (phase : (s.engine e).phase ∈ ([.reading, .pulsing, .listening] : List Phase)) (ground : w.ground ≠ .wholeCycle) :
    s.marksWork (s.takeMclk ppc) e w := by
  obtain ⟨same, watches⟩ := advance_keeps s.tracker ppc
  exact update_marks (k := { (s.tracker.advance ppc).1 with stopTimer := 0, stopped := false })
    ((s.tracker.advance ppc).2 || s.tracker.stopped) same watches watch phase ground

theorem takeMidx_marks (ppc : Half) {w : Watch} (watch : s.watch e = some w)
    (phase : (s.engine e).phase ∈ ([.reading, .pulsing, .listening] : List Phase)) (ground : w.ground ≠ .wholeCycle) :
    s.marksWork (s.takeMidx ppc) e w := by
  obtain ⟨same, watches⟩ := index_keeps s.tracker ppc
  exact update_marks (k := (s.tracker.index ppc).1) (s.tracker.index ppc).2 same watches watch phase ground

/-- Settles O43. -/
theorem edgesDisturbTheWatch : Obligations.EdgesDisturbTheWatch := by
  intro s c echo e snap w running snapshot edge phase watch ground
  obtain ⟨rfl, pin⟩ | ⟨rfl, pin⟩ := edge
  · let u : State := { s with pins := { s.pins with mclk := !snap.mclkFalling, echo := echo } }
    have done : exec _ s = .next (u.takeMclk snap.ppc) := exec_mclk_selected running snapshot pin echo
    have marks : u.marksWork (u.takeMclk snap.ppc) e w := takeMclk_marks (s := u) snap.ppc watch phase ground
    generalize u.takeMclk snap.ppc = t at done marks
    exact ⟨t, done, marks⟩
  · let u : State := { s with pins := { s.pins with midx := !snap.midxFalling, echo := echo } }
    have done : exec _ s = .next (u.takeMidx snap.ppc) := exec_midx_selected running snapshot pin echo
    have marks : u.marksWork (u.takeMidx snap.ppc) e w := takeMidx_marks (s := u) snap.ppc watch phase ground
    generalize u.takeMidx snap.ppc = t at done marks
    exact ⟨t, done, marks⟩

end

end Sys2Proof.Machine
end

section
/-! Signature rounds: the ends of driven levels, the transitions of the window, the close of the window and of the settle
gap (06 R107 to R120, 07 R126, R127). -/

namespace Sys2Proof.Machine

/-! ## One engine changed, by what the change makes of it -/

theorem modEngine_congr {s : State} {e : EngineId} {f f' : Engine → Engine} (same : f (s.engine e) = f' (s.engine e)) :
    s.modEngine e f = s.modEngine e f' := by
  unfold State.modEngine
  rw [same]

section
variable {s t : State} {e : EngineId} {g : Engine}

theorem OnEngine.engineLeft (h : OnEngine e s t) (own : Own t e g none none) : s.engineLeft t e g := by
  refine ⟨?_, own.engine, own.question, own.watch, h.other⟩
  have pins : t.pins = s.pins := by rw [h.rest]
  rw [pins]
  exact h.rest

theorem stopNow_left (s : State) (e : EngineId) : s.engineLeft (s.stopNow e) e (s.engine e).stoppedNow :=
  (stopNow_onEngine (.refl e s)).engineLeft (Own.of s e).stopNow

/-! ## The ends of driven levels (06 R111, 07 R126, R127) -/

theorem Engine.resample_eq (g : Engine) (later echo ref : Bool) : g.resample later echo ref = { g with
    rising := false
    echoBefore := if g.rising = true ∨ later = true then echo else g.echoBefore
    refBefore := if g.rising = true ∨ later = true then ref else g.refBefore } := by
  unfold Engine.resample
  by_cases moved : g.rising = true ∨ later = true
  · rw [if_pos (by simpa using moved), if_pos moved, if_pos moved]
  · have still : g.rising = false := by simp_all
    rw [if_neg (by simpa using moved), if_neg moved, if_neg moved, ← still]

theorem Engine.reach_eq (g : Engine) (t : Nat) (echo ref : Bool) : g.reach t echo ref = { g with
    rising := false
    echoBefore := if g.rising = true ∨ g.capture.counter < t then echo else g.echoBefore
    refBefore := if g.rising = true ∨ g.capture.counter < t then ref else g.refBefore
    capture := { g.capture with counter := max g.capture.counter t } } := by
  unfold Engine.reach
  rw [Engine.resample_eq]
  simp only [decide_eq_true_eq]

theorem exec_pulseFall (running : s.inReset = false) (pulsing : (s.engine e).phase = .pulsing) :
    exec (.pulseFall e) s = .next (s.endPulse e) := by
  change execPulseFall e s = _
  simp [execPulseFall, State.whenever, running, pulsing]

theorem endPulse_stopped (stop : (s.engine e).stopOutcome ≠ none) : s.endPulse e = s.stopNow e :=
  if_pos (Option.isSome_iff_ne_none.mpr stop)

theorem endPulse_listening (noStop : (s.engine e).stopOutcome = none) : s.endPulse e = s.modEngine e fun g =>
    { g.reach g.capture.weff (s.echoOf e) (s.refHigh e) with phase := .listening } := by
  unfold State.endPulse
  rw [noStop]
  rfl

theorem exec_frameLevelEnd (running : s.inReset = false) (reading : (s.engine e).phase = .reading) :
    exec (.frameLevelEnd e) s = .next (s.endLevel e) := by
  change execFrameLevelEnd e s = _
  simp [execFrameLevelEnd, State.whenever, running, reading]

theorem endLevel_stopped {p next : FramePhase} (phase : (s.engine e).frame.phase = some p) (after : nextLevel p = some next)
    (stop : (s.engine e).stopOutcome ≠ none) : s.endLevel e = s.stopNow e := by
  unfold State.endLevel
  dsimp only
  rw [phase, Option.bind_some, after]
  exact if_pos (Option.isSome_iff_ne_none.mpr stop)

theorem endLevel_next {p next : FramePhase} {ticks : Nat} (phase : (s.engine e).frame.phase = some p)
    (after : nextLevel p = some next) (length : (s.engine e).frame.levelLength = some ticks)
    (noStop : (s.engine e).stopOutcome = none) : s.endLevel e = s.modEngine e fun g =>
      { g.resample (decide (g.frame.level < ticks)) (s.echoOf e) (s.refHigh e) with
        frame := { g.frame with phase := some next, level := 0, listen := 0 } } := by
  unfold State.endLevel
  dsimp only
  rw [phase, Option.bind_some, after, noStop]
  dsimp only [Option.isSome]
  rw [if_neg (by decide)]
  refine modEngine_congr ?_
  rw [length]

/-- The driven levels of a frame, their successors and their lengths (07 Table 7-3). -/
theorem Frame.level_next {f : Frame} {p next : FramePhase} {ticks : Nat} (phase : f.phase = some p)
    (level : (p = .wakeHigh ∧ next = .wakeLow ∧ ticks = 8 * f.cell) ∨
      (p = .wakeLow ∧ next = .command 0 true ∧ ticks = 2 * f.cell) ∨
      (∃ b, p = .command b true ∧ next = .command b false ∧
        ticks = if f.commandByte.getLsbD (7 - b.val) then 3 * f.cell else f.cell) ∨
      (∃ b : Fin 8, b.val < 7 ∧ p = .command b false ∧ next = .command (b + 1) true ∧ ticks = f.cell) ∨
      (p = .command 7 false ∧ next = .answerWait ∧ ticks = f.cell)) :
    nextLevel p = some next ∧ f.levelLength = some ticks := by
  unfold Frame.levelLength
  rw [phase]
  obtain ⟨rfl, rfl, rfl⟩ | ⟨rfl, rfl, rfl⟩ | ⟨b, rfl, rfl, rfl⟩ | ⟨b, early, rfl, rfl, rfl⟩ | ⟨rfl, rfl, rfl⟩ := level
  · exact ⟨rfl, rfl⟩
  · exact ⟨rfl, rfl⟩
  · exact ⟨rfl, rfl⟩
  · have inner : b ≠ 7 := by
      rintro rfl
      exact absurd early (by decide)
    exact ⟨if_neg inner, rfl⟩
  · exact ⟨rfl, rfl⟩

end

/-- Settles O44: each row is the end of one level; a stop that waited for it is taken there. -/
theorem highLevelsEnd : Obligations.HighLevelsEnd := by
  unfold Obligations.HighLevelsEnd
  refine ⟨fun s e running pulsing => ?_, fun s e p next ticks running reading phase level => ?_⟩
  · refine ⟨_, exec_pulseFall running pulsing, ?_, fun noStop => ?_, fun stop => ?_⟩
    · by_cases stop : (s.engine e).stopOutcome = none
      · rw [endPulse_listening stop]
        simp [State.refStim, State.engine_modEngine_self]
      · rw [endPulse_stopped stop]
        unfold State.refStim
        rw [(Own.of s e).stopNow.engine]
        simp [Engine.stoppedNow]
    · rw [endPulse_listening noStop]
      refine modEngine_congr ?_
      rw [Engine.reach_eq]
    · rw [endPulse_stopped stop]
      exact stopNow_left s e
  · obtain ⟨after, length⟩ := Frame.level_next phase level
    refine ⟨_, exec_frameLevelEnd running reading, fun noStop => ?_, fun stop => ?_⟩
    · rw [endLevel_next phase after length noStop]
      refine modEngine_congr ?_
      rw [Engine.resample_eq]
      simp only [decide_eq_true_eq]
    · rw [endLevel_stopped phase after stop]
      exact stopNow_left s e

/-! ## Transitions in the window (06 R108, R113 to R116) -/

section
variable {s : State} {e : EngineId}

/-- The bit of a line, as the model writes it. -/
theorem lineBit {w : Nat} (n : Nat) : ((1 <<< n : Nat) : BitVec w) = (1 : BitVec w) <<< n := by
  refine BitVec.eq_of_toNat_eq ?_
  simp only [BitVec.natCast_eq_ofNat, BitVec.toNat_ofNat, BitVec.toNat_shiftLeft, Nat.shiftLeft_eq]
  exact (Nat.mod_mul_mod 1 (2 ^ n) (2 ^ w)).symm

theorem setEchoLevel_eq {j : Job} (job : (s.engine e).job = some j) (high : Bool) :
    s.setEchoLevel e high = { s with pins := { s.pins with
      echo := if high then s.pins.echo ||| (1 : Levels) <<< j.station.val
        else s.pins.echo &&& ~~~((1 : Levels) <<< j.station.val) } } := by
  unfold State.setEchoLevel
  rw [job]
  dsimp only
  rw [lineBit]
  rfl

theorem echoOf_eq {j : Job} (job : (s.engine e).job = some j) : s.echoOf e = s.echoHigh j.station := by
  unfold State.echoOf
  rw [job]

theorem exec_echoEdge (running : s.inReset = false) (x : Transition) (phase : (s.engine e).phase ≠ .reading) :
    exec (.echoEdge e x) s = .next ((if (s.engine e).takesEdge x.tick then
      s.windowEdge e x.tick.toNat x.rising Engine.echoBefore Capture.echo else s).setEchoLevel e x.rising) := by
  change execEchoEdge e x s = _
  simp [execEchoEdge, State.whenever, running, phase]

theorem exec_referenceEdge (running : s.inReset = false) (x : Transition) :
    exec (.referenceEdge e x) s = .next ((if (s.engine e).takesEdge x.tick then
      s.windowEdge e x.tick.toNat x.rising Engine.refBefore Capture.ref else s).setRefLevel e x.rising) := by
  change execReferenceEdge e x s = _
  simp [execReferenceEdge, State.whenever, running]

theorem Engine.takesEdge_iff (g : Engine) (t : Half) : g.takesEdge t = true ↔
    (g.phase = .pulsing ∨ g.phase = .listening) ∧ g.stopOutcome = none ∧ g.capture.running = true ∧
      g.capture.counter ≤ t.toNat ∧ t.toNat < g.capture.window := by
  simp [Engine.takesEdge, and_assoc]

theorem Capture.echo_blind (c : Capture) {t : Nat} (blind : t < 3) : c.echo t = c := if_pos blind

theorem Capture.echo_merged {c : Capture} {t l : Nat} (empty : c.latch = none) (last : c.last = some l) (near : t ≤ l + 3) :
    c.echo t = c := by
  obtain ⟨running, counter, weff, window, latch, list, last', overrun, reference, disturbed⟩ := c
  subst empty last
  simp [Capture.echo, Capture.compare, near]

theorem Capture.echo_apart {c : Capture} {t : Nat} (late : 3 ≤ t) (apart : ¬∃ l, c.last = some l ∧ t ≤ l + 3) :
    c.echo t = if c.list.length < 8 then { c with latch := none, list := c.list ++ [t], last := some t }
      else { c with latch := none, overrun := true } := by
  unfold Capture.echo Capture.compare
  dsimp only
  rw [if_neg (show ¬t < 3 by omega)]
  cases last : c.last with
  | none => rfl
  | some l =>
    have far : ¬t ≤ l + 3 := fun near => apart ⟨l, last, near⟩
    dsimp only
    rw [if_neg (by rw [decide_eq_false far]; decide)]

/-- The capture stage after a transition that is an edge, or is not. -/
def Capture.after (c : Capture) (edge : Bool) (t : Nat) : Capture := if edge then c.echo t else c

theorem Capture.after_same {c : Capture} {edge : Bool} {t : Nat} (empty : c.latch = none)
    (stays : edge = false ∨ t < 3 ∨ ∃ l, c.last = some l ∧ t ≤ l + 3) : c.after edge t = c := by
  unfold Capture.after
  obtain none | blind | ⟨l, last, near⟩ := stays
  · rw [none]
    rfl
  · rw [Capture.echo_blind c blind, ite_self]
  · rw [Capture.echo_merged empty last near, ite_self]

/-- What an edge may change in the capture stage. -/
theorem Capture.after_frame {c : Capture} (edge : Bool) (t : Nat) (empty : c.latch = none) : c.after edge t =
    { c with list := (c.after edge t).list, last := (c.after edge t).last, overrun := (c.after edge t).overrun } := by
  unfold Capture.after
  cases edge with
  | false => rfl
  | true =>
    rw [if_pos rfl]
    obtain same | ⟨_, _, captured⟩ | ⟨_, _, overrun⟩ := Capture.echo_cases c t empty
    · rw [same]
    · rw [captured]
    · rw [overrun]

/-- The engine after a transition of ECHOn in its open window, with the samples of the tick before. -/
def Engine.afterEcho (g : Engine) (tick : Nat) (rising before ref : Bool) : Engine := { g with
  rising := false
  echoBefore := before
  refBefore := ref
  capture := { g.capture with counter := tick }.after (rising && !before) tick }

/-- An edge changes list, last timestamp and overrun mark at most. -/
theorem Engine.afterEcho_frame {g : Engine} (tick : Nat) (rising before ref : Bool) (empty : g.capture.latch = none) :
    let k := (g.afterEcho tick rising before ref).capture
    g.afterEcho tick rising before ref = { g with
      rising := false
      echoBefore := before
      refBefore := ref
      capture := { g.capture with counter := tick, list := k.list, last := k.last, overrun := k.overrun } } :=
  congrArg (fun k => { g with rising := false, echoBefore := before, refBefore := ref, capture := k })
    (Capture.after_frame (c := { g.capture with counter := tick }) (rising && !before) tick empty)

theorem Engine.afterEcho_same {g : Engine} {tick : Nat} {rising before : Bool} (ref : Bool) (empty : g.capture.latch = none)
    (stays : (rising && !before) = false ∨ tick < 3 ∨ ∃ l, g.capture.last = some l ∧ tick ≤ l + 3) :
    (g.afterEcho tick rising before ref).capture = { g.capture with counter := tick } :=
  Capture.after_same (c := { g.capture with counter := tick }) empty stays

theorem Engine.afterEcho_apart {g : Engine} {tick : Nat} {rising before : Bool} (ref : Bool)
    (edge : (rising && !before) = true) (late : 3 ≤ tick) (apart : ¬∃ l, g.capture.last = some l ∧ tick ≤ l + 3) :
    (g.afterEcho tick rising before ref).capture =
      if g.capture.list.length < 8 then
        { g.capture with counter := tick, latch := none, list := g.capture.list ++ [tick], last := some tick }
      else { g.capture with counter := tick, latch := none, overrun := true } := by
  unfold Engine.afterEcho Capture.after
  rw [if_pos edge]
  exact Capture.echo_apart late apart

theorem windowEdge_echo {tick : Nat} {rising : Bool} (counter : (s.engine e).capture.counter ≤ tick) :
    let later := (s.engine e).rising = true ∨ (s.engine e).capture.counter < tick
    s.windowEdge e tick rising Engine.echoBefore Capture.echo = s.modEngine e fun g => g.afterEcho tick rising
      (if later then s.echoOf e else g.echoBefore) (if later then s.refHigh e else g.refBefore) := by
  unfold State.windowEdge Engine.afterEcho Capture.after
  refine modEngine_congr ?_
  dsimp only
  rw [Engine.reach_eq, Nat.max_eq_right counter]
  dsimp only
  split_ifs <;> rfl

theorem windowEdge_ref {tick : Nat} {rising : Bool} (counter : (s.engine e).capture.counter ≤ tick) {before : Bool}
    (sampled : before = if (s.engine e).rising = true ∨ (s.engine e).capture.counter < tick then s.refHigh e
      else (s.engine e).refBefore) :
    s.windowEdge e tick rising Engine.refBefore Capture.ref = s.modEngine e fun g => { g with
      rising := false
      echoBefore := if g.rising = true ∨ g.capture.counter < tick then s.echoOf e else g.echoBefore
      refBefore := before
      capture := { g.capture with
        counter := tick
        reference := if rising = true ∧ before = false ∧ 3 ≤ tick ∧ g.capture.reference = none then some tick
          else g.capture.reference } } := by
  unfold State.windowEdge Capture.ref
  refine modEngine_congr ?_
  dsimp only
  rw [Engine.reach_eq, Nat.max_eq_right counter, ← sampled]
  dsimp only
  by_cases edge : rising = true ∧ before = false
  · obtain ⟨rfl, rfl⟩ := edge
    by_cases blind : tick < 3
    · simp [blind]
    · cases (s.engine e).capture.reference <;> simp [blind]
  · have none : ¬(rising = true ∧ before = false ∧ 3 ≤ tick ∧ (s.engine e).capture.reference = .none) :=
      fun ⟨rises, low, _⟩ => edge ⟨rises, low⟩
    rw [if_neg (by simpa using edge), if_neg none]

theorem setRefLevel_eq (s : State) (e : EngineId) (high : Bool) : s.setRefLevel e high = { s with pins := { s.pins with
    refEcho := if high then s.pins.refEcho ||| (1 : BitVec 4) <<< e.val
      else s.pins.refEcho &&& ~~~((1 : BitVec 4) <<< e.val) } } := by
  unfold State.setRefLevel
  dsimp only
  rw [lineBit]
  rfl

end

/-- Settles O45: outside an open window only the line moves; inside, the edge goes through the merge latch. -/
theorem edgesInTheWindow : Obligations.EdgesInTheWindow := by
  unfold Obligations.EdgesInTheWindow
  refine ⟨fun s e j tick rising running job => ?_, fun s e tick rising running => ?_⟩
  · intro line levelled
    refine ⟨fun phase => ?_, fun phase noStop open_ reached before_close empty => ?_⟩
    · have apart : (s.engine e).phase ≠ .reading := fun reading => phase (by simp [reading])
      have closed : (s.engine e).takesEdge tick ≠ true := by
        rw [ne_eq, Engine.takesEdge_iff]
        rintro ⟨pulsing | listening, -⟩
        · exact phase (by simp [pulsing])
        · exact phase (by simp [listening])
      rw [exec_echoEdge running ⟨tick, rising⟩ apart, if_neg closed, setEchoLevel_eq job]
    · have apart : (s.engine e).phase ≠ .reading := by
        rintro reading
        simp [reading] at phase
      have taken : (s.engine e).takesEdge tick = true :=
        (Engine.takesEdge_iff _ _).mpr ⟨phase, noStop, open_, reached, before_close⟩
      intro c later before edge merged
      let g := (s.engine e).afterEcho tick.toNat rising before (if later then s.refHigh e else (s.engine e).refBefore)
      have own : (levelled (s.modEngine e fun _ => g)).engine e = g :=
        State.engine_modEngine_self s e fun _ => g
      refine ⟨levelled (s.modEngine e fun _ => g), ?_, ?_, ?_⟩
      · rw [exec_echoEdge running ⟨tick, rising⟩ apart, if_pos taken, windowEdge_echo reached,
          setEchoLevel_eq (j := j) (by rw [State.engine_modEngine_self]; exact job), echoOf_eq job]
        rfl
      · rw [own]
        exact congrArg levelled (modEngine_congr (Engine.afterEcho_frame _ _ _ _ empty))
      · rw [own]
        refine ⟨fun stays => ?_, fun edge late fresh room => ?_, fun edge late fresh full => ?_⟩
        · have same : g.capture = { c with counter := tick.toNat } := by
            refine Engine.afterEcho_same _ empty ?_
            obtain none | stays := stays
            · exact .inl (by simpa [edge] using none)
            · exact .inr stays
          rw [same]
          exact ⟨rfl, rfl, rfl⟩
        · have captured := Engine.afterEcho_apart (if later then s.refHigh e else (s.engine e).refBefore)
            (by simpa using edge) late fresh
          rw [if_pos room] at captured
          rw [show g.capture = _ from captured]
          exact ⟨rfl, rfl, rfl⟩
        · have overrun := Engine.afterEcho_apart (if later then s.refHigh e else (s.engine e).refBefore)
            (by simpa using edge) late fresh
          rw [if_neg (Nat.not_lt.mpr full)] at overrun
          rw [show g.capture = _ from overrun]
          exact ⟨rfl, rfl, rfl⟩
  · refine ⟨fun phase => ?_, fun phase noStop open_ reached before_close => ?_⟩
    · have closed : (s.engine e).takesEdge tick ≠ true := by
        rw [ne_eq, Engine.takesEdge_iff]
        rintro ⟨pulsing | listening, -⟩
        · exact phase (by simp [pulsing])
        · exact phase (by simp [listening])
      rw [exec_referenceEdge running ⟨tick, rising⟩, if_neg closed, setRefLevel_eq]
    · have taken : (s.engine e).takesEdge tick = true :=
        (Engine.takesEdge_iff _ _).mpr ⟨phase, noStop, open_, reached, before_close⟩
      rw [exec_referenceEdge running ⟨tick, rising⟩, if_pos taken, windowEdge_ref reached rfl, setRefLevel_eq]
      rfl

/-! ## The close of the window (06 R117 to R119) -/

/-- The reason flag of a discarded round, in the order of 06 Table 6-3. -/
theorem Capture.discard_eq (c : Capture) (n : Nat) : c.discard n =
    if c.disturbed = true then some 0x0010
    else if c.overrun = true then some 0x0008
    else if c.reference = none then some 0x0004
    else if c.list.length ≠ n then some 0x0002
    else none := by
  unfold Capture.discard
  simp only [Option.isNone_iff_eq_none]
  rfl

/-- The accumulators after a round that is discarded with this cause, or is valid. -/
def Rounds.judged (r : Rounds) (c : Capture) (cause : Option Half) : Rounds :=
  if cause = none then r.addValid c else { r with attempts := r.attempts + 1 }

theorem Rounds.judged_attempts (r : Rounds) (c : Capture) (cause : Option Half) :
    (r.judged c cause).attempts = r.attempts + 1 := by
  unfold Rounds.judged
  split_ifs <;> rfl

theorem Engine.judgeRound_eq (g : Engine) (n : Nat) : g.judgeRound n = { g with
    rounds := g.rounds.judged g.capture (g.capture.discard n)
    flags := g.flags ||| (g.capture.discard n).getD 0
    capture := Capture.reset } := by
  unfold Engine.judgeRound
  cases g.capture.discard n with
  | none => simp [Rounds.judged]
  | some f => rfl

theorem Engine.collectionEnd_eq {g : Engine} {target : Nat} (fixed : g.target = some target) : g.collectionEnd =
    if g.rounds.valid = target then some .roundsMet
    else if g.rounds.attempts = 2 * target then some .attemptsSpent
    else none := by
  unfold Engine.collectionEnd
  rw [fixed]

/-- The engine after its window has closed on these rounds: collection has ended or the settle gap begins, held or not. -/
def Engine.windowClosed (g : Engine) (enable : Bool) (target : Nat) (nref : Half) : Engine :=
  let collected := g.rounds.valid = target ∨ g.rounds.attempts = 2 * target
  { g with
    ending := if g.rounds.valid = target then some .roundsMet
      else if g.rounds.attempts = 2 * target then some .attemptsSpent else g.ending
    phase := if collected then (if enable then .computing .scoring else .held (.computing .scoring))
      else if enable then .settling else .held .settling
    nref := if collected ∧ enable = true then nref else g.nref
    settle := if ¬collected ∧ enable = true then 0 else g.settle }

section
variable {s : State} {e : EngineId}

theorem exec_windowClose {p : Profile} (running : s.inReset = false) (listening : (s.engine e).phase = .listening)
    (profile : (s.engine e).profile = some p) : exec (.windowClose e) s = .next (s.closeWindow e p.n.toNat) := by
  change execWindowClose e s = _
  unfold execWindowClose
  rw [profile]
  simp [State.whenever, running, listening]

theorem toScoring_eq {snap : Snapshot} (snapshot : s.regs.snapshot = some snap) :
    s.toScoring e = s.modEngine e fun g => { g with
      phase := if s.regs.enable then .computing .scoring else .held (.computing .scoring)
      nref := if s.regs.enable then snap.nref[e.val] else g.nref } := by
  unfold State.toScoring State.beginScoring State.setPhase
  rw [snapshot]
  cases s.regs.enable <;> rfl

theorem toSettling_eq : s.toSettling e = s.modEngine e fun g => { g with
    phase := if s.regs.enable then .settling else .held .settling
    settle := if s.regs.enable then 0 else g.settle } := by
  unfold State.toSettling State.beginSettling State.setPhase
  cases s.regs.enable <;> rfl

theorem closeWindow_eq {target : Nat} {snap : Snapshot} (fixed : (s.engine e).target = some target)
    (snapshot : s.regs.snapshot = some snap) (n : Nat) : s.closeWindow e n =
      (s.setWatch e none).modEngine e fun g => (g.judgeRound n).windowClosed s.regs.enable target snap.nref[e.val] := by
  have closed : (s.modEngine e fun g => g.judgeRound n).closeWatch e =
      (s.setWatch e none).modEngine e fun g => g.judgeRound n := rfl
  have judged : ((s.setWatch e none).modEngine e fun g => g.judgeRound n).engine e = (s.engine e).judgeRound n :=
    State.engine_modEngine_self _ e _
  have fixed' : ((s.engine e).judgeRound n).target = some target := by rw [Engine.judgeRound_eq, fixed]
  unfold State.closeWindow
  dsimp only
  rw [closed, judged, Engine.collectionEnd_eq fixed']
  rw [← modEngine_modEngine _ e (fun g => g.judgeRound n) fun g => g.windowClosed s.regs.enable target snap.nref[e.val]]
  generalize v_def : (s.setWatch e none).modEngine e (fun g => g.judgeRound n) = v at judged ⊢
  have regs : v.regs = s.regs := by rw [← v_def]; rfl
  rw [← judged]
  by_cases met : (v.engine e).rounds.valid = target
  · rw [if_pos met]
    dsimp only
    rw [toScoring_eq (s := v.modEngine e _) (by rw [State.modEngine_regs, regs, snapshot]), modEngine_modEngine]
    refine modEngine_congr ?_
    rw [State.modEngine_regs, regs]
    simp [Engine.windowClosed, met]
  · rw [if_neg met]
    by_cases spent : (v.engine e).rounds.attempts = 2 * target
    · rw [if_pos spent]
      dsimp only
      rw [toScoring_eq (s := v.modEngine e _) (by rw [State.modEngine_regs, regs, snapshot]), modEngine_modEngine]
      refine modEngine_congr ?_
      rw [State.modEngine_regs, regs]
      simp [Engine.windowClosed, met, spent]
    · rw [if_neg spent]
      dsimp only
      rw [toSettling_eq, regs]
      refine modEngine_congr ?_
      simp [Engine.windowClosed, met, spent]

end

/-- Settles O46: the round's cause decides the accumulators, and these the end of collection. -/
theorem windowCloseJudgesTheRound : Obligations.WindowCloseJudgesTheRound := by
  unfold Obligations.WindowCloseJudgesTheRound
  intro s e p snap target running listening profile fixed snapshot g c cause
  have cause_eq : c.discard p.n.toNat = cause := Capture.discard_eq c p.n.toNat
  have final : ((s.setWatch e none).modEngine e fun g =>
      (g.judgeRound p.n.toNat).windowClosed s.regs.enable target snap.nref[e.val]).engine e =
      ({ g with rounds := g.rounds.judged c cause, flags := g.flags ||| cause.getD 0, capture := Capture.reset } :
        Engine).windowClosed s.regs.enable target snap.nref[e.val] := by
    rw [State.engine_modEngine_self, ← cause_eq]
    exact congrArg (Engine.windowClosed · _ _ _) (Engine.judgeRound_eq g p.n.toNat)
  have other := (modEngine_onEngine (setWatch_onEngine (.refl e s) none) fun g =>
    (g.judgeRound p.n.toNat).windowClosed s.regs.enable target snap.nref[e.val]).other
  refine ⟨_, (exec_windowClose running listening profile).trans (congrArg _ (closeWindow_eq fixed snapshot _)), ?_, rfl,
    fun e' apart => ?_, ?_⟩
  · rw [State.watch_modEngine, State.watch_setWatch, if_pos rfl]
  · obtain ⟨engine, _, watch⟩ := other e' apart
    exact ⟨engine, watch⟩
  · rw [final]
    refine ⟨rfl, Rounds.judged_attempts _ _ _, fun discarded => if_neg discarded, fun valid => ?_, ?_⟩
    · have rounds : g.rounds.judged c cause = g.rounds.addValid c := if_pos valid
      dsimp only [Engine.windowClosed]
      rw [rounds]
      exact ⟨rfl, rfl, fun first => if_pos first, fun later => if_neg later⟩
    · exact ⟨rfl, rfl, rfl, rfl⟩

/-! ## The end of the settle gap (06 R120) -/

section
variable {s : State} {e : EngineId}

theorem exec_settleEnd (running : s.inReset = false) (settling : (s.engine e).phase = .settling) (echo : Levels) :
    exec (.settleEnd e echo) s = .next ((s.sampleEcho echo).toGating e .round) := by
  change execSettleEnd e echo s = _
  simp [execSettleEnd, State.whenever, running, settling]

theorem toGating_held (off : s.regs.enable = false) (x : Work) :
    s.toGating e x = s.modEngine e fun g => { g with phase := .held (.gating x) } := by
  unfold State.toGating State.setPhase
  rw [off, if_neg (by decide)]

theorem toGating_enabled (on : s.regs.enable = true) (x : Work) : s.toGating e x = s.askQuestion e x := by
  unfold State.toGating
  rw [on, if_pos rfl]

end

/-! ## What asking a question has left -/

section
variable {t : State} {e : EngineId} {g : Engine} {x : Work} {n : StationId} {c : Setup} {q : Question} {snap : Snapshot}
  {p : Profile} {echo : Levels} {w : Option Watch}

theorem State.asked.stays (asked : t.asked e g x n c q snap p echo w) (ground : c.groundOn t.tracker snap = none) :
    t.engine e = { g with phase := .gating x } ∧ t.question e = some q ∧ t.watch e = w := by
  unfold State.asked at asked
  rw [ground] at asked
  exact asked

theorem State.asked.ends (asked : t.asked e g x n c q snap p echo w) {gr : Ground}
    (ground : c.groundOn t.tracker snap = some gr) : t.question e = none ∧
      (echo.getLsbD n.val = false → t.watch e = c.watchOn snap n gr ∧ t.engine e = g.atWork x snap p) ∧
      (echo.getLsbD n.val = true → t.watch e = none ∧ t.engine e = g.faulted .echoStuck) := by
  unfold State.asked at asked
  rw [ground] at asked
  obtain ⟨question, work⟩ := asked
  refine ⟨question, fun low => ?_, fun high => ?_⟩
  · rw [low, if_neg (by decide)] at work
    exact work.symm
  · rw [high, if_pos rfl] at work
    exact work.symm

end

/-- Settles O47: the gap's end is a question asked with ENABLE 1, or the hold of it. -/
theorem settleEndAsksForTheNextRound : Obligations.SettleEndAsksForTheNextRound := by
  unfold Obligations.SettleEndAsksForTheNextRound
  refine ⟨fun p cell => rfl, fun s e echo p snap j running settling profile job noStop snapshot noWatch => ?_⟩
  have onEngine := toGating_onEngine (.refl e (s.sampleEcho echo)) .round
  have pins : ((s.sampleEcho echo).toGating e .round).pins = { s.pins with echo := echo } := by rw [onEngine.rest]; rfl
  have same := onEngine.rest.ground (s.station j.station).setup snap
  have asked := askQuestion_asked (s := s.sampleEcho echo) snapshot job noStop .round p
    fun _ => profile
  refine ⟨_, exec_settleEnd running settling echo, pins, onEngine.other, ?_, fun off => ?_, fun on ground => ?_,
    fun on ground grounds => ?_⟩
  · rw [pins]
    exact onEngine.rest
  · rw [toGating_held (s := s.sampleEcho echo) off]
    exact ⟨State.engine_modEngine_self _ e _, rfl, noWatch⟩
  · rw [toGating_enabled (s := s.sampleEcho echo) on] at same ⊢
    obtain ⟨engine, question, watch⟩ := asked.stays (same.trans ground)
    exact ⟨engine, question, watch.trans noWatch⟩
  · rw [toGating_enabled (s := s.sampleEcho echo) on] at same ⊢
    exact asked.ends (same.trans grounds)

end Sys2Proof.Machine
end

section
/-! Tag frames: the decoder from the answer wait to its decision, and the end of the tail (07 R128 to R137, 05 R91). -/

namespace Sys2Proof.Machine

/-! ## The CRC (07 R133) -/

theorem crcBit_eq (reg : Half) (b : Bool) :
    crcBit reg b = if reg.getLsbD 15 = b then reg <<< 1 else (reg <<< 1) ^^^ 0x1021 := by
  unfold crcBit
  rw [BitVec.msb_eq_getLsbD_last]
  cases reg.getLsbD 15 <;> cases b <;> rfl

theorem byteBits_eq (b : Byte) : byteBits b = [7, 6, 5, 4, 3, 2, 1, 0].map fun i => b.getLsbD i := rfl

theorem crcOf_append (bs : List Byte) (b : Byte) : crcOf (bs ++ [b]) = (byteBits b).foldl crcBit (crcOf bs) := by
  unfold crcOf
  rw [List.foldl_append]
  rfl

section
variable {s : State} {e : EngineId}

/-! ## Decisions without a complete answer (07 R129 to R131) -/

theorem decideIn_eq {p : FramePhase} (running : s.inReset = false) (reading : (s.engine e).phase = .reading)
    (phase : (s.engine e).frame.phase = some p) (cause : FrameCause) (low : Option Nat) (listen : Engine → Nat) :
    s.decideIn e p cause low listen = s.modEngine e fun g => { g with frame := { g.frame with
      phase := some .tail, decision := some (.failed cause), listen := listen (s.engine e), low := low } } := by
  unfold State.decideIn State.whenever State.decoderIn
  rw [running, reading, phase]
  exact (if_neg (by decide)).trans ((if_pos (by simp)).trans (modEngine_congr rfl))

/-! ## Answer bits (07 R129 to R132) -/

/-- The line after a transition to this level. -/
def State.levelled (s : State) (n : StationId) (high : Bool) : State := { s with pins := { s.pins with
  echo := if high then s.pins.echo ||| (1 : Levels) <<< n.val else s.pins.echo &&& ~~~((1 : Levels) <<< n.val) } }

theorem answerEdge_none {j : Job} (job : (s.engine e).job = some j) (high : Bool) :
    s.answerEdge e high none = s.levelled j.station high := setEchoLevel_eq job high

theorem answerEdge_some {j : Job} (job : (s.engine e).job = some j) (high : Bool) (f : Frame) :
    s.answerEdge e high (some f) =
      (s.modEngine e fun g => { g with frame := f, echoBefore := !high }).levelled j.station high :=
  setEchoLevel_eq (by rw [State.engine_modEngine_self]; exact job) high

theorem exec_answerBitRise (running : s.inReset = false) (reading : (s.engine e).phase = .reading) (count : Nat) :
    exec (.answerBitRise e count) s =
      .next (s.answerEdge e true ((s.engine e).frame.rise (s.engine e).echoBefore (s.echoOf e) count)) := by
  change execAnswerBitRise e count s = _
  simp [execAnswerBitRise, State.whenever, running, reading]

theorem exec_answerBitFall (running : s.inReset = false) (reading : (s.engine e).phase = .reading) (count : Nat) :
    exec (.answerBitFall e count) s = .next (s.answerEdge e false
      ((s.engine e).frame.fall (s.engine e).echoBefore (s.engine e).header.tagAddress count)) := by
  change execAnswerBitFall e count s = _
  simp [execAnswerBitFall, State.whenever, running, reading]

theorem exec_answerComplete (running : s.inReset = false) (reading : (s.engine e).phase = .reading)
    (last : (s.engine e).frame.answer.length = 111) (count : Nat) :
    exec (.answerComplete e count) s = exec (.answerBitFall e count) s := by
  rw [exec_answerBitFall running reading]
  change execAnswerComplete e count s = _
  simp [execAnswerComplete, State.whenever, running, reading, last]

theorem Frame.rise_wait {f : Frame} {before now : Bool} {count : Nat} (wait : f.phase = some .answerWait) :
    f.rise before now count =
      if f.listen ≤ count ∧ count < 16 * f.cell ∧ (if f.listen = count then before else now) = false then
        some { f with phase := some .answerHigh, listen := count, width := 1 }
      else none := by
  unfold Frame.rise
  rw [wait]

theorem Frame.rise_gap {f : Frame} {before now : Bool} {count : Nat} (gap : f.phase = some .answerGap) :
    f.rise before now count =
      if 1 ≤ count ∧ f.gapPast before ≤ count ∧ count < 4 * f.cell ∧
          (if f.gapPast before = count then before else now) = false then
        some { f with phase := some .answerHigh, listen := f.listen + (count - f.gapPast before), width := 1 }
      else none := by
  unfold Frame.rise
  rw [gap]

theorem Frame.rise_none {f : Frame} {before now : Bool} {count : Nat}
    (closed : f.phase ≠ some .answerWait ∧ f.phase ≠ some .answerGap ∨
      f.phase = some .answerWait ∧ (if f.listen = count then before else now) = true) : f.rise before now count = none := by
  obtain ⟨noWait, noGap⟩ | ⟨wait, high⟩ := closed
  · unfold Frame.rise
    split
    · exact absurd ‹_› noWait
    · exact absurd ‹_› noGap
    · rfl
  · rw [Frame.rise_wait wait, if_neg]
    rintro ⟨-, -, low⟩
    rw [high] at low
    exact Bool.noConfusion low

theorem Frame.fall_none {f : Frame} {before : Bool} {tag : Byte} {width : Nat} (phase : f.phase ≠ some .answerHigh) :
    f.fall before tag width = none := by
  unfold Frame.fall
  exact if_neg fun high => phase high.1

/-- The frame with its next answer bit. -/
def Frame.withBit (f : Frame) (width : Nat) : Frame :=
  { f with answer := f.answer ++ [decide (2 * f.cell ≤ width)], width := width }

theorem Frame.fall_high {f : Frame} {before : Bool} {tag : Byte} {width : Nat} (phase : f.phase = some .answerHigh)
    (some_ : 1 ≤ width) (past : f.widthPast before ≤ width) (short : width < 4 * f.cell) : f.fall before tag width =
      some (if f.answer.length = 111 then
        { f.withBit width with
          phase := some .tail, listen := f.listen + (width - f.widthPast before), low := none
          crc := crcOf ((f.withBit width).record.take 12)
          decision := some (judgeRecord tag (f.withBit width).record) }
      else { f.withBit width with phase := some .answerGap, gap := 1, listen := f.listen + (width - f.widthPast before) }) := by
  have length : (f.answer ++ [decide (2 * f.cell ≤ width)]).length = 112 ↔ f.answer.length = 111 := by
    rw [List.length_append]
    simp
  unfold Frame.fall
  dsimp only
  rw [if_pos ⟨phase, some_, past, short⟩]
  by_cases last : f.answer.length = 111
  · rw [if_pos (length.mpr last), if_pos last]
    rfl
  · rw [if_neg (mt length.mp last), if_neg last]
    rfl

end

/-- Settles O48: each row of the decoder is one case of Frame.rise, Frame.fall or of a decision. -/
theorem decoderFollowsTheAnswer : Obligations.DecoderFollowsTheAnswer := by
  unfold Obligations.DecoderFollowsTheAnswer
  refine ⟨⟨rfl, fun bs b => ?_⟩, fun s e running reading => ?_, fun s e count j running reading job => ?_⟩
  · rw [crcOf_append, byteBits_eq, List.foldl_map]
    simp only [crcBit_eq]
  · refine ⟨fun phase => ?_, fun phase => ?_, fun phase => ?_⟩
    · exact congrArg Host.Outcome.next (decideIn_eq running reading phase _ _ _)
    · exact congrArg Host.Outcome.next (decideIn_eq running reading phase _ _ _)
    · exact congrArg Host.Outcome.next (decideIn_eq running reading phase _ _ _)
  · intro f before now line rises falls risen left gapPast highPast
    have echo := echoOf_eq job
    refine ⟨fun phase late early low => ?_, fun phase first late early low => ?_, fun closed => ?_, fun phase => ?_,
      fun phase first late early => ?_⟩
    · rw [exec_answerBitRise running reading, Frame.rise_wait phase, echo, if_pos ⟨late, early, low⟩, answerEdge_some job]
      rfl
    · rw [exec_answerBitRise running reading, Frame.rise_gap phase, echo, if_pos ⟨first, late, early, low⟩, answerEdge_some job]
      rfl
    · rw [exec_answerBitRise running reading, Frame.rise_none (by rw [echo]; exact closed), answerEdge_none job]
      rfl
    · rw [exec_answerBitFall running reading, Frame.fall_none phase, answerEdge_none job]
      rfl
    · intro answer record listen ended
      have fall : exec (.answerBitFall e count) s = _ := exec_answerBitFall running reading count
      rw [Frame.fall_high phase first late early, answerEdge_some job] at fall
      refine ⟨fun more => ?_, fun last => ?_⟩
      · rw [fall, if_neg more]
        rfl
      · rw [exec_answerComplete running reading last, fall, if_pos last]
        exact ⟨rfl, rfl⟩

/-! ## The end of the tail (07 R135, R137, 05 R91, 10 R182) -/

/-- Asking does not depend on the step the engine comes from. -/
theorem State.asked.from {t : State} {e : EngineId} {g : Engine} {x : Work} {n : StationId} {c : Setup} {q : Question}
    {snap : Snapshot} {p : Profile} {echo : Levels} {w : Option Watch} (asked : t.asked e g x n c q snap p echo w)
    (from_ : Phase) : t.asked e { g with phase := from_ } x n c q snap p echo w := by
  unfold State.asked at asked ⊢
  cases x <;> exact asked

/-- The engine after a GOOD outcome on a shelf the cache is not asked for. -/
def Engine.answered (g : Engine) (record : List Byte) (enable : Bool) : Engine :=
  let writing : Phase := if enable then .writing .result else .held .writing
  if g.header.kind = 0x01 then { g with tagRecord := some record, phase := writing }
  else if g.header.flags.getLsbD 2 = true ∧ longIn record 4 ≠ g.header.serial then
    { g with tagRecord := some record, phase := writing, figures := { g.figures with error := .serialMismatch } }
  else if enable then { g with tagRecord := some record, phase := .computing .lookup, lookup := Lookup.reset }
  else { g with tagRecord := some record, phase := .held (.computing .lookup) }

section
variable {s : State} {e : EngineId}

theorem exec_tailEnd (running : s.inReset = false) (reading : (s.engine e).phase = .reading)
    (tail : (s.engine e).frame.phase = some .tail) (echo : Levels) :
    exec (.tailEnd e echo) s = .next ((s.sampleEcho echo).endTail e) := by
  change execTailEnd e echo s = _
  simp [execTailEnd, State.whenever, State.decoderIn, running, reading, tail]

/-- The serial test of a GOOD outcome (10 R182). -/
theorem mismatch_iff (h : Header) (record : List Byte) : (h.expectSerial && decide (tagSerial record ≠ h.serial)) = true ↔
    (h.flags.getLsbD 2 = true ∧ longIn record 4 ≠ h.serial) := by
  rw [Bool.and_eq_true, decide_eq_true_eq]
  rfl

theorem toWriting_eq : s.toWriting e = s.modEngine e fun g => { g with
    phase := if s.regs.enable then .writing .result else .held .writing } := rfl

theorem beginLookup_scan (open_ : s.regs.shelfFixed = false) : s.beginLookup e = s.modEngine e fun g => { g with
    phase := .computing .lookup, lookup := Lookup.reset } := by
  unfold State.beginLookup
  dsimp only
  rw [open_, if_neg (by decide)]
  rfl

theorem goodFrame_eq {record : List Byte}
    (uncached : s.regs.shelfFixed = false ∨ s.regs.enable = false ∨ (s.engine e).header.kind = 0x01 ∨
      ((s.engine e).header.flags.getLsbD 2 = true ∧ longIn record 4 ≠ (s.engine e).header.serial)) :
    s.goodFrame e record = s.modEngine e fun g => g.answered record s.regs.enable := by
  unfold State.goodFrame
  dsimp only
  by_cases identify : (s.engine e).header.kind = 0x01
  · rw [if_pos (show (s.engine e).header.kind = kindIdentify from identify), toWriting_eq, modEngine_modEngine]
    refine modEngine_congr ?_
    unfold Engine.answered
    rw [if_pos identify]
    rfl
  · rw [if_neg (show ¬(s.engine e).header.kind = kindIdentify from identify)]
    by_cases mismatch : (s.engine e).header.flags.getLsbD 2 = true ∧ longIn record 4 ≠ (s.engine e).header.serial
    · rw [if_pos ((mismatch_iff _ _).mpr mismatch), toWriting_eq, modEngine_modEngine,
        modEngine_modEngine]
      refine modEngine_congr ?_
      unfold Engine.answered
      rw [if_neg identify, if_pos mismatch]
      rfl
    · rw [if_neg (mt (mismatch_iff _ _).mp mismatch)]
      unfold State.toLookup
      rw [State.modEngine_regs]
      cases enable : s.regs.enable with
      | true =>
        have open_ : s.regs.shelfFixed = false := by
          obtain open_ | off | kind | serial := uncached
          · exact open_
          · exact absurd (enable.symm.trans off) (by decide)
          · exact absurd kind identify
          · exact absurd serial mismatch
        rw [if_pos rfl, beginLookup_scan (s := s.modEngine e _) open_, modEngine_modEngine]
        refine modEngine_congr ?_
        unfold Engine.answered
        rw [if_neg identify, if_neg mismatch, if_pos rfl]
      | false =>
        rw [if_neg (by decide), State.setPhase, modEngine_modEngine]
        refine modEngine_congr ?_
        unfold Engine.answered
        rw [if_neg identify, if_neg mismatch, if_neg (by decide)]

/-- The engine as the tail's end has counted its attempt. -/
def Engine.tailEnded (g : Engine) : Engine := { g with frameAttempts := g.frameAttempts + 1, frame := Frame.reset }

theorem endTail_good (undisturbed : (s.engine e).frame.disturbed = false)
    (decision : (s.engine e).frame.decision = some .good) : s.endTail e =
      ((s.modEngine e Engine.tailEnded).setWatch e none).goodFrame e (bytesFromBits 14 (s.engine e).frame.answer) := by
  have outcome : (s.engine e).frame.outcome = .good := by
    unfold Frame.outcome
    rw [undisturbed, decision]
    rfl
  unfold State.endTail
  dsimp only
  rw [outcome]
  rfl

theorem endTail_failed {cause : FrameCause}
    (failed : (s.engine e).frame.disturbed = true ∧ cause = .disturbed ∨
      (s.engine e).frame.disturbed = false ∧ (s.engine e).frame.decision = some (.failed cause)) : s.endTail e =
      ((s.modEngine e Engine.tailEnded).setWatch e none).failedFrame e cause := by
  have outcome : (s.engine e).frame.outcome = .failed cause := by
    unfold Frame.outcome
    obtain ⟨disturbed, rfl⟩ | ⟨undisturbed, decision⟩ := failed
    · rw [disturbed]
      rfl
    · rw [undisturbed, decision]
      rfl
  unfold State.endTail
  dsimp only
  rw [outcome]
  rfl

theorem or_noFlag (flags : Half) : flags ||| (0 : Half) = flags := BitVec.or_zero

/-- The engine as a failed attempt leaves it, before the next attempt or UNREADABLE. -/
def Engine.attemptFailed (g : Engine) (cause : FrameCause) : Engine :=
  { g with flags := g.flags ||| (if cause = .disturbed then 0x0010 else 0), lastFailure := some cause }

theorem failedFrame_eq (cause : FrameCause) : s.failedFrame e cause =
    if (s.engine e).frameAttempts < 3 then (s.modEngine e (Engine.attemptFailed · cause)).toGating e .frame
    else (s.modEngine e fun g => { g.attemptFailed cause with
      flags := (g.attemptFailed cause).flags ||| cause.flag
      figures := { g.figures with verdict := .unreadable }
      phase := if s.regs.enable then .writing .result else .held .writing }) := by
  have first : (s.modEngine e fun g =>
      { (if cause = .disturbed then g.addFlag flagDisturbed else g) with lastFailure := some cause }) =
      s.modEngine e (Engine.attemptFailed · cause) := by
    refine modEngine_congr ?_
    unfold Engine.attemptFailed
    split_ifs
    · rfl
    · rw [or_noFlag]
  unfold State.failedFrame
  dsimp only
  rw [first]
  by_cases early : (s.engine e).frameAttempts < 3
  · rw [if_pos early, if_pos early]
  · rw [if_neg early, if_neg early, toWriting_eq, State.setVerdict, State.addFlag, modEngine_modEngine, modEngine_modEngine, modEngine_modEngine]
    exact modEngine_congr rfl

end

/-- Settles O49: a GOOD outcome by kind and serial, a failed one by the number of attempts. -/
theorem tailEndJudgesTheAttempt : Obligations.TailEndJudgesTheAttempt := by
  unfold Obligations.TailEndJudgesTheAttempt
  refine ⟨fun s e echo running reading tail undisturbed decision => ?_,
    fun s e echo cause running reading tail failed => ?_⟩
  · intro g record mismatch writing uncached
    have done := exec_tailEnd running reading tail echo
    let u := ((s.sampleEcho echo).modEngine e Engine.tailEnded).setWatch e none
    have counted : u.engine e = g.tailEnded := State.engine_modEngine_self (s.sampleEcho echo) e _
    have final : exec (.tailEnd e echo) s = .next (u.modEngine e fun g => g.answered record s.regs.enable) := by
      rw [done, endTail_good (s := s.sampleEcho echo) undisturbed decision]
      refine congrArg _ (goodFrame_eq (s := u) ?_)
      rw [counted]
      exact uncached
    have own : (u.modEngine e fun g => g.answered record s.regs.enable).engine e =
        g.tailEnded.answered record s.regs.enable := by rw [State.engine_modEngine_self, counted]
    have onEngine : OnEngine e (s.sampleEcho echo) (u.modEngine e fun g => g.answered record s.regs.enable) :=
      modEngine_onEngine (setWatch_onEngine (modEngine_onEngine (.refl e _) _) _) _
    have watch : u.watch e = none := by rw [State.watch_setWatch, if_pos rfl]
    refine ⟨_, final, watch, rfl, fun e' apart => ?_, ?_⟩
    · obtain ⟨engine, _, watch⟩ := onEngine.other e' apart
      exact ⟨engine, watch⟩
    · rw [own]
      unfold Engine.answered
      by_cases identify : g.header.kind = 0x01
      · rw [if_pos (show g.tailEnded.header.kind = 0x01 from identify)]
        exact ⟨rfl, fun _ => ⟨rfl, rfl, rfl⟩, fun other => absurd identify other, fun other => absurd identify other⟩
      · rw [if_neg (show ¬g.tailEnded.header.kind = 0x01 from identify)]
        by_cases serial : mismatch
        · rw [if_pos (show g.tailEnded.header.flags.getLsbD 2 = true ∧ longIn record 4 ≠ g.tailEnded.header.serial from serial)]
          exact ⟨rfl, fun same => absurd same identify, fun _ _ => ⟨rfl, rfl, rfl⟩, fun _ good => absurd serial good⟩
        · rw [if_neg (show ¬(g.tailEnded.header.flags.getLsbD 2 = true ∧ longIn record 4 ≠ g.tailEnded.header.serial) from
            serial)]
          refine ⟨?_, fun same => absurd same identify, fun _ bad => absurd bad serial, fun _ _ => ⟨?_, fun on => ?_, fun off => ?_⟩⟩
          · cases s.regs.enable <;> rfl
          · cases s.regs.enable <;> rfl
          · rw [on, if_pos rfl]
            exact ⟨rfl, rfl⟩
          · rw [off, if_neg (by decide)]
            exact ⟨rfl, rfl⟩
  · intro g flag counted
    have done := exec_tailEnd running reading tail echo
    rw [endTail_failed (s := s.sampleEcho echo) failed] at done
    let u := ((s.sampleEcho echo).modEngine e Engine.tailEnded).setWatch e none
    have own : Own u e g.tailEnded (s.question e) none := ((Own.of (s.sampleEcho echo) e).mod Engine.tailEnded).setWatch none
    have before : OnEngine e (s.sampleEcho echo) u := setWatch_onEngine (modEngine_onEngine (.refl e _) _) _
    have onEngine := failedFrame_onEngine before cause
    have flags : cause.flag = flag := by cases cause <;> rfl
    refine ⟨_, done, onEngine.other, onEngine.rest, fun third => ?_, fun early off => ?_, fun early on noStop j snap p job snapshot => ?_⟩
    · have late : ¬(u.engine e).frameAttempts < 3 := by
        rw [own.engine]
        change ¬g.frameAttempts + 1 < 3
        omega
      have result := own.mod fun g => { g.attemptFailed cause with
        flags := (g.attemptFailed cause).flags ||| cause.flag
        figures := { g.figures with verdict := .unreadable }
        phase := if s.regs.enable then .writing .result else .held .writing }
      rw [show u.failedFrame e cause = _ from (failedFrame_eq cause).trans (if_neg late)]
      refine ⟨result.watch, result.question, result.engine.trans ?_⟩
      rw [flags]
      rfl
    · have again : (u.engine e).frameAttempts < 3 := by
        rw [own.engine]
        change g.frameAttempts + 1 < 3
        omega
      have result := (own.mod (Engine.attemptFailed · cause)).mod fun g => { g with phase := .held (.gating .frame) }
      rw [show u.failedFrame e cause = _ from ((failedFrame_eq cause).trans (if_pos again)).trans
        (toGating_held (s := u.modEngine e (Engine.attemptFailed · cause)) off .frame)]
      refine ⟨result.watch, result.question, result.engine.trans ?_⟩
      simp only [counted, or_noFlag]
      rfl
    · have again : (u.engine e).frameAttempts < 3 := by
        rw [own.engine]
        change g.frameAttempts + 1 < 3
        omega
      have result := own.mod (Engine.attemptFailed · cause)
      have asked := askQuestion_asked (s := u.modEngine e (Engine.attemptFailed · cause)) snapshot
        ((congrArg Engine.job result.engine).trans job) ((congrArg Engine.stopAtHoldBegin result.engine).trans noStop) .frame p
        nofun
      rw [show u.failedFrame e cause = _ from ((failedFrame_eq cause).trans (if_pos again)).trans
        (toGating_enabled (s := u.modEngine e (Engine.attemptFailed · cause)) on .frame)]
      rw [result.engine, result.watch] at asked
      generalize State.askQuestion _ e .frame = t at asked ⊢
      have final := asked.from (.gating .frame)
      simp only [counted, or_noFlag]
      exact final

end Sys2Proof.Machine
end

section
/-! Stops that reach an engine, and the overload of its driver (05 R99 to R102, 06 R121). -/

namespace Sys2Proof.Machine

section
variable {s : State} {e : EngineId} {stop : Stop}

/-! ## Stops (05 Table 5-4) -/

theorem exec_stopEvent (running : s.inReset = false) (sent : stop ∈ (s.engine e).stops) :
    exec (.stopEvent e stop) s = .next (s.stopReaches e stop) := by
  change execStopEvent e stop s = _
  simp [execStopEvent, State.whenever, running, sent]

theorem takeStop_dropped (phase : ¬((s.engine e).phase ≠ .idle ∧ ∀ act, (s.engine e).phase ≠ .writing act)) :
    s.takeStop e stop = s := by
  unfold State.takeStop
  dsimp only
  split
  · rfl
  · rfl
  · rename_i noIdle noWriting
    exact absurd ⟨noIdle, noWriting⟩ phase

theorem takeStop_taken (phase : (s.engine e).phase ≠ .idle ∧ ∀ act, (s.engine e).phase ≠ .writing act) :
    s.takeStop e stop =
      if ((s.engine e).stopOutcome.isSome && !isFaultStop stop) = true then s
      else if ((s.engine e).outputHigh && !isFaultStop stop) = true then
        s.modEngine e fun g => { g.fixOutcome (outcomeOf stop) with stopAtHoldBegin := false }
      else (s.modEngine e fun g => { g.fixOutcome (outcomeOf stop) with stopAtHoldBegin := false }).stopNow e := by
  obtain ⟨noIdle, noWriting⟩ := phase
  unfold State.takeStop
  dsimp only
  split
  · exact absurd ‹_› noIdle
  · exact absurd ‹_› (noWriting _)
  · rfl

theorem stopReaches_meant (meant : (s.engine e).holdsTarget stop = true) :
    s.stopReaches e stop = (s.modEngine e fun g => { g with stops := g.stops.erase stop }).takeStop e stop := if_pos meant

theorem stopReaches_other (other : ¬(s.engine e).holdsTarget stop = true) :
    s.stopReaches e stop = s.modEngine e fun g => { g with stops := g.stops.erase stop } := if_neg other

theorem isFaultStop_iff (stop : Stop) : isFaultStop stop = true ↔ ∃ n, stop = .lineFault n := by
  cases stop <;> simp [isFaultStop]

/-! ## Overload (06 R121) -/

theorem driver_none {n : StationId} (low : ∀ e, s.point e = some n → (s.engine e).outputHigh = false) :
    s.driver n = none := by
  unfold State.driver
  rw [List.find?_eq_none]
  intro e _ high
  rw [Bool.and_eq_true, decide_eq_true_eq] at high
  obtain ⟨point, high⟩ := high
  rw [low e point] at high
  exact Bool.noConfusion high

theorem driver_only {n : StationId} (point : s.point e = some n) (high : (s.engine e).outputHigh = true)
    (only : ∀ e', e' ≠ e → s.point e' ≠ some n) : s.driver n = some e := by
  cases found : s.driver n with
  | none =>
    unfold State.driver at found
    have none := List.find?_eq_none.mp found e (mem_allEngines e)
    simp [point, high] at none
  | some e' =>
    have driving := List.find?_some found
    rw [Bool.and_eq_true, decide_eq_true_eq] at driving
    by_cases same : e' = e
    · rw [same]
    · exact absurd driving.1 (only e' same)

theorem exec_stimOverload_none {n : StationId}
    (rest : s.overloadHold.getLsbD n.val = true ∨ ∀ e, s.point e = some n → (s.engine e).outputHigh = false) :
    exec (.stimOverload n) s = .next s := by
  change execStimOverload n s = _
  unfold execStimOverload
  obtain held | low := rest
  · split
    · simp only [State.whenever, State.stim, held, Bool.not_true, Bool.and_false]
      simp
    · rfl
  · rw [driver_none low]

theorem exec_stimOverload {n : StationId} (running : s.inReset = false) (free : s.overloadHold.getLsbD n.val = false)
    (driver : s.driver n = some e) :
    exec (.stimOverload n) s = .next (((s.tripDriver n).faultStop e .stimOverload).releaseDriver n) := by
  change execStimOverload n s = _
  unfold execStimOverload
  rw [driver]
  have tripped : s.stim n = true := by
    unfold State.stim
    rw [running, driver, free]
    rfl
  dsimp only
  unfold State.whenever
  rw [running, tripped, if_neg (by decide), if_pos rfl]

/-- The driver's hold that an overload sets and the engine's stop ends again. -/
theorem hold_set_and_cleared {hold : Levels} {n : StationId} (free : hold.getLsbD n.val = false) :
    (hold ||| ((1 <<< n.val : Nat) : Levels)) &&& ~~~((1 <<< n.val : Nat) : Levels) = hold := by
  rw [lineBit]
  refine BitVec.eq_of_getLsbD_eq fun i inside => ?_
  by_cases same : i = n.val
  · subst same
    rw [BitVec.getLsbD_and, BitVec.getLsbD_or, BitVec.getLsbD_not, free]
    simp
  · rw [BitVec.getLsbD_and, BitVec.getLsbD_or, BitVec.getLsbD_not]
    have other : ((1 : Levels) <<< n.val).getLsbD i = false := by
      rw [show (1 : Levels) = 1#12 from rfl, BitVec.getLsbD_shiftLeft, BitVec.getLsbD_one]
      simp
      omega
    rw [other]
    simp [inside]

/-- The states of an overload: tripped, stopped by its fault, released. -/
theorem overload_left {n : StationId} (free : s.overloadHold.getLsbD n.val = false)
    (only : ∀ e', e' ≠ e → s.point e' ≠ some n) :
    let t := ((s.tripDriver n).faultStop e .stimOverload).releaseDriver n
    s.engineLeft t e ((s.engine e).faulted .stimOverload) ∧ t.stim n = false ∧ t.refStim e = false := by
  have onEngine := faultStop_onEngine (.refl e (s.tripDriver n)) .stimOverload
  have own := (Own.of (s.tripDriver n) e).faultStop .stimOverload
  generalize (s.tripDriver n).faultStop e .stimOverload = v at onEngine own ⊢
  have low : (v.engine e).outputHigh = false := by
    rw [own.engine]
    simp [Engine.outputHigh, Engine.faulted, Engine.stoppedNow]
  have points : ∀ e', v.point e' = s.point e' := fun e' => by rw [onEngine.rest]; rfl
  have idle : v.driver n = none := driver_none fun e' at_ => by
    by_cases same : e' = e
    · rw [same, low]
    · exact absurd ((points e').symm.trans at_) (only e' same)
  have hold : v.overloadHold &&& ~~~((1 <<< n.val : Nat) : Levels) = s.overloadHold := by
    rw [onEngine.rest]
    exact hold_set_and_cleared free
  have released : v.releaseDriver n = { v with overloadHold := s.overloadHold } := by
    unfold State.releaseDriver
    dsimp only
    rw [idle, hold]
    rfl
  dsimp only
  rw [released]
  refine ⟨⟨?_, own.engine, own.question, own.watch, onEngine.other⟩, ?_, ?_⟩
  · have frame := onEngine.rest
    unfold Within at frame
    rw [frame]
    rfl
  · unfold State.stim
    rw [show State.driver { v with overloadHold := s.overloadHold } n = none from idle]
    simp
  · unfold State.refStim
    rw [show State.engine { v with overloadHold := s.overloadHold } e = v.engine e from rfl, low, Bool.and_false]

end

/-- Settles O51: Table 5-4 by the state the stop finds; an overload trips the driver, and its engine's stop releases it. -/
theorem stopsAndOverloads : Obligations.StopsAndOverloads := by
  unfold Obligations.StopsAndOverloads
  refine ⟨fun s e stop j running sent job => ?_, fun s n running => ⟨fun rest => exec_stimOverload_none rest,
    fun e free point high only => ⟨_, exec_stimOverload running free (driver_only point high only),
      overload_left free only⟩⟩⟩
  intro g meant outcome fault takes
  have target : (s.engine e).holdsTarget stop = true ↔ meant := by
    unfold Engine.holdsTarget
    rw [job]
    cases stop <;> exact decide_eq_true_iff
  have outcome_eq : outcomeOf stop = outcome := by cases stop <;> rfl
  have fault_iff : isFaultStop stop = true ↔ fault := isFaultStop_iff stop
  let u := s.modEngine e fun g => { g with stops := g.stops.erase stop }
  have erased : u = s.modEngine e fun _ => g := modEngine_congr rfl
  have own : u.engine e = g := State.engine_modEngine_self s e _
  have onEngine : OnEngine e s u := modEngine_onEngine (.refl e s) _
  have stopped : ∀ g', s.engineLeft ((u.modEngine e fun _ => g').stopNow e) e g'.stoppedNow := fun g' =>
    (stopNow_onEngine (modEngine_onEngine onEngine _)).engineLeft ((Own.of u e).mod fun _ => g').stopNow
  refine ⟨_, exec_stopEvent running sent, ?_⟩
  by_cases taken : takes
  · obtain ⟨isMeant, phase⟩ := taken
    rw [stopReaches_meant (target.mpr isMeant)]
    have cases_ := takeStop_taken (s := u) (e := e) (stop := stop) (by rw [own]; exact phase)
    have fixed : (u.modEngine e fun g => { g.fixOutcome (outcomeOf stop) with stopAtHoldBegin := false }) =
        u.modEngine e fun _ => { g.fixOutcome outcome with stopAtHoldBegin := false } :=
      modEngine_congr (by rw [own, outcome_eq])
    rw [own, fixed] at cases_
    have left : u.takeStop e stop = _ := cases_
    change (_ → u.takeStop e stop = _) ∧ (_ → _ → _ → _ → u.takeStop e stop = _) ∧
      (_ → _ → _ → _ → s.engineLeft (u.takeStop e stop) e _) ∧ (_ → _ → s.engineLeft (u.takeStop e stop) e _)
    rw [left]
    refine ⟨fun dropped => ?_, fun _ free high noFault => ?_, fun _ free low noFault => ?_, fun _ isFault => ?_⟩
    · obtain other | ⟨set, noFault⟩ := dropped
      · exact absurd ⟨isMeant, phase⟩ other
      · rw [if_pos, erased]
        rw [Option.isSome_iff_ne_none.mpr set, Bool.eq_false_iff.mpr (mt fault_iff.mp noFault)]
        rfl
    · rw [free, high, Bool.eq_false_iff.mpr (mt fault_iff.mp noFault), if_neg (by decide), if_pos (by decide), erased,
        modEngine_modEngine]
      refine modEngine_congr ?_
      dsimp only [Engine.fixOutcome]
      rw [free]
      rfl
    · rw [free, low, if_neg (by simp), if_neg (by simp)]
      refine cast (congrArg (s.engineLeft _ e) ?_) (stopped _)
      dsimp only [Engine.fixOutcome]
      rw [free]
      rfl
    · rw [fault_iff.mpr isFault, if_neg (by simp), if_neg (by simp)]
      exact stopped _
  · have same : s.stopReaches e stop = s.modEngine e fun _ => g := by
      by_cases isMeant : meant
      · rw [stopReaches_meant (target.mpr isMeant)]
        refine (takeStop_dropped (s := u) ?_).trans erased
        rw [own]
        exact fun phase => taken ⟨isMeant, phase⟩
      · exact (stopReaches_other (mt target.mp isMeant)).trans erased
    exact ⟨fun _ => same, fun yes => absurd yes taken, fun yes => absurd yes taken, fun yes => absurd yes taken⟩

end Sys2Proof.Machine
end

section
/-! The lookup of a profile: the judged fields, the bursts of the scan, the cache (08 R144 to R154, 05 R92, 09 R172). -/

namespace Sys2Proof.Machine

/-! ## Ranges of a profile (08 R146) -/

theorem ascending_iff (l : List Half) : ascending l = true ↔
    ∀ (i : Nat) (a b : Half), l[i]? = some a → l[i + 1]? = some b → a.toNat < b.toNat := by
  match l with
  | [] => simp [ascending]
  | [a] => simp [ascending]
  | a :: b :: rest =>
    unfold ascending
    rw [Bool.and_eq_true, decide_eq_true_eq, ascending_iff (b :: rest)]
    refine ⟨fun ⟨first, later⟩ i x y here next => ?_, fun all => ⟨all 0 a b rfl rfl, fun i x y here next => ?_⟩⟩
    · cases i with
      | zero => simp_all
      | succ i => exact later i x y here next
    · exact all (i + 1) x y here next

theorem enrolled_eq (p : Profile) (i : Nat) (d : Half) :
    p.enrolled[i]? = some d ↔ i < p.n.toNat ∧ p.delays[i]? = some d := by
  unfold Profile.enrolled
  rw [List.getElem?_take]
  split_ifs with inside
  · exact ⟨fun at_ => ⟨inside, at_⟩, fun ⟨_, at_⟩ => at_⟩
  · exact ⟨nofun, fun ⟨small, _⟩ => absurd small inside⟩

theorem enrolled_all (p : Profile) : (∀ d ∈ p.enrolled, 1 ≤ d.toNat) ↔
    ∀ (i : Nat) (d : Half), i < p.n.toNat → p.delays[i]? = some d → 1 ≤ d.toNat := by
  refine ⟨fun all i d inside at_ => all d (List.mem_of_getElem? ((enrolled_eq p i d).mpr ⟨inside, at_⟩)), fun all d mem => ?_⟩
  obtain ⟨i, at_⟩ := List.mem_iff_getElem?.mp mem
  obtain ⟨inside, at_⟩ := (enrolled_eq p i d).mp at_
  exact all i d inside at_

theorem enrolled_ascending (p : Profile) : ascending p.enrolled = true ↔
    ∀ (i : Nat) (a b : Half), i + 1 < p.n.toNat → p.delays[i]? = some a → p.delays[i + 1]? = some b → a.toNat < b.toNat := by
  rw [ascending_iff]
  simp only [enrolled_eq]
  exact ⟨fun all i a b inside here next => all i a b ⟨by omega, here⟩ ⟨inside, next⟩,
    fun all i a b ⟨_, here⟩ ⟨inside, next⟩ => all i a b inside here next⟩

theorem inRange_iff (p : Profile) : p.inRange = true ↔
    (1 ≤ p.n.toNat ∧ p.n.toNat ≤ 8) ∧ (1 ≤ p.minValid.toNat ∧ p.minValid.toNat ≤ 16) ∧
    (1 ≤ p.defaultRounds.toNat ∧ p.defaultRounds.toNat ≤ 16 ∧ p.minValid.toNat ≤ p.defaultRounds.toNat) ∧
    1 ≤ p.width.toNat ∧ 16 ≤ p.window.toNat ∧ (-40 ≤ p.t0.toInt ∧ p.t0.toInt ≤ 300) ∧
    (-2000 ≤ p.alpha.toInt ∧ p.alpha.toInt ≤ 2000) ∧ (100 ≤ p.tolPpm.toNat ∧ p.tolPpm.toNat ≤ 200000) ∧
    1 ≤ p.tolMin.toNat ∧ p.accept.toNat ≤ 256 ∧ (257 ≤ p.reject.toNat ∧ p.reject.toNat ≤ 4095) ∧
    p.dateFrom.toNat ≤ p.dateTo.toNat ∧
    (∀ (i : Nat) (d : Half), i < p.n.toNat → p.delays[i]? = some d → 1 ≤ d.toNat) ∧
    ∀ (i : Nat) (a b : Half), i + 1 < p.n.toNat → p.delays[i]? = some a → p.delays[i + 1]? = some b → a.toNat < b.toNat := by
  rw [← enrolled_all, ← enrolled_ascending]
  unfold Profile.inRange
  simp only [Bool.and_eq_true, decide_eq_true_eq, List.all_eq_true, and_assoc]

theorem isCandidate_iff (p : Profile) (tag : List Byte) : p.isCandidate tag = true ↔
    p.valid ≠ 0 ∧ p.type = tagType tag ∧ p.variant = tagVariant tag := by
  unfold Profile.isCandidate
  simp only [Bool.and_eq_true, decide_eq_true_eq, and_assoc]

theorem dateInside_iff (p : Profile) (date : Half) :
    p.dateInside date = true ↔ p.dateFrom.toNat ≤ date.toNat ∧ date.toNat ≤ p.dateTo.toNat := decide_eq_true_iff

section
variable {s t : State} {e : EngineId}

/-! ## The ends of a lookup (08 Table 8-2, 05 R92, 09 R172) -/

/-- The step after a lookup that fails. -/
def writingIf (enable : Bool) : Phase := if enable then .writing .result else .held .writing

theorem lookupUnlisted_eq : s.lookupUnlisted e = s.modEngine e fun g => { g with
    phase := writingIf s.regs.enable, lookup := Lookup.reset, figures := { g.figures with verdict := .unlisted } } := by
  unfold State.lookupUnlisted
  rw [toWriting_eq, State.setVerdict, modEngine_modEngine, modEngine_modEngine]
  rfl

theorem lookupFailed_eq (i : ShelfId) (err : ErrorCode) : s.lookupFailed e i err = s.modEngine e fun g => { g with
    phase := writingIf s.regs.enable, lookup := Lookup.reset, profileIndex := some i
    figures := { g.figures with error := err } } := by
  unfold State.lookupFailed
  rw [toWriting_eq, modEngine_modEngine]
  rfl

/-- The engine that has found its profile inside the date range. -/
def Engine.found (g : Engine) (i : ShelfId) (p : Profile) : Engine := { g with
  lookup := Lookup.reset, profile := some p, profileIndex := some i
  target := some (if g.header.rounds = 0 then p.defaultRounds.toNat else min g.header.rounds.toNat 16) }

theorem lookupFound_outside {i : ShelfId} {p : Profile} (outside : ¬p.dateInside (tagDate (s.engine e).tag) = true) :
    s.lookupFound e i p = s.modEngine e fun g => { g with
      phase := writingIf s.regs.enable, lookup := Lookup.reset, profile := some p, profileIndex := some i
      flags := g.flags ||| 0x2000, figures := { g.figures with verdict := .counterfeit } } := by
  unfold State.lookupFound
  dsimp only
  rw [if_neg outside, toWriting_eq, State.setVerdict, State.addFlag, modEngine_modEngine, modEngine_modEngine,
    modEngine_modEngine]
  rfl

theorem lookupFound_inside {i : ShelfId} {p : Profile} (inside : p.dateInside (tagDate (s.engine e).tag) = true) :
    s.lookupFound e i p = (s.modEngine e (Engine.found · i p)).toGating e .round := by
  unfold State.lookupFound
  dsimp only
  rw [if_pos inside, modEngine_modEngine]
  rfl

/-- A found profile inside its date range asks the first round's question. -/
theorem lookupFound_asked {i : ShelfId} {p : Profile} {snap : Snapshot} {j : Job}
    (inside : p.dateInside (tagDate (s.engine e).tag) = true) (on : s.regs.enable = true)
    (snapshot : s.regs.snapshot = some snap) (job : (s.engine e).job = some j)
    (noStop : (s.engine e).stopAtHoldBegin = false) :
    (s.lookupFound e i p).asked e ((s.engine e).found i p) .round j.station (s.station j.station).setup
      { timer := 0, suspended := false } snap p s.pins.echo (s.watch e) := by
  have own := (Own.of s e).mod (Engine.found · i p)
  have asked := askQuestion_asked (s := s.modEngine e (Engine.found · i p)) snapshot
    ((congrArg Engine.job own.engine).trans job) ((congrArg Engine.stopAtHoldBegin own.engine).trans noStop) .round p
    fun _ => congrArg Engine.profile own.engine
  rw [lookupFound_inside inside, toGating_enabled (s := s.modEngine e (Engine.found · i p)) on]
  rw [own.engine] at asked
  exact asked

/-! ## The bursts (08 R146 to R149) -/

/-- The engine after a burst that does not end inside the date range. -/
def Engine.shelfJudged (g : Engine) (record : List Byte) (fixed taking enable : Bool) : Engine :=
  let p := profileOf record
  let read := { g.lookup with buffer := record, crc := crcOf (record.take 62) }
  if p.isCandidate g.tag = false then
    if g.lookup.index = 63 then { g with
      phase := writingIf enable, lookup := Lookup.reset, figures := { g.figures with verdict := .unlisted } }
    else { g with lookup := { read with index := g.lookup.index + 1, reread := .none } }
  else if crcOf (record.take 62) ≠ halfIn record 62 then
    if (fixed && g.lookup.fixedThroughout) = true ∨ g.lookup.mark = true then { g with
      phase := writingIf enable, lookup := Lookup.reset, profileIndex := some g.lookup.index
      figures := { g.figures with error := .profileDamaged } }
    else { g with lookup := { read with mark := true, reread := if taking then .waiting else .due } }
  else if p.inRange = false then { g with
    phase := writingIf enable, lookup := Lookup.reset, profileIndex := some g.lookup.index
    figures := { g.figures with error := .profileInvalid } }
  else { g with
    phase := writingIf enable, lookup := Lookup.reset, profile := some p, profileIndex := some g.lookup.index
    flags := g.flags ||| 0x2000, figures := { g.figures with verdict := .counterfeit } }

/-- The engine with a shelf record in its buffer. -/
def Engine.bursting (g : Engine) (record : List Byte) : Engine :=
  { g with lookup := { g.lookup with buffer := record, crc := crcOf (record.take 62) } }

theorem readShelf_judged {record : List Byte} (read : record = s.bytes (shelfBase (s.engine e).lookup.index) 64)
    (ends : ¬((profileOf record).isCandidate (s.engine e).tag = true ∧ crcOf (record.take 62) = halfIn record 62 ∧
      (profileOf record).inRange = true)) : s.readShelf e =
      s.modEngine e fun g => g.shelfJudged record s.regs.shelfFixed s.port.taking s.regs.enable := by
  unfold State.readShelf
  dsimp only
  rw [← read]
  let u := s.modEngine e (Engine.bursting · record)
  have own : u.engine e = (s.engine e).bursting record := State.engine_modEngine_self s e _
  cases candidate : (profileOf record).isCandidate (s.engine e).tag with
  | false =>
    rw [Bool.not_false, if_pos rfl]
    change u.passOver e = _
    unfold State.passOver
    dsimp only
    rw [own]
    by_cases last : (s.engine e).lookup.index = 63
    · rw [if_pos (show ((s.engine e).bursting record).lookup.index = 63 from last), lookupUnlisted_eq, modEngine_modEngine]
      refine modEngine_congr ?_
      unfold Engine.shelfJudged
      dsimp only
      rw [if_pos candidate, if_pos last]
      rfl
    · rw [if_neg (show ¬((s.engine e).bursting record).lookup.index = 63 from last), modEngine_modEngine]
      refine modEngine_congr ?_
      unfold Engine.shelfJudged
      dsimp only
      rw [if_pos candidate, if_neg last]
      rfl
  | true =>
    have listed : ¬(profileOf record).isCandidate (s.engine e).tag = false := by rw [candidate]; decide
    rw [Bool.not_true, if_neg (by decide)]
    by_cases damaged : crcOf (record.take 62) ≠ halfIn record 62
    · rw [if_pos (show crcOf (record.take 62) ≠ profileCrc record from damaged)]
      change u.damagedCandidate e = _
      unfold State.damagedCandidate
      dsimp only
      rw [own]
      have test : (u.regs.shelfFixed && ((s.engine e).bursting record).lookup.fixedThroughout ||
          ((s.engine e).bursting record).lookup.mark) = true ↔
          ((s.regs.shelfFixed && (s.engine e).lookup.fixedThroughout) = true ∨ (s.engine e).lookup.mark = true) :=
        Bool.or_eq_true_iff
      by_cases final : (s.regs.shelfFixed && (s.engine e).lookup.fixedThroughout) = true ∨ (s.engine e).lookup.mark = true
      · rw [if_pos (test.mpr final), lookupFailed_eq, modEngine_modEngine]
        refine modEngine_congr ?_
        unfold Engine.shelfJudged
        dsimp only
        rw [if_neg listed, if_pos damaged, if_pos final]
        rfl
      · rw [if_neg (mt test.mp final), modEngine_modEngine]
        refine modEngine_congr ?_
        unfold Engine.shelfJudged
        dsimp only
        rw [if_neg listed, if_pos damaged, if_neg final]
        rfl
    · rw [if_neg (show ¬crcOf (record.take 62) ≠ profileCrc record from damaged)]
      have invalid : (profileOf record).inRange = false := by
        rw [Bool.eq_false_iff]
        exact fun inRange => ends ⟨candidate, not_not.mp damaged, inRange⟩
      rw [invalid, Bool.not_false, if_pos rfl, lookupFailed_eq, modEngine_modEngine]
      refine modEngine_congr ?_
      unfold Engine.shelfJudged
      dsimp only
      rw [if_neg listed, if_neg damaged, if_pos invalid]
      rfl

/-- What a good record is offered to: the cache on a shelf fixed throughout (08 R154). -/
def State.offered (s : State) (e : EngineId) (record : List Byte) : Cache :=
  if s.regs.shelfFixed = true ∧ (s.engine e).lookup.fixedThroughout = true then
    s.cache.offer { index := (s.engine e).lookup.index, type := (profileOf record).type
                    variant := (profileOf record).variant, copy := record }
  else s.cache

theorem readShelf_good {record : List Byte} (read : record = s.bytes (shelfBase (s.engine e).lookup.index) 64)
    (candidate : (profileOf record).isCandidate (s.engine e).tag = true) (agrees : crcOf (record.take 62) = halfIn record 62)
    (inRange : (profileOf record).inRange = true) : s.readShelf e =
      ((s.modEngine e (Engine.bursting · record)).setCache (s.offered e record)).lookupFound e (s.engine e).lookup.index (profileOf record) := by
  unfold State.readShelf
  dsimp only
  rw [← read, candidate, inRange, if_neg (by decide), 
    if_neg (show ¬crcOf (record.take 62) ≠ profileCrc record from not_not.mpr agrees), if_neg (by decide)]
  refine congrArg (State.lookupFound · e _ _) ?_
  unfold State.offerRecord State.offered
  dsimp only
  rw [State.engine_modEngine_self]
  by_cases fixed : s.regs.shelfFixed = true ∧ (s.engine e).lookup.fixedThroughout = true
  · rw [if_pos fixed, if_pos (by rw [Bool.and_eq_true]; exact fixed)]
    rfl
  · rw [if_neg fixed, if_neg (by rw [Bool.and_eq_true]; exact fixed)]
    rfl

end

section
variable {s : State} {e : EngineId}

theorem exec_burst {echo : Levels} {c : Instr} (running : s.inReset = false)
    (computing : (s.engine e).phase = .computing .lookup)
    (burst : c = .shelfRead e echo ∧ (s.engine e).lookup.reread = .none ∨
      c = .profileReread e echo ∧ (s.engine e).lookup.reread = .due) :
    exec c s = .next ((s.sampleEcho echo).readShelf e) := by
  obtain ⟨rfl, fresh⟩ | ⟨rfl, due⟩ := burst
  · change execShelfRead e echo s = _
    simp [execShelfRead, State.whenever, State.lookupAt, running, computing, fresh]
  · change execProfileReread e echo s = _
    simp [execProfileReread, State.whenever, State.lookupAt, running, computing, due]

theorem exec_reread_waiting (waiting : (s.engine e).lookup.reread = .waiting) (echo : Levels) :
    exec (.profileReread e echo) s = .next s := by
  change execProfileReread e echo s = _
  simp [execProfileReread, State.whenever, State.lookupAt, waiting]

end

/-- Settles O52: readShelf_judged says the ends without a good record, lookupFound_outside and lookupFound_asked the ends
with one. -/
theorem shelfBurstJudgesTheRecord : Obligations.ShelfBurstJudgesTheRecord := by
  unfold Obligations.ShelfBurstJudgesTheRecord
  refine ⟨inRange_iff, fun s e echo waiting => exec_reread_waiting waiting echo,
    fun s e echo c j snap running computing burst job snapshot noStop => ?_⟩
  intro g i record p tag candidate agrees fixed inside writing read asks
  have candidate_iff : p.isCandidate g.tag = true ↔ candidate := isCandidate_iff p tag
  have inside_iff : p.dateInside (tagDate g.tag) = true ↔ inside := dateInside_iff p (tagDate tag)
  have onEngine := readShelf_onEngine e (s.sampleEcho echo)
  refine ⟨_, exec_burst running computing burst, onEngine.rest, onEngine.other, ?_⟩
  by_cases good : p.isCandidate g.tag = true ∧ crcOf (record.take 62) = halfIn record 62 ∧ p.inRange = true
  · obtain ⟨listed, sound, ranged⟩ := good
    have isCandidate := candidate_iff.mp listed
    have cache : (s.sampleEcho echo).offered e record = if candidate ∧ agrees ∧ p.inRange = true ∧ fixed then
        s.cache.offer { index := i, type := p.type, variant := p.variant, copy := record } else s.cache := by
      by_cases fix : fixed
      · rw [if_pos (c := candidate ∧ _) ⟨isCandidate, sound, ranged, fix⟩]
        exact if_pos fix
      · rw [if_neg (c := candidate ∧ _) fun all => fix all.2.2.2]
        exact if_neg fix
    let u := ((s.sampleEcho echo).modEngine e (Engine.bursting · record)).setCache ((s.sampleEcho echo).offered e record)
    have own : u.engine e = g.bursting record :=
      State.engine_modEngine_self (s.sampleEcho echo) e (Engine.bursting · record)
    have shelf : (s.sampleEcho echo).readShelf e = u.lookupFound e i p :=
      readShelf_good (s := s.sampleEcho echo) rfl listed sound ranged
    have found := lookupFound_onEngine (.refl e u) i p
    have ground := found.rest.ground (s.station j.station).setup snap
    have date : p.dateInside (tagDate (u.engine e).tag) = true ↔ inside := by
      rw [own]
      exact inside_iff
    rw [shelf]
    refine ⟨found.rest.cache.trans cache, fun notAll => ?_, fun no => absurd isCandidate no, fun no => absurd isCandidate no,
      fun _ no => absurd sound no, fun _ no => absurd sound no, fun _ _ no => absurd (ranged.symm.trans no) (by decide),
      fun _ _ _ outside => ?_, fun _ _ _ inside => ⟨fun off => ?_, fun on => ?_⟩⟩
    · have outside : ¬inside := fun is => notAll ⟨isCandidate, sound, ranged, is⟩
      rw [lookupFound_outside (mt date.mp outside)]
      exact ⟨rfl, rfl⟩
    · rw [lookupFound_outside (mt date.mp outside), State.engine_modEngine_self, own]
      rfl
    · rw [lookupFound_inside (date.mpr inside), toGating_held (s := u.modEngine e (Engine.found · i p)) off, modEngine_modEngine]
      refine ⟨?_, rfl, rfl⟩
      rw [State.engine_modEngine_self, own]
      rfl
    · have asked := lookupFound_asked (s := u) (i := i) (snap := snap) (j := j) (date.mpr inside) on snapshot
        ((congrArg Engine.job own).trans job) ((congrArg Engine.stopAtHoldBegin own).trans noStop)
      rw [own] at asked
      generalize u.lookupFound e i p = t at asked ground ⊢
      refine ⟨fun none => asked.stays (ground.trans none), fun gr some_ => ?_⟩
      obtain ⟨question, low, high⟩ := asked.ends (ground.trans some_)
      exact ⟨question, fun is => (low is).symm, fun is => (high is).symm⟩
  · let judged := fun g : Engine => g.shelfJudged record s.regs.shelfFixed s.port.taking s.regs.enable
    have shelf : (s.sampleEcho echo).readShelf e = (s.sampleEcho echo).modEngine e judged :=
      readShelf_judged (s := s.sampleEcho echo) rfl good
    have own : ((s.sampleEcho echo).modEngine e judged).engine e = judged g := State.engine_modEngine_self _ e _
    have final : (s.regs.shelfFixed && g.lookup.fixedThroughout) = true ∨ g.lookup.mark = true ↔ fixed ∨ g.lookup.mark = true := by
      rw [Bool.and_eq_true]
    have notGood : ¬(candidate ∧ agrees ∧ p.inRange = true) := fun ⟨is, sound, ranged⟩ =>
      good ⟨candidate_iff.mpr is, sound, ranged⟩
    rw [shelf]
    rw [own]
    refine ⟨?_, fun _ => ⟨rfl, rfl⟩, fun no last => ?_, fun no more => ?_, fun is no fin => ?_, fun is no fin => ?_,
      fun is sound no => ?_, fun is sound ranged => absurd ⟨is, sound, ranged⟩ notGood,
      fun is sound ranged => absurd ⟨is, sound, ranged⟩ notGood⟩
    · rw [if_neg fun ⟨is, sound, ranged, _⟩ => notGood ⟨is, sound, ranged⟩]
      rfl
    · exact (if_pos (Bool.eq_false_iff.mpr (mt candidate_iff.mp no))).trans (if_pos last)
    · exact (if_pos (Bool.eq_false_iff.mpr (mt candidate_iff.mp no))).trans (if_neg more)
    · exact (if_neg (by rw [candidate_iff.mpr is]; decide)).trans ((if_pos no).trans (if_pos (final.mpr fin)))
    · exact (if_neg (by rw [candidate_iff.mpr is]; decide)).trans ((if_pos no).trans (if_neg (mt final.mp fin)))
    · exact (if_neg (by rw [candidate_iff.mpr is]; decide)).trans ((if_neg (not_not.mpr sound)).trans (if_pos no))

end Sys2Proof.Machine
end

section
/-! A lookup on a fixed shelf: the cache is asked first (08 R153). -/

namespace Sys2Proof.Machine

/-! ## The cache's answer -/

/-- A filled place answers to this key. -/
def Cache.hit (c : Cache) (type : Half) (variant : Byte) (q : PlaceId) (x : CacheEntry) : Prop :=
  c.places[q.val] = some x ∧ x.type = type ∧ x.variant = variant

/-- What the cache sees at one place. -/
def Cache.seen (c : Cache) (type : Half) (variant : Byte) (q : PlaceId) : Option (PlaceId × CacheEntry) :=
  (c.places[q.val]).bind fun x => if x.type = type ∧ x.variant = variant then some (q, x) else none

section
variable {c : Cache} {type : Half} {variant : Byte}

theorem find_eq : c.find type variant = allPlaces.findSome? (c.seen type variant) := by
  unfold Cache.find
  refine congrArg (List.findSome? · allPlaces) (funext fun q => ?_)
  unfold Cache.seen
  cases c.places[q.val] <;> rfl

theorem seen_hit {q : PlaceId} {x : CacheEntry} (hit : c.hit type variant q x) :
    c.seen type variant q = some (q, x) := by
  obtain ⟨filled, key⟩ := hit
  unfold Cache.seen
  rw [filled]
  exact if_pos key

theorem seen_none {q : PlaceId} (none : ∀ x, ¬c.hit type variant q x) : c.seen type variant q = .none := by
  unfold Cache.seen
  cases filled : c.places[q.val] with
  | none => rfl
  | some x => exact if_neg fun key => none x ⟨filled, key⟩

theorem find_miss (none : ∀ q x, ¬c.hit type variant q x) : c.find type variant = .none := by
  rw [find_eq, List.findSome?_eq_none_iff]
  exact fun q _ => seen_none (none q)

theorem find_hit {q : PlaceId} {x : CacheEntry} (hit : c.hit type variant q x)
    (first : ∀ q' x', q' < q → ¬c.hit type variant q' x') : c.find type variant = some (q, x) := by
  have places : ∀ q : PlaceId, allPlaces = allPlaces.take q.val ++ q :: allPlaces.drop (q.val + 1) := by decide
  have before : ∀ q : PlaceId, ∀ q' ∈ allPlaces.take q.val, q' < q := by decide
  rw [find_eq, List.findSome?_eq_some_iff]
  exact ⟨_, q, _, places q, seen_hit hit, fun q' earlier => seen_none fun x' => first q' x' (before q q' earlier)⟩

end

section
variable {s : State} {e : EngineId}

/-! ## The lookup begins -/

/-- The engine in the lookup pass, its unit as the pass begins. -/
def Engine.scanning (g : Engine) (fixed : Bool) : Engine :=
  { g with phase := .computing .lookup, lookup := { Lookup.reset with fixedThroughout := fixed } }

theorem beginLookup_miss
    (misses : s.regs.shelfFixed = false ∨
      ∀ q x, ¬s.cache.hit (tagType (s.engine e).tag) (tagVariant (s.engine e).tag) q x) :
    s.beginLookup e = s.modEngine e (Engine.scanning · s.regs.shelfFixed) := by
  unfold State.beginLookup
  dsimp only
  obtain open_ | none := misses
  · rw [if_neg (by rw [open_]; decide)]
    rfl
  · split
    · rw [find_miss none]
      rfl
    · rfl

theorem beginLookup_hit {q : PlaceId} {x : CacheEntry} (fixed : s.regs.shelfFixed = true)
    (hit : s.cache.hit (tagType (s.engine e).tag) (tagVariant (s.engine e).tag) q x)
    (first : ∀ q' x', q' < q → ¬s.cache.hit (tagType (s.engine e).tag) (tagVariant (s.engine e).tag) q' x') :
    s.beginLookup e = ((s.setCache (s.cache.touch q)).modEngine e fun g =>
      (g.scanning true).addFlag flagCacheHit).lookupFound e x.index (profileOf x.copy) := by
  unfold State.beginLookup
  dsimp only
  rw [fixed, if_pos rfl, find_hit hit first]
  dsimp only
  refine congrArg (State.lookupFound · e _ _) ?_
  exact modEngine_modEngine (s.setCache (s.cache.touch q)) e (Engine.scanning · true) (Engine.addFlag · flagCacheHit)

/-- A lookup begun with ENABLE reading 1. -/
theorem beginLookup_begun {snap : Snapshot} {j : Job} (on : s.regs.enable = true) (snapshot : s.regs.snapshot = some snap)
    (job : (s.engine e).job = some j) (noStop : (s.engine e).stopAtHoldBegin = false) :
    s.lookupBegun (s.beginLookup e) e (s.engine e) j.station (s.engine e).tag snap s.pins.echo := by
  unfold State.lookupBegun
  refine ⟨fun misses => ?_, fun q x fixed hit first => ?_⟩
  · rw [beginLookup_miss misses]
    exact ⟨State.engine_modEngine_self _ e _, rfl, rfl⟩
  · rw [beginLookup_hit fixed hit first]
    let u := (s.setCache (s.cache.touch q)).modEngine e fun g => (g.scanning true).addFlag flagCacheHit
    have own : u.engine e = ((s.engine e).scanning true).addFlag flagCacheHit :=
      State.engine_modEngine_self (s.setCache (s.cache.touch q)) e _
    intro p found inside
    have date : p.dateInside (tagDate (u.engine e).tag) = true ↔ inside := by
      rw [own]
      exact dateInside_iff p _
    refine ⟨fun outside => ?_, fun is => ?_⟩
    · change State.engine (u.lookupFound e x.index p) e = _ ∧ State.question (u.lookupFound e x.index p) e = _ ∧
        State.watch (u.lookupFound e x.index p) e = _
      rw [lookupFound_outside (mt date.mp outside), State.engine_modEngine_self, own]
      have enabled : u.regs.enable = true := on
      rw [enabled]
      exact ⟨rfl, rfl, rfl⟩
    · have asked := lookupFound_asked (s := u) (i := x.index) (snap := snap) (j := j) (date.mpr is) on snapshot
        ((congrArg Engine.job own).trans job) ((congrArg Engine.stopAtHoldBegin own).trans noStop)
      rw [own] at asked
      exact asked.from (s.engine e).phase

theorem goodFrame_lookup {record : List Byte} (kind : (s.engine e).header.kind ≠ 0x01)
    (serial : ¬((s.engine e).header.flags.getLsbD 2 = true ∧ longIn record 4 ≠ (s.engine e).header.serial))
    (on : s.regs.enable = true) :
    s.goodFrame e record = (s.modEngine e fun g => { g with tagRecord := some record }).beginLookup e := by
  unfold State.goodFrame State.toLookup
  dsimp only
  rw [if_neg (show ¬(s.engine e).header.kind = kindIdentify from kind), if_neg (mt (mismatch_iff _ _).mp serial),
    State.modEngine_regs, on, if_pos rfl]

end

/-- Settles O53: after a GOOD outcome the lookup begins with the cache. -/
theorem cacheIsAskedFirst : Obligations.CacheIsAskedFirst := by
  unfold Obligations.CacheIsAskedFirst
  intro s e echo j snap running reading tail undisturbed decision fixed on snapshot job noStop kind g record serial hit
  let u := ((s.sampleEcho echo).modEngine e Engine.tailEnded).setWatch e none
  let v := u.modEngine e fun g => { g with tagRecord := some record }
  have counted : u.engine e = g.tailEnded := State.engine_modEngine_self (s.sampleEcho echo) e Engine.tailEnded
  have own : v.engine e = { g.tailEnded with tagRecord := some record } := by
    rw [State.engine_modEngine_self, counted]
  have noMismatch : ¬(g.header.flags.getLsbD 2 = true ∧ longIn record 4 ≠ g.header.serial) := by
    rintro ⟨expects, differs⟩
    obtain none | same := serial
    · exact absurd (expects.symm.trans none) (by decide)
    · exact differs same
  have done : exec (.tailEnd e echo) s = .next (v.beginLookup e) := by
    rw [exec_tailEnd running reading tail echo, endTail_good (s := s.sampleEcho echo) undisturbed decision]
    exact congrArg _ (goodFrame_lookup (s := u) (by rw [counted]; exact kind) (by rw [counted]; exact noMismatch) on)
  have before : OnEngine e (s.sampleEcho echo) v := modEngine_onEngine (setWatch_onEngine (modEngine_onEngine (.refl e _) _) _) _
  have onEngine := before.trans_cache (beginLookup_onEngine e v)
  have begun := beginLookup_begun (s := v) (e := e) (snap := snap) (j := j) on snapshot (by rw [own]; exact job)
    (by rw [own]; exact noStop)
  have tag : (v.engine e).tag = record := by rw [own]; rfl
  refine ⟨_, done, onEngine.rest, onEngine.other, fun miss => ?_, fun q x is first => ?_, ?_⟩
  · rw [beginLookup_miss (s := v) (.inr (by rw [tag]; exact miss))]
    rfl
  · rw [beginLookup_hit (s := v) (q := q) (x := x) fixed (by rw [tag]; exact is) (by rw [tag]; exact first)]
    exact (lookupFound_onEngine (.refl e _) x.index (profileOf x.copy)).rest.cache
  · rw [own] at begun
    exact begun

end Sys2Proof.Machine
end

section
/-! The result burst and what a card delivers (10 R184 to R186, 09 R175, R176). -/

namespace Sys2Proof.Machine

/-! ## The bytes of the result (10 Table 10-3) -/

theorem getD_take_padded {α : Type} (l : List α) {n i : Nat} (d : α) (inside : i < n) :
    ((l ++ List.replicate n d).take n).getD i d = l.getD i d := by
  rw [List.getD_eq_getElem?_getD, List.getD_eq_getElem?_getD, List.getElem?_take, if_pos inside, List.getElem?_append]
  split_ifs with short
  · rfl
  · rw [List.getElem?_replicate, List.getElem?_eq_none (Nat.not_lt.mp short)]
    split_ifs <;> rfl

theorem tagBytes_getD (g : Engine) {i : Nat} (inside : i < 14) : g.tagBytes.getD i 0 = (g.tagRecord.getD []).getD i 0 :=
  getD_take_padded _ 0 inside

/-- Two bytes of a run of halfwords. -/
theorem flatMap_halfBytes (l : List Nat) {i : Nat} (inside : i < l.length) {j : Nat} (side : j < 2) :
    (l.flatMap fun c => halfBytes (BitVec.ofNat 16 c)).getD (2 * i + j) 0 =
      (halfBytes (BitVec.ofNat 16 (l.getD i 0))).getD j 0 := by
  induction l generalizing i with
  | nil => exact absurd inside (Nat.not_lt_zero i)
  | cons x xs ih =>
    rw [List.flatMap_cons]
    cases i with
    | zero =>
      rw [List.getD_append _ _ _ _ (by rw [halfBytes_length]; omega)]
      simp
    | succ i =>
      rw [List.getD_append_right _ _ _ _ (by rw [halfBytes_length]; omega), halfBytes_length,
        show 2 * (i + 1) + j - 2 = 2 * i + j by omega, ih (Nat.lt_of_succ_lt_succ inside)]
      rfl

theorem intervalBytes_getD (g : Engine) {i j : Nat} (inside : i < 8) (side : j < 2) :
    g.intervalBytes.getD (2 * i + j) 0 = (halfBytes (BitVec.ofNat 16 (g.figures.c.getD i 0))).getD j 0 := by
  unfold Engine.intervalBytes
  rw [flatMap_halfBytes _ (by simp; omega) side, getD_take_padded _ 0 inside]

section
variable {s : State}

/-- The figures that follow the profile index. -/
def Engine.countBytes (g : Engine) : List Byte :=
  [indexByte g.profileIndex, BitVec.ofNat 8 g.rounds.valid, BitVec.ofNat 8 g.rounds.attempts] ++
    halfBytes (BitVec.ofNat 16 g.figures.s) ++ halfBytes (BitVec.ofNat 16 g.figures.w)

theorem countBytes_length (g : Engine) : g.countBytes.length = 7 := rfl

theorem writeResult_byte (wf : Memory.wf s.mem = true) (k : CardId) (g : Engine) (a : Nat) :
    (s.writeResult k g).byte a =
      if cardBase k + 0x22 ≤ a ∧ a < cardBase k + 0x40 then (g.tagBytes ++ g.intervalBytes).getD (a - (cardBase k + 0x22)) 0
      else if cardBase k + 0x17 ≤ a ∧ a < cardBase k + 0x1E then g.countBytes.getD (a - (cardBase k + 0x17)) 0
      else if cardBase k + 0x11 ≤ a ∧ a < cardBase k + 0x14 then
        (g.figures.verdict.code :: halfBytes g.flags).getD (a - (cardBase k + 0x11)) 0
      else s.byte a := by
  have length : (g.tagBytes ++ g.intervalBytes).length = 30 := by
    rw [List.length_append, tagBytes_length, intervalBytes_length]
  have wf1 := State.wf_put (cardBase k + cdVerdict) (g.figures.verdict.code :: halfBytes g.flags) wf
  have wf2 := State.wf_put (cardBase k + cdProfileIndex) g.countBytes wf1
  change State.byte (State.put (State.put _ _ g.countBytes) _ _) a = _
  rw [State.byte_put_getD wf2, State.byte_put_getD wf1, State.byte_put_getD wf, length, countBytes_length,
    List.length_cons, halfBytes_length]
  simp only [cdVerdict, cdProfileIndex, cdTagRecord, Nat.add_assoc]

theorem writeResult_frame (s : State) (k : CardId) (g : Engine) :
    s.writeResult k g = { s with mem := (s.writeResult k g).mem } := rfl

theorem exec_resultBurst {e : EngineId} {j : Job} (running : s.inReset = false)
    (result : (s.engine e).phase = .writing .result) (job : (s.engine e).job = some j) :
    exec (.resultBurst e) s = .next ((s.writeResult j.card (s.engine e)).setPhase e
      (.writing (if (s.engine e).parcel.isSome then .delivery else .terminal))) := by
  change execResultBurst e s = _
  unfold execResultBurst
  rw [job]
  dsimp only
  unfold State.whenever
  rw [running, result, if_neg (by decide), if_pos (by simp)]

end

/-! ## What a card delivers (09 Table 9-5, R176) -/

theorem parcel_error {g : Engine} (error : g.figures.error ≠ .none) : g.parcel = none := if_pos error

theorem parcel_identify {g : Engine} (error : g.figures.error = .none) (kind : g.header.kind = 0x01) : g.parcel =
    if g.figures.verdict = .none then some { verdict := none, identity := g.tagRecord } else none := by
  unfold Engine.parcel
  rw [if_neg (not_not.mpr error), if_pos (show g.header.kind = kindIdentify from kind)]

theorem parcel_survey {g : Engine} (error : g.figures.error = .none) (kind : g.header.kind = 0x03) : g.parcel = none := by
  unfold Engine.parcel
  rw [if_neg (not_not.mpr error), kind, if_neg (by decide), if_neg (by decide)]

/-- Settles O57: the bytes by writeResult_byte, the parcel by kind and verdict. -/
theorem resultAndItsDelivery : Obligations.ResultAndItsDelivery := by
  unfold Obligations.ResultAndItsDelivery
  refine ⟨fun s e j wf running result job => ?_, fun g => ?_⟩
  · intro g base
    have bytes := writeResult_byte wf j.card g
    have done := exec_resultBurst running result job
    have next : (.writing (if g.parcel.isSome then .delivery else .terminal) : Phase) =
        if g.parcel = none then .writing .terminal else .writing .delivery := by cases g.parcel <;> rfl
    have frame := writeResult_frame s j.card g
    change exec _ s = .next ((s.writeResult j.card g).setPhase e (.writing (if g.parcel.isSome then .delivery else .terminal)))
      at done
    rw [next] at done
    generalize s.writeResult j.card g = u at bytes done frame
    have read : ∀ a, (u.setPhase e (if g.parcel = none then .writing .terminal else .writing .delivery)).byte a = u.byte a :=
      fun a => rfl
    have tail : ∀ {o : Nat}, o < 30 → u.byte (base + 0x22 + o) = (g.tagBytes ++ g.intervalBytes).getD o 0 := by
      intro o inside
      rw [bytes, if_pos (by omega), show base + 0x22 + o - (cardBase j.card + 0x22) = o by omega]
    have counts : ∀ {o : Nat}, o < 7 → u.byte (base + 0x17 + o) = g.countBytes.getD o 0 := by
      intro o inside
      rw [bytes, if_neg (by omega), if_pos (by omega),
        show base + 0x17 + o - (cardBase j.card + 0x17) = o by omega]
    have verdict : ∀ {o : Nat}, o < 3 → u.byte (base + 0x11 + o) = (g.figures.verdict.code :: halfBytes g.flags).getD o 0 := by
      intro o inside
      rw [bytes, if_neg (by omega), if_neg (by omega), if_pos (by omega),
        show base + 0x11 + o - (cardBase j.card + 0x11) = o by omega]
    refine ⟨_, done, ?_, verdict (o := 0) (by omega), State.half_of_bytes (verdict (o := 1) (by omega)) (verdict (o := 2) (by omega)),
      counts (o := 0) (by omega), counts (o := 1) (by omega), counts (o := 2) (by omega),
      State.half_of_bytes (counts (o := 3) (by omega)) (counts (o := 4) (by omega)),
      State.half_of_bytes (counts (o := 5) (by omega)) (counts (o := 6) (by omega)), fun i inside => ?_, fun i inside => ?_,
      fun a apart => ?_⟩
    · rw [frame]
      rfl
    · rw [read, tail (by omega), List.getD_append _ _ _ _ (by rw [tagBytes_length]; exact inside), tagBytes_getD g inside]
    · have cell : ∀ {k : Nat}, k < 2 → u.byte (base + 0x30 + 2 * i + k) =
          (halfBytes (BitVec.ofNat 16 (g.figures.c.getD i 0))).getD k 0 := by
        intro k side
        rw [show base + 0x30 + 2 * i + k = base + 0x22 + (14 + (2 * i + k)) by omega, tail (by omega),
          List.getD_append_right _ _ _ _ (by rw [tagBytes_length]; omega), tagBytes_length, Nat.add_sub_cancel_left,
          intervalBytes_getD g inside side]
      exact State.half_of_bytes (cell (k := 0) (by omega)) (cell (k := 1) (by omega))
    · rw [read, bytes, if_neg (by omega), if_neg (by omega), if_neg (by omega)]
  · intro score
    refine ⟨parcel_error, fun error => ⟨parcel_survey error, parcel_identify error, fun kind => ?_⟩⟩
    unfold Engine.parcel
    rw [if_neg (not_not.mpr error), kind, if_neg (by decide), if_pos (by decide)]
    cases g.figures.verdict <;> rfl

end Sys2Proof.Machine
end

section
/-! The scoring pass: its figures, flags and verdict (09 R161 to R173). -/

namespace Sys2Proof.Machine

/-! ## Reason flags under a mask -/

theorem or_masked_none {f m k : Half} (apart : m &&& k = 0) : (f ||| m) &&& k = f &&& k := by
  rw [BitVec.and_or_distrib_right, apart, or_noFlag]

theorem or_masked_all {f m k : Half} (set : m &&& k = k) : (f ||| m) &&& k = k := by
  refine BitVec.eq_of_getLsbD_eq fun i _ => ?_
  have bit := congrArg (BitVec.getLsbD · i) set
  simp only [BitVec.getLsbD_and, BitVec.getLsbD_or] at bit ⊢
  revert bit
  cases f.getLsbD i <;> cases m.getLsbD i <;> cases k.getLsbD i <;> simp

/-! ## Positions (09 R162 to R167) -/

theorem deviation_eq (c x : Nat) : deviation c x = Int.natAbs ((c : Int) - x) := by
  unfold deviation
  omega

/-- Each position's deviation over its own tolerance. -/
theorem normalised_zip (p : Profile) (cs xs : List Nat) :
    List.zipWith normalised (List.zipWith deviation cs xs) (xs.map (toleranceOf p)) =
      List.zipWith (fun c x : Nat => min (Int.natAbs ((c : Int) - x) * 256 / max (x * p.tolPpm.toNat / 1000000) p.tolMin.toNat)
        4095) cs xs := by
  induction cs generalizing xs with
  | nil => rw [List.zipWith_nil_left, List.zipWith_nil_left, List.zipWith_nil_left]
  | cons c cs ih =>
    cases xs with
    | nil => rw [List.zipWith_nil_right, List.zipWith_nil_left, List.zipWith_nil_right]
    | cons x xs =>
      rw [List.map_cons, List.zipWith_cons_cons, List.zipWith_cons_cons, List.zipWith_cons_cons, ih, deviation_eq,
        normalised, toleranceOf]

section
variable {g : Engine} {p : Profile}

theorem means_eq (complete : g.rounds.positions.length = p.n.toNat) :
    g.means p.n.toNat = g.rounds.positions.map fun q => meanOf q.sum g.rounds.valid := by
  unfold Engine.means
  rw [← complete, List.take_length]

/-- The corrected means before their clamp (09 R163). -/
theorem correctedRaw_means (complete : g.rounds.positions.length = p.n.toNat) :
    (g.means p.n.toNat).map (fun m => correctedRaw m g.refMean g.nref.toNat) = g.rounds.positions.map fun q =>
      if g.nref = 0 then meanOf q.sum g.rounds.valid
      else (meanOf q.sum g.rounds.valid * g.nref.toNat + g.refMean / 2) / g.refMean := by
  have zero : g.nref.toNat = 0 ↔ g.nref = 0 :=
    ⟨fun zero => BitVec.eq_of_toNat_eq zero, fun zero => by rw [zero]; rfl⟩
  rw [means_eq complete, List.map_map]
  refine List.map_congr_left fun q _ => ?_
  unfold correctedRaw
  dsimp only [Function.comp]
  simp only [zero]

theorem corrected_means (complete : g.rounds.positions.length = p.n.toNat) :
    (g.means p.n.toNat).map (fun m => corrected m g.refMean g.nref.toNat) =
      (g.rounds.positions.map fun q => if g.nref = 0 then meanOf q.sum g.rounds.valid
        else (meanOf q.sum g.rounds.valid * g.nref.toNat + g.refMean / 2) / g.refMean).map (min · 65535) := by
  rw [← correctedRaw_means complete, List.map_map]
  rfl

/-- The spread test holds of some position (09 R169). -/
theorem noisy_iff (positions : List Position) (limits : List Nat) :
    (List.zipWith (fun q l => decide (2 * l < q.largest - q.smallest)) positions limits).any id = true ↔
      ∃ (i : Nat) (q : Position) (l : Nat), positions[i]? = some q ∧ limits[i]? = some l ∧ 2 * l < q.largest - q.smallest := by
  rw [List.any_eq_true]
  constructor
  · rintro ⟨b, mem, rfl⟩
    obtain ⟨i, at_⟩ := List.mem_iff_getElem?.mp mem
    rw [List.getElem?_zipWith] at at_
    cases here : positions[i]? with
    | none => simp [here] at at_
    | some q =>
      cases limit : limits[i]? with
      | none => simp [here, limit] at at_
      | some l => exact ⟨i, q, l, here, limit, by simpa [here, limit] using at_⟩
  · rintro ⟨i, q, l, here, limit, wide⟩
    refine ⟨true, List.mem_iff_getElem?.mpr ⟨i, ?_⟩, rfl⟩
    rw [List.getElem?_zipWith, here, limit]
    simp [wide]

/-! ## The three ends of the pass (09 R161, R170) -/

theorem score_few (few : g.rounds.valid < p.minValid.toNat) : g.score p =
    ({ Figures.reset with verdict := .inconclusive }, flagIf (g.ending = some .attemptsSpent) flagAttempts) := if_pos few

theorem score_survey (enough : p.minValid.toNat ≤ g.rounds.valid) (kind : g.header.kind = 0x03) : g.score p =
    ({ Figures.reset with c := (g.means p.n.toNat).map fun m => corrected m g.refMean g.nref.toNat },
      flagIf (((g.means p.n.toNat).map fun m => correctedRaw m g.refMean g.nref.toNat).any fun c => decide (65535 < c))
        flagClamped) := by
  unfold Engine.score
  dsimp only
  rw [if_neg (Nat.not_lt.mpr enough), if_pos (show g.header.kind = kindSurvey from kind)]

/-- Some corrected mean is clamped (09 R163). -/
def Engine.clampsMean (g : Engine) (p : Profile) : Bool :=
  ((g.means p.n.toNat).map fun m => correctedRaw m g.refMean g.nref.toNat).any fun c => decide (65535 < c)

/-- Some expected interval is clamped (09 R165). -/
def Engine.clampsExpected (g : Engine) (p : Profile) : Bool :=
  (p.enrolled.map (·.toNat)).any fun d => decide (expectedRaw d (scaleOf p g.header) < 1 ∨ 65535 < expectedRaw d (scaleOf p g.header))

/-- The echo is not steady (09 R169). -/
def Engine.noisy (g : Engine) (p : Profile) (xs : List Nat) : Bool :=
  (List.zipWith (fun q l => decide (2 * l < q.largest - q.smallest)) (g.rounds.positions.take p.n.toNat)
    (xs.map (toleranceOf p))).any id

theorem score_verify {cs xs qs : List Nat} (enough : p.minValid.toNat ≤ g.rounds.valid) (kind : g.header.kind ≠ 0x03)
    (means : (g.means p.n.toNat).map (fun m => corrected m g.refMean g.nref.toNat) = cs)
    (delays : (p.enrolled.map (·.toNat)).map (fun d => expected d (scaleOf p g.header)) = xs)
    (deviations : List.zipWith normalised (List.zipWith deviation cs xs) (xs.map (toleranceOf p)) = qs) : g.score p =
    ({ verdict := scoredVerdict p (scoreOf qs p.n.toNat) (worstOf qs) (g.noisy p xs), c := cs, s := scoreOf qs p.n.toNat
       w := worstOf qs, error := .none },
      flagIf (g.clampsMean p || g.clampsExpected p) flagClamped ||| flagIf (g.noisy p xs) flagNoisy) := by
  unfold Engine.score
  dsimp only
  rw [if_neg (Nat.not_lt.mpr enough), if_neg (show ¬g.header.kind = kindSurvey from kind), means, delays, deviations]
  rfl

end

section
variable {s : State} {e : EngineId}

theorem exec_scoringPassEnd {p : Profile} (running : s.inReset = false) (scoring : (s.engine e).phase = .computing .scoring)
    (profile : (s.engine e).profile = some p) : exec (.scoringPassEnd e) s = .next (s.endScoring e p) := by
  change execScoringPassEnd e s = _
  unfold execScoringPassEnd
  rw [profile]
  simp [State.whenever, running, scoring]

theorem endScoring_eq (p : Profile) : s.endScoring e p = s.modEngine e fun g => { g with
    phase := if s.regs.enable then .writing .result else .held .writing
    flags := g.flags ||| (g.score p).2
    figures := (g.score p).1 } := by
  unfold State.endScoring
  rw [toWriting_eq, modEngine_modEngine]
  rfl

end

theorem reject_over_accept {p : Profile} (inRange : p.inRange = true) : 256 < p.reject.toNat := by
  obtain ⟨_, _, _, _, _, _, _, _, _, _, ⟨reject, _⟩, _⟩ := (inRange_iff p).mp inRange
  omega

/-- What the two flags of a scored card leave of the flags gathered before. -/
theorem scored_flags (flags : Half) (clamped noisy : Bool) :
    let all := flags ||| (flagIf clamped flagClamped ||| flagIf noisy flagNoisy)
    all &&& 0xE7FF = flags &&& 0xE7FF ∧
    (clamped = true → all &&& 0x0800 = 0x0800) ∧ (clamped = false → all &&& 0x0800 = flags &&& 0x0800) ∧
    (noisy = true → all &&& 0x1000 = 0x1000) ∧ (noisy = false → all &&& 0x1000 = flags &&& 0x1000) := by
  refine ⟨or_masked_none (by revert clamped noisy; decide), ?_, ?_, ?_, ?_⟩
  · rintro rfl
    exact or_masked_all (by revert noisy; decide)
  · rintro rfl
    exact or_masked_none (by revert noisy; decide)
  · rintro rfl
    exact or_masked_all (by revert clamped; decide)
  · rintro rfl
    exact or_masked_none (by revert clamped; decide)

section
variable {g : Engine} {p : Profile}

theorem clampsMean_iff (complete : g.rounds.positions.length = p.n.toNat) : g.clampsMean p = true ↔
    ∃ c ∈ g.rounds.positions.map fun q => if g.nref = 0 then meanOf q.sum g.rounds.valid
      else (meanOf q.sum g.rounds.valid * g.nref.toNat + g.refMean / 2) / g.refMean, 65535 < c := by
  unfold Engine.clampsMean
  rw [correctedRaw_means complete, List.any_eq_true]
  simp only [decide_eq_true_eq]

theorem clampsExpected_iff : g.clampsExpected p = true ↔ ∃ d ∈ p.delays.take p.n.toNat,
    expectedRaw d.toNat (scaleOf p g.header) < 1 ∨ 65535 < expectedRaw d.toNat (scaleOf p g.header) := by
  unfold Engine.clampsExpected Profile.enrolled
  rw [List.any_map, List.any_eq_true]
  simp only [Function.comp, decide_eq_true_eq]

theorem noisy_of_positions (complete : g.rounds.positions.length = p.n.toNat) (xs : List Nat) : g.noisy p xs = true ↔
    ∃ (i : Nat) (q : Position) (x : Nat), g.rounds.positions[i]? = some q ∧ xs[i]? = some x ∧
      2 * toleranceOf p x < q.largest - q.smallest := by
  unfold Engine.noisy
  rw [noisy_iff, ← complete, List.take_length]
  constructor
  · rintro ⟨i, q, l, here, limit, wide⟩
    rw [List.getElem?_map, Option.map_eq_some_iff] at limit
    obtain ⟨x, at_, rfl⟩ := limit
    exact ⟨i, q, x, here, at_, wide⟩
  · rintro ⟨i, q, x, here, at_, wide⟩
    exact ⟨i, q, _, here, by rw [List.getElem?_map, at_]; rfl, wide⟩

end

/-- Settles O56: the three ends of the pass, their figures and their flags. -/
theorem scoringPassGivesTheVerdict : Obligations.ScoringPassGivesTheVerdict := by
  unfold Obligations.ScoringPassGivesTheVerdict
  intro s e p running scoring profile inRange complete g v n mean mref raw cs dT k rawX xs tolerance qs noisy clampedC clampedX
  have own : (s.endScoring e p).engine e = { g with
      phase := if s.regs.enable then .writing .result else .held .writing
      flags := g.flags ||| (g.score p).2
      figures := (g.score p).1 } := by rw [endScoring_eq, State.engine_modEngine_self]
  refine ⟨_, exec_scoringPassEnd running scoring profile, ?_, ?_⟩
  · rw [own, endScoring_eq]
    exact modEngine_congr rfl
  rw [own]
  dsimp only
  refine ⟨fun few => ?_, fun enough kind => ?_, fun enough kind => ?_⟩
  · rw [score_few few]
    refine ⟨rfl, ?_⟩
    by_cases spent : g.ending = some .attemptsSpent
    · rw [if_pos spent, decide_eq_true spent]
      rfl
    · rw [if_neg spent, decide_eq_false spent]
      exact or_noFlag g.flags
  · have clamps : g.clampsMean p = true ↔ clampedC := clampsMean_iff (complete enough)
    rw [score_survey enough kind]
    refine ⟨?_, fun clamped => ?_, fun none => ?_⟩
    · rw [corrected_means (complete enough)]
      rfl
    · rw [show List.any _ _ = true from clamps.mpr clamped]
      rfl
    · rw [show List.any _ _ = false from Bool.eq_false_iff.mpr (mt clamps.mp none)]
      exact or_noFlag g.flags
  · have clamps : g.clampsMean p = true ↔ clampedC := clampsMean_iff (complete enough)
    have exceeds : g.clampsExpected p = true ↔ clampedX := clampsExpected_iff
    have noise : g.noisy p xs = true ↔ noisy := noisy_of_positions (complete enough) xs
    have expected_eq : (p.enrolled.map (·.toNat)).map (fun d => expected d (scaleOf p g.header)) = xs := List.map_map
    have flags := scored_flags g.flags (g.clampsMean p || g.clampsExpected p) (g.noisy p xs)
    rw [score_verify enough kind (corrected_means (complete enough)) expected_eq (normalised_zip p cs xs)]
    obtain ⟨kept, clamped, unclamped, noised, quiet⟩ := flags
    dsimp only
    refine ⟨rfl, rfl, rfl, rfl, kept, fun some_ => clamped ?_, fun noC noX => unclamped ?_, fun is => noised (noise.mpr is),
      fun no => quiet (Bool.eq_false_iff.mpr (mt noise.mp no)), fun rejected => if_pos rejected, fun within score steady => ?_,
      fun below test => ?_⟩
    · rw [Bool.or_eq_true, clamps, exceeds]
      exact some_
    · rw [Bool.or_eq_false_iff, Bool.eq_false_iff, Bool.eq_false_iff]
      exact ⟨mt clamps.mp noC, mt exceeds.mp noX⟩
    · have quiet : g.noisy p xs = false := Bool.eq_false_iff.mpr (mt noise.mp steady)
      exact (if_neg (by have := reject_over_accept inRange; omega)).trans (if_pos ⟨within, score, quiet⟩)
    · refine (if_neg (Nat.not_le.mpr below)).trans (if_neg ?_)
      rintro ⟨within, score, steady⟩
      obtain wide | high | is := test
      · omega
      · omega
      · rw [noise.mpr is] at steady
        exact Bool.noConfusion steady

end Sys2Proof.Machine
end

section
/-! Hold end and release: what the end of a card on an engine leaves (05 R88, R103, 03 R56, 10 R187, R188). -/

namespace Sys2Proof.Machine

section
variable {s t u v : State} {n m : StationId} {e : EngineId}

/-! ## The holder field of a record (03 R56) -/

/-- An event that writes the holder field. -/
theorem holder_settled (wf : Memory.wf s.mem = true) (n : StationId) (f : Station → Station) (b : Byte) :
    let t := s.stationEvent n fun s => s.recorded n f 0x12 b
    t = { s with mem := t.mem, stations := t.stations, regs := s.flagRaised t n } ∧
    t.station n = { f (s.station n) with permit := (t.station n).permit } ∧
    (∀ m, m ≠ n → t.station m = s.station m) ∧
    t.byte (stationBase n + 0x12) = b ∧ s.recordFollows t n ∧
    (∀ a, (∀ o, (eventOffset o = true ∨ o = 0x12) → a ≠ stationBase n + o) → t.byte a = s.byte a) ∧
    Memory.wf t.mem = true := by
  intro t
  have byte := recorded_byte wf n f 0x12 b
  have station := recorded_station s n (f := f) (o := 0x12) (b := b)
  have frame := recorded_frame s n f 0x12 b
  have acted : Acted s (s.recorded n f 0x12 b) n := by
    refine ⟨?_, by rw [frame]; rfl, by rw [frame]; rfl, fun i small => ?_⟩
    · unfold State.recorded
      exact State.wf_put _ _ wf
    · rw [byte, if_neg (by omega)]
  have settled : Settled s (s.recorded n f 0x12 b) t n := acted.settled
  generalize t = t at settled ⊢
  generalize s.recorded n f 0x12 b = u at settled byte station frame
  refine ⟨?_, ?_, fun m other => ?_, ?_, settled.record, fun a apart => ?_, settled.wf⟩
  · refine settled.frame.trans ?_
    rw [frame]
    rfl
  · rw [settled.own, station, if_pos rfl]
  · rw [settled.others m other, station, if_neg other]
  · rw [settled.bytes _ (by omega) (by omega), byte, if_pos rfl]
  · rw [settled.mem_apart fun o event => apart o (.inl event), byte, if_neg (apart 0x12 (.inr rfl))]

theorem modStation_id (s : State) (n : StationId) {f : Station → Station} (same : f (s.station n) = s.station n) :
    s.modStation n f = s := by
  unfold State.modStation
  rw [same]
  have stations : s.stations.set n.val (s.station n) = s.stations := Vector.set_getElem_self _
  rw [stations]

/-! ## Release without the allocator's action (05 R88) -/

/-- The places freed, the point opened and the engine emptied. -/
@[irreducible] def State.vacated (s : State) (e : EngineId) (n : StationId) : State :=
  ((s.modEngine e Engine.retire).setHold n none).setPoint e none

/-- Hold end but for deferred setup. -/
@[irreducible] def State.holdEnded (s : State) (n : StationId) : State :=
  (s.stationEvent n fun s => s.recorded n id 0x12 0xFF).modStation n fun x => { x with deferred := false }

theorem vacated_frame (s : State) (e : EngineId) (n : StationId) : s.vacated e n = { s with
    engines := (s.vacated e n).engines, holds := (s.vacated e n).holds, crosspoint := (s.vacated e n).crosspoint } := by
  unfold State.vacated
  rfl

theorem vacated_engine (s : State) (e e' : EngineId) (n : StationId) : (s.vacated e n).engine e' =
    if e' = e then { Engine.reset with stops := (s.engine e).stops } else s.engine e' := by
  unfold State.vacated
  exact State.engine_modEngine s e e' Engine.retire

theorem vacated_holder (s : State) (e : EngineId) (n m : StationId) :
    (s.vacated e n).holder m = if m = n then none else s.holder m := by
  unfold State.vacated
  exact State.holder_setHold _ _ _ _

theorem vacated_point (s : State) (e e' : EngineId) (n : StationId) :
    (s.vacated e n).point e' = if e' = e then none else s.point e' := by
  unfold State.vacated
  exact State.point_setPoint _ _ _ _

theorem holdEnd_eq (s : State) (n : StationId) :
    s.holdEnd n = if (s.station n).deferred then (s.holdEnded n).setupNotice n else s.holdEnded n := by
  have put : ∀ u : State, u.put (stationBase n + stHolder) [codeNone] = u.recorded n id 0x12 0xFF := fun u => by
    unfold State.recorded
    rw [modStation_id u n rfl]
    rfl
  unfold State.holdEnd State.holdEnded
  simp only [put]

theorem release_eq (s : State) (e : EngineId) (n : StationId) :
    s.release e n = ((s.vacated e n).holdEnd n).allocate := by
  unfold State.vacated
  rfl

/-- Hold end but for deferred setup, as an event of the Supervisor. -/
theorem holdEnded_settled (wf : Memory.wf s.mem = true) (n : StationId) :
    let t := s.holdEnded n
    t = { s with mem := t.mem, stations := t.stations, regs := s.flagRaised t n } ∧
    t.station n = { s.station n with deferred := false, permit := (t.station n).permit } ∧
    (∀ m, m ≠ n → t.station m = s.station m) ∧
    t.byte (stationBase n + 0x12) = 0xFF ∧ s.recordFollows t n ∧
    (∀ a, (∀ o, (eventOffset o = true ∨ o = 0x12) → a ≠ stationBase n + o) → t.byte a = s.byte a) ∧
    Memory.wf t.mem = true := by
  obtain ⟨frame, own, others, holder, follows, bytes, wf'⟩ := holder_settled wf n id 0xFF
  unfold State.holdEnded
  generalize (s.stationEvent n _) = t at frame own others holder follows bytes wf' ⊢
  have same : SamePermits t (t.modStation n fun x => { x with deferred := false }) := modStation_permits (.refl t) n
  have raised : s.flagRaised (t.modStation n fun x => { x with deferred := false }) n = s.flagRaised t n :=
    State.flagRaised_congr (t := t) rfl n
  refine ⟨?_, ?_, fun m other => ?_, holder, follows.of_same (same n) rfl, bytes, wf'⟩
  · rw [raised]
    generalize s.flagRaised t n = r at frame ⊢
    rw [frame]
    rfl
  · rw [State.station_modStation_self, own]
    rfl
  · rw [State.station_modStation_other _ _ _ _ other, others m other]

/-! ## A card ended, then its station released -/

/-- State u comes from state s by the end of card k, its result written. -/
structure CardEnded (s u : State) (k : CardId) (notify : Bool) : Prop where
  regs : u.regs = s.regs.cardEnded notify
  tracker : u.tracker = s.tracker
  wf : Memory.wf u.mem = true
  outside : ∀ a, outsideResult k a → u.byte a = s.byte a

theorem record_outsideResult (k : CardId) (n : StationId) {o : Nat} (small : o < 128) : outsideResult k (stationBase n + o) := by
  have := stationBase_bound n
  unfold outsideResult cardBase
  omega

section
variable {k : CardId} {notify : Bool}

theorem CardEnded.record (h : CardEnded s u k notify) (n : StationId) {o : Nat} (small : o < 128) :
    u.byte (stationBase n + o) = s.byte (stationBase n + o) := h.outside _ (record_outsideResult k n small)

theorem CardEnded.key (h : CardEnded s u k notify) (n : StationId) : u.recordKey n = s.recordKey n := by
  simp only [State.recordKey, h.record n (show stState < 128 by decide), h.record n (show stPresent < 128 by decide),
    h.record n (show stFaultCause < 128 by decide)]

theorem CardEnded.flagRaised (h : CardEnded s u k notify) (v : State) (n : StationId) :
    u.flagRaised v n = (s.flagRaised v n).cardEnded notify := by
  unfold State.flagRaised
  rw [h.key, h.record n (show stChangeFlag < 128 by decide), h.regs]
  unfold Registers.cardEnded
  split_ifs
  · rfl
  · rfl
  · rw [BitVec.or_assoc, BitVec.or_comm causeCardEnd, ← BitVec.or_assoc]
  · rfl

theorem CardEnded.recordFollows (h : CardEnded s u k notify) (follows : u.recordFollows v n) : s.recordFollows v n := by
  obtain ⟨code, permit, moved⟩ := follows
  have stamp : u.long (stationBase n + stStamp) = s.long (stationBase n + stStamp) :=
    State.long_congr fun i small => by rw [Nat.add_assoc]; exact h.record n (by unfold stStamp; omega)
  rw [h.key, stamp, h.record n (show stChangeFlag < 128 by decide), h.tracker] at moved
  exact ⟨code, permit, moved⟩

end

/-- The release of a station whose card has ended, but for deferred setup and the allocator. -/
theorem released {j : Job} {echo : Levels}
    (frame : u = { s with pins := { s.pins with echo := echo }, mem := u.mem, regs := u.regs })
    (ended : CardEnded s u j.card (s.engine e).header.notify) :
    let v := (u.vacated e j.station).holdEnded j.station
    (s.modStation j.station fun x => { x with deferred := false }).releasedBy v e j echo ∧
    (∀ o, o < 64 → v.byte (cardBase j.card + o) = u.byte (cardBase j.card + o)) ∧ Memory.wf v.mem = true := by
  have r_frame := vacated_frame u e j.station
  have engine := vacated_engine u e (n := j.station)
  have holder := vacated_holder u e j.station
  have point := vacated_point u e (n := j.station)
  have mem : (u.vacated e j.station).mem = u.mem := by rw [r_frame]
  have byte := State.byte_congr mem
  have ended' : CardEnded s (u.vacated e j.station) j.card (s.engine e).header.notify :=
    ⟨by rw [r_frame]; exact ended.regs, by rw [r_frame]; exact ended.tracker, by rw [mem]; exact ended.wf,
      fun a apart => (byte a).trans (ended.outside a apart)⟩
  generalize u.vacated e j.station = r at r_frame engine holder point byte ended' ⊢
  obtain ⟨v_frame, own, others, holderByte, follows, bytes, wf⟩ := holdEnded_settled ended'.wf j.station
  generalize r.holdEnded j.station = v at v_frame own others holderByte follows bytes wf ⊢
  have u_engine (e' : EngineId) : u.engine e' = s.engine e' := State.engine_eq (by rw [frame]) e'
  have u_station (m : StationId) : u.station m = s.station m := State.station_eq (by rw [frame]) m
  have r_station (m : StationId) : r.station m = s.station m := (State.station_eq (by rw [r_frame]) m).trans (u_station m)
  have v_engine (e' : EngineId) : v.engine e' = r.engine e' := State.engine_eq (by rw [v_frame]) e'
  have v_holder (m : StationId) : v.holder m = r.holder m := by rw [v_frame]; rfl
  have v_point (e' : EngineId) : v.point e' = r.point e' := by rw [v_frame]; rfl
  refine ⟨⟨?_, ?_, ?_, ?_, fun e' other => ⟨?_, ?_⟩, fun m other => ⟨?_, ?_⟩, ?_, holderByte, ?_, fun a outside apart => ?_⟩,
    fun o small => ?_, wf⟩
  · have raised : v.regs = (s.flagRaised v j.station).cardEnded (s.engine e).header.notify := by
      rw [← ended'.flagRaised]
      generalize r.flagRaised v j.station = x at v_frame ⊢
      rw [v_frame]
    have regs : v.regs = ((s.modStation j.station fun x => { x with deferred := false }).flagRaised v j.station).cardEnded
        (s.engine e).header.notify := raised
    rw [State.engine_eq (t := s.modStation j.station _) (s := s) rfl, ← regs]
    generalize r.flagRaised v j.station = x at v_frame
    rw [v_frame, r_frame, frame]
    rfl
  · rw [v_engine, engine, if_pos rfl, u_engine]
    rfl
  · rw [v_holder, holder, if_pos rfl]
  · rw [v_point, point, if_pos rfl]
  · rw [v_engine, engine, if_neg other, u_engine]
    rfl
  · rw [v_point, point, if_neg other, frame]
    rfl
  · rw [others m other, r_station, State.station_modStation_other _ _ _ _ other]
  · rw [v_holder, holder, if_neg other, frame]
    rfl
  · rw [own, r_station, State.station_modStation_self]
  · exact ended'.recordFollows follows
  · rw [bytes a apart]
    exact ended'.outside a outside
  · rw [bytes, byte]
    intro o' record
    refine card_off_record _ _ ?_
    simp only [eventOffset, Bool.or_eq_true, Bool.and_eq_true, decide_eq_true_iff] at record
    omega

end

end Sys2Proof.Machine
end

section
/-! The two terminal bursts: the end of a stopped card, and the end of a written one (05 R103, 10 R187, R188). -/

namespace Sys2Proof.Machine

section
variable {s t u v : State} {n m : StationId} {e : EngineId} {k : CardId}

/-! ## With no card waiting the allocator does nothing -/

theorem allocate_empty (empty : s.waiting = []) : s.allocate = s := by
  have none : s.chooseEntry = .none := by
    unfold State.chooseEntry
    rw [empty]
    rfl
  unfold State.allocate
  split_ifs
  · unfold State.grantAll
    split
    · rename_i some_
      exact absurd (none.symm.trans some_) nofun
    · rfl
  · rfl

/-! ## The fields of a stopped card (05 R103) -/

/-- The profile index as a stopped card has it. -/
def Engine.stoppedIndex (g : Engine) : Option ShelfId := if g.profile.isSome then g.profileIndex else none

theorem writeStopped_byte (wf : Memory.wf s.mem = true) (k : CardId) (g : Engine) (err : ErrorCode) (a : Nat) :
    (s.writeStopped k g err).byte a =
      if cardBase k + 0x22 ≤ a ∧ a < cardBase k + 0x30 then g.tagBytes.getD (a - (cardBase k + 0x22)) 0
      else if cardBase k + 0x17 ≤ a ∧ a < cardBase k + 0x1A then
        [indexByte g.stoppedIndex, BitVec.ofNat 8 g.rounds.valid, BitVec.ofNat 8 g.rounds.attempts].getD
          (a - (cardBase k + 0x17)) 0
      else if cardBase k + 0x10 ≤ a ∧ a < cardBase k + 0x14 then
        ([err.code, Verdict.none.code] ++ halfBytes g.flags).getD (a - (cardBase k + 0x10)) 0
      else s.byte a := by
  have wf1 := State.wf_put (cardBase k + cdError) ([err.code, Verdict.none.code] ++ halfBytes g.flags) wf
  have wf2 := State.wf_put (cardBase k + cdProfileIndex)
    [indexByte g.stoppedIndex, BitVec.ofNat 8 g.rounds.valid, BitVec.ofNat 8 g.rounds.attempts] wf1
  change State.byte (State.put (State.put _ _ [indexByte g.stoppedIndex, _, _]) _ _) a = _
  rw [State.byte_put_getD wf2, State.byte_put_getD wf1, State.byte_put_getD wf, tagBytes_length, List.length_append,
    halfBytes_length]
  simp only [cdError, cdProfileIndex, cdTagRecord, Nat.add_assoc, List.length_cons, List.length_nil]

theorem writeStopped_wf (wf : Memory.wf s.mem = true) (k : CardId) (g : Engine) (err : ErrorCode) :
    Memory.wf (s.writeStopped k g err).mem = true := State.wf_put _ _ (State.wf_put _ _ (State.wf_put _ _ wf))

theorem writeStopped_frame (s : State) (k : CardId) (g : Engine) (err : ErrorCode) :
    s.writeStopped k g err = { s with mem := (s.writeStopped k g err).mem } := rfl

/-- The state in which a stopped card has ended and its station is still held. -/
@[irreducible] def State.stoppedCard (s : State) (k : CardId) (g : Engine) (end_ : ErrorCode × Byte) : State :=
  (s.writeStopped k g end_.1).finishCard k end_.2 g.header.notify

theorem stoppedCard_frame (s : State) (k : CardId) (g : Engine) (end_ : ErrorCode × Byte) :
    s.stoppedCard k g end_ = { s with
      mem := (s.stoppedCard k g end_).mem, regs := s.regs.cardEnded g.header.notify } := by
  unfold State.stoppedCard
  have written := writeStopped_frame s k g end_.1
  generalize s.writeStopped k g end_.1 = u at written ⊢
  have finished := finishCard_frame u k end_.2 g.header.notify
  generalize u.finishCard k end_.2 g.header.notify = v at finished ⊢
  rw [finished, written]

theorem stoppedCard_wf (wf : Memory.wf s.mem = true) (k : CardId) (g : Engine) (end_ : ErrorCode × Byte) :
    Memory.wf (s.stoppedCard k g end_).mem = true := by
  unfold State.stoppedCard
  exact finishCard_wf (writeStopped_wf wf k g end_.1) k _ _

theorem stoppedCard_byte (wf : Memory.wf s.mem = true) (k : CardId) (g : Engine) (end_ : ErrorCode × Byte) (a : Nat) :
    (s.stoppedCard k g end_).byte a =
      if a = cardBase k then end_.2
      else if cardBase k + 0x1E ≤ a ∧ a < cardBase k + 0x22 then
        (longBytes s.tracker.cycles).getD (a - (cardBase k + 0x1E)) 0
      else (s.writeStopped k g end_.1).byte a := by
  unfold State.stoppedCard
  rw [finishCard_byte (writeStopped_wf wf k g end_.1), writeStopped_frame]

theorem endStopped_eq (s : State) (e : EngineId) (j : Job) : s.endStopped e j =
    (s.stoppedCard j.card (s.engine e) (stoppedEnd (s.engine e).stopOutcome)).release e j.station := by
  unfold State.stoppedCard
  rfl

theorem exec_stopTerminalBurst {j : Job} (running : s.inReset = false) (stopped : (s.engine e).phase = .writing .stopped)
    (job : (s.engine e).job = some j) (noReport : (s.engine e).report = none) (echo : Levels) :
    exec (.stopTerminalBurst e echo) s = .next ((s.sampleEcho echo).endStopped e j) := by
  change execStopTerminalBurst e echo s = _
  unfold execStopTerminalBurst
  rw [job]
  simp [State.whenever, running, stopped, noReport]

theorem stoppedCard_ended (wf : Memory.wf s.mem = true) (k : CardId) (e : EngineId) (end_ : ErrorCode × Byte) (echo : Levels) :
    let u := (s.sampleEcho echo).stoppedCard k (s.engine e) end_
    u = { s with pins := { s.pins with echo := echo }, mem := u.mem, regs := u.regs } ∧
    CardEnded s u k (s.engine e).header.notify := by
  have frame := stoppedCard_frame (s.sampleEcho echo) k (s.engine e) end_
  have byte := stoppedCard_byte (s := s.sampleEcho echo) wf k (s.engine e) end_
  have wf' := stoppedCard_wf (s := s.sampleEcho echo) wf k (s.engine e) end_
  generalize (s.sampleEcho echo).stoppedCard k (s.engine e) end_ = u at frame byte wf' ⊢
  refine ⟨?_, ?_, ?_, wf', fun a outside => ?_⟩
  · rw [frame]
    rfl
  · rw [frame]
    rfl
  · rw [frame]
    rfl
  · obtain ⟨status, apart⟩ := outside
    rw [byte, if_neg status, if_neg (by omega), writeStopped_byte (s := s.sampleEcho echo) wf, if_neg (by omega),
      if_neg (by omega), if_neg (by omega)]
    rfl

/-- The release of a station with no deferred setup and no card waiting. -/
theorem release_quiet {j : Job} {echo : Levels}
    (frame : u = { s with pins := { s.pins with echo := echo }, mem := u.mem, regs := u.regs })
    (ended : CardEnded s u j.card (s.engine e).header.notify) (deferred : (s.station j.station).deferred = false) :
    let v := (u.vacated e j.station).holdEnded j.station
    u.release e j.station = v.allocate ∧ s.releasedBy v e j echo ∧
    (∀ o, o < 64 → v.byte (cardBase j.card + o) = u.byte (cardBase j.card + o)) ∧ Memory.wf v.mem = true := by
  obtain ⟨by_, card, wf⟩ := released frame ended
  rw [modStation_id s j.station (by rw [← deferred])] at by_
  refine ⟨?_, by_, card, wf⟩
  have station : (u.vacated e j.station).station j.station = s.station j.station := by
    rw [State.station_eq (s := u) (by rw [vacated_frame])]
    exact State.station_eq (by rw [frame]) _
  rw [release_eq, holdEnd_eq, station, deferred, if_neg (by decide)]

theorem released_waiting {echo : Levels} (frame : u = { s with pins := { s.pins with echo := echo }, mem := u.mem, regs := u.regs })
    (wf : Memory.wf u.mem = true) (e : EngineId) (n : StationId) : ((u.vacated e n).holdEnded n).waiting = s.waiting := by
  have r_frame := vacated_frame u e n
  have mem : (u.vacated e n).mem = u.mem := by rw [r_frame]
  obtain ⟨v_frame, -⟩ := holdEnded_settled (s := u.vacated e n) (by rw [mem]; exact wf) n
  generalize (u.vacated e n).flagRaised _ n = x at v_frame
  rw [v_frame, r_frame, frame]

end

/-- Settles O50: the stopped card's fields are written, then its station is released. -/
theorem stoppedCardEnds : Obligations.StoppedCardEnds := by
  unfold Obligations.StoppedCardEnds
  intro s e j echo wf running stopped job noReport empty deferred g base
  let end_ := stoppedEnd g.stopOutcome
  have done := exec_stopTerminalBurst running stopped job noReport echo
  rw [endStopped_eq] at done
  change exec _ s = .next (((s.sampleEcho echo).stoppedCard j.card g end_).release e j.station) at done
  obtain ⟨frame, ended⟩ := stoppedCard_ended wf j.card e end_ echo
  have byte := stoppedCard_byte (s := s.sampleEcho echo) wf j.card g end_
  have written := writeStopped_byte (s := s.sampleEcho echo) wf j.card g end_.1
  change CardEnded s ((s.sampleEcho echo).stoppedCard j.card g end_) _ _ at ended
  change (s.sampleEcho echo).stoppedCard j.card g end_ = _ at frame
  generalize (s.sampleEcho echo).stoppedCard j.card g end_ = u at done frame ended byte
  obtain ⟨release, by_, card, _⟩ := release_quiet frame ended deferred
  have waiting := (released_waiting frame ended.wf e j.station).trans empty
  rw [release, allocate_empty waiting] at done
  generalize (u.vacated e j.station).holdEnded j.station = t at done by_ card
  have result {o : Nat} (first : 0 < o) (small : o < 64) (noStamp : o < 0x1E ∨ 0x22 ≤ o) :
      t.byte (base + o) = ((s.sampleEcho echo).writeStopped j.card g end_.1).byte (base + o) := by
    rw [card o small, byte, if_neg (by omega), if_neg (by omega)]
  have status : t.cardStatus j.card = end_.2 := (card 0 (by omega)).trans ((byte _).trans (if_pos rfl))
  have head {o : Nat} (small : o < 4) : t.byte (base + 0x10 + o) =
      ([end_.1.code, Verdict.none.code] ++ halfBytes g.flags).getD o 0 := by
    rw [Nat.add_assoc, result (by omega) (by omega) (by omega), written, if_neg (by omega), if_neg (by omega), if_pos (by omega),
      show base + (0x10 + o) - (cardBase j.card + 0x10) = o by omega]
  have counts {o : Nat} (small : o < 3) : t.byte (base + 0x17 + o) =
      [indexByte g.stoppedIndex, BitVec.ofNat 8 g.rounds.valid, BitVec.ofNat 8 g.rounds.attempts].getD o 0 := by
    rw [Nat.add_assoc, result (by omega) (by omega) (by omega), written, if_neg (by omega), if_pos (by omega),
      show base + (0x17 + o) - (cardBase j.card + 0x17) = o by omega]
  refine ⟨t, done, by_, fun cancelled => ?_, fun l lost => ?_, head (o := 1) (by omega),
    State.half_of_bytes (head (o := 2) (by omega)) (head (o := 3) (by omega)), (counts (o := 0) (by omega)).trans ?_,
    counts (o := 1) (by omega), counts (o := 2) (by omega), State.long_of_bytes fun i small => ?_, fun i small => ?_,
    fun o kept => ?_⟩
  · have cause : end_ = (.none, 0x06) := by
      change stoppedEnd g.stopOutcome = _
      rw [cancelled]
      rfl
    rw [status, show t.byte (base + 0x10) = _ from head (o := 0) (by omega), cause]
    exact ⟨rfl, rfl⟩
  · have cause : end_ = (l.error, 0x05) := by
      change stoppedEnd g.stopOutcome = _
      rw [lost]
      rfl
    rw [status, show t.byte (base + 0x10) = _ from head (o := 0) (by omega), cause]
    refine ⟨rfl, ?_⟩
    cases l <;> rfl
  · unfold Engine.stoppedIndex
    cases g.profile <;> rfl
  · rw [Nat.add_assoc, card _ (by omega), byte, if_neg (by omega), if_pos (by omega),
      show base + (0x1E + i) - (cardBase j.card + 0x1E) = i by omega, List.getD_eq_getElem _ _ (by rwa [longBytes_length])]
    rfl
  · rw [Nat.add_assoc, result (by omega) (by omega) (by omega), written, if_pos (by omega),
      show base + (0x22 + i) - (cardBase j.card + 0x22) = i by omega, tagBytes_getD g small]
  · rw [result (by omega) (by omega) (by omega), written, if_neg (by omega), if_neg (by omega), if_neg (by omega)]
    rfl

end Sys2Proof.Machine
end

section
/-! Setup acted on: enable, roster, policy, restart mode and arcs of one station (03 R47 to R50, R63). -/

namespace Sys2Proof.Machine

/-! ## What differs between two setups (03 Table 3-2) -/

abbrev Setup.goesOff (old new : Setup) : Prop := old.enabled = true ∧ new.enabled = false
abbrev Setup.goesOn (old new : Setup) : Prop := old.enabled = false ∧ new.enabled = true
abbrev Setup.rosterMoves (held : Bool) (old new : Setup) : Prop :=
  held = false ∧ (old.rosterCount ≠ new.rosterCount ∨ old.roster ≠ new.roster)
abbrev Setup.slotMoves (old new : Setup) (p : SlotId) : Prop :=
  old.activeAt p ≠ new.activeAt p ∨ (old.activeAt p = true ∧ old.roster[p.val] ≠ new.roster[p.val])

theorem rosterDiffers_iff (old new : Setup) :
    rosterDiffers old new = true ↔ old.rosterCount ≠ new.rosterCount ∨ old.roster ≠ new.roster := by
  simp [rosterDiffers]

theorem rosterPositionChanged_iff (old new : Setup) (p : SlotId) :
    rosterPositionChanged old new p = true ↔ old.slotMoves new p := by
  simp [rosterPositionChanged]

/-- The setup with the new enable, and the new roster while the station is not held. -/
def Setup.rostered (old new : Setup) (held : Bool) : Setup := { old with
  enabled := new.enabled
  rosterCount := if held then old.rosterCount else new.rosterCount
  roster := if held then old.roster else new.roster }

section
variable {s t u v : State} {n m : StationId}

/-! ## Events that change a station and reset slots -/

theorem slots_settled (wf : Memory.wf s.mem = true) (n : StationId) (f : Station → Station) {ps : List SlotId}
    (distinct : ps.Nodup) :
    let t := s.stationEvent n fun s => (s.modStation n f).resetSlots n ps
    t = { s with mem := t.mem, stations := t.stations, regs := s.flagRaised t n } ∧
    t.station n = { f (s.station n) with permit := (t.station n).permit } ∧
    (∀ m, m ≠ n → t.station m = s.station m) ∧ s.recordFollows t n ∧
    (∀ o, 0x11 ≤ o → o < 0x14 → t.byte (stationBase n + o) = s.byte (stationBase n + o)) ∧
    (∀ p, t.slotCell n p = if p ∈ ps then
        (SlotFields.cleared, if s.readSlot n p = SlotFields.cleared then s.long (slotBase n p + 0x10) else s.tracker.cycles)
      else s.slotCell n p) ∧
    (∀ a, (∀ o, (eventOffset o = true ∨ slotOffset o = true) → a ≠ stationBase n + o) → t.byte a = s.byte a) ∧
    Memory.wf t.mem = true := by
  intro t
  have acted := modStation_acted wf n f
  have slots := resetSlots_onSlots (s := s.modStation n f) wf n ps
  have cells := fun q => resetSlots_cell (s := s.modStation n f) (n := n) wf distinct q
  have settled : Settled s ((s.modStation n f).resetSlots n ps) t n := (acted.onSlots slots).settled
  generalize t = t at settled ⊢
  generalize (s.modStation n f).resetSlots n ps = u at slots cells settled
  have station (m : StationId) : u.station m = (s.modStation n f).station m := State.station_eq (by rw [slots.frame]) m
  have cell (p : SlotId) : t.slotCell n p = u.slotCell n p := by
    refine slotCell_congr fun i small => ?_
    rw [settled.bytes] <;> simp only [slotBase] <;> omega
  refine ⟨?_, ?_, fun m other => ?_, settled.record, fun o low high => ?_, fun p => ?_, fun a apart => ?_, settled.wf⟩
  · refine settled.frame.trans ?_
    rw [slots.frame]
    rfl
  · rw [settled.own, station, State.station_modStation_self]
  · rw [settled.others m other, station, State.station_modStation_other _ _ _ _ other]
  · rw [settled.bytes _ (by omega) (by omega), slots.bytes _ fun i slot => ?_]
    · rfl
    · simp only [slotOffset, Bool.and_eq_true, decide_eq_true_iff] at slot
      omega
  · rw [cell, cells]
    rfl
  · rw [settled.mem_apart fun o' event => apart o' (.inl event), slots.bytes a fun o' slot => apart o' (.inr slot)]
    rfl

/-- An event after another that leaves the key of the record. -/
theorem State.recordFollows.then_same (first : s.recordFollows u n) (second : u.recordFollows t n)
    (key : t.recordKey n = u.recordKey n) : s.recordFollows t n := by
  obtain ⟨_, _, moved⟩ := first
  obtain ⟨code, permit, still⟩ := second
  rw [if_pos key] at still
  obtain ⟨stamp, flag⟩ := still
  refine ⟨code, permit, ?_⟩
  rw [key, stamp, flag]
  exact moved

/-! ## Enable and roster (03 R48, R49) -/

/-- What enable and roster of a new setup have made of a station. -/
structure Evented (s u : State) (n : StationId) (new : Setup) (held : Bool) : Prop where
  frame : u = { s with
    mem := u.mem, stations := u.stations, engines := u.engines, regs := s.flagRaised u n
    notices := s.notices ++ (if (s.station n).setup.goesOff new then [{ station := n, event := .disabled }] else []) ++
      (if (s.station n).setup.rosterMoves held new then [{ station := n, event := .rosterChanged }] else []) }
  own : u.station n = { s.station n with
    setup := (s.station n).setup.rostered new held
    present := if (s.station n).setup.goesOff new ∨ (s.station n).setup.goesOn new then false else (s.station n).present
    count := if (s.station n).setup.goesOff new ∨ (s.station n).setup.goesOn new then 0 else (s.station n).count
    due := if (s.station n).setup.goesOff new ∨ (s.station n).setup.goesOn new then false else (s.station n).due
    lossMark := if (s.station n).setup.goesOff new ∧ s.held n = true ∧ (s.station n).lossMark = none then some .stationOff
      else (s.station n).lossMark
    heldPermit := if (s.station n).setup.goesOff new ∧ s.held n = true then (s.station n).setup.advise
      else (s.station n).heldPermit
    permit := (u.station n).permit }
  others : ∀ m, m ≠ n → u.station m = s.station m
  moved : (s.station n).setup.goesOff new ∨ (s.station n).setup.goesOn new ∨ (s.station n).setup.rosterMoves held new →
    s.recordFollows u n
  still : ¬((s.station n).setup.goesOff new ∨ (s.station n).setup.goesOn new ∨ (s.station n).setup.rosterMoves held new) →
    u = s
  slots : ∀ p, u.slotCell n p =
    if (s.station n).setup.goesOff new ∨ ((s.station n).setup.rosterMoves held new ∧ (s.station n).setup.slotMoves new p) then
      (SlotFields.cleared, if s.readSlot n p = SlotFields.cleared then s.long (slotBase n p + 0x10) else s.tracker.cycles)
    else s.slotCell n p
  engine : ∀ e, u.engine e = if (s.station n).setup.goesOff new ∧ s.holder n = some e then
      { s.engine e with stops := (s.engine e).stops ++ [.disable n] }
    else s.engine e
  bytes : ∀ a, (∀ o, (eventOffset o = true ∨ slotOffset o = true) → a ≠ stationBase n + o) → u.byte a = s.byte a
  wf : Memory.wf u.mem = true

theorem disableStation_eq (s : State) (n : StationId) :
    s.disableStation n = (s.stationEvent n fun s =>
      ((s.recorded n (fun t => { t with
        setup := { t.setup with enabled := false }, present := false, count := 0, due := false }) 0x11 0).resetSlots n
        allSlots).refreshHeldPermit n).lose n (.disable n) .stationOff .disabled := by
  unfold State.recorded
  rfl

theorem enableStation_eq (s : State) (n : StationId) :
    s.enableStation n = s.stationEvent n fun s => (s.modStation n fun t => { t with
      setup := { t.setup with enabled := true }, present := false, count := 0, due := false }).resetSlots n [] := rfl

theorem changeRoster_eq (s : State) (n : StationId) (new : Setup) :
    s.changeRoster n new = (s.stationEvent n fun u => (u.modStation n fun t => { t with
      setup := { t.setup with rosterCount := new.rosterCount, roster := new.roster } }).resetSlots n
      (allSlots.filter (rosterPositionChanged (s.station n).setup new))).tellList n .rosterChanged := rfl

/-- An enable that goes to disabled. -/
theorem disable_evented (wf : Memory.wf s.mem = true) {new : Setup} (off : (s.station n).setup.goesOff new) :
    Evented s (s.disableStation n) n new true := by
  rw [disableStation_eq]
  obtain ⟨frame, own, others, -, -, follows, cells, bytes, wf'⟩ := cleared_settled wf n
    (fun t => { t with setup := { t.setup with enabled := false }, present := false, count := 0, due := false }) 0
    (o := 0x11) (.inl rfl)
  generalize (s.stationEvent n _) = t at frame own others follows cells bytes wf' ⊢
  obtain ⟨was, now⟩ := off
  have off : (s.station n).setup.goesOff new := ⟨was, now⟩
  have noRoster : ¬(s.station n).setup.rosterMoves true new := fun moves => absurd moves.1 (by decide)
  have held : t.held n = s.held n := by rw [frame]; rfl
  have holder : t.holder n = s.holder n := by rw [frame]; rfl
  have engine (e : EngineId) : t.engine e = s.engine e := State.engine_eq (by rw [frame]) e
  have lost := lose_frame t n (.disable n) .stationOff .disabled
  have mem : (t.lose n (.disable n) .stationOff .disabled).mem = t.mem := by rw [lost]
  have byte := State.byte_congr mem
  have permit : ((t.lose n (.disable n) .stationOff .disabled).station n).permit = (t.station n).permit := by
    rw [lose_station, if_pos rfl]
  refine ⟨?_, ?_, fun m other => ?_, fun _ => ?_, fun none => absurd (.inl off) none, fun p => ?_, fun e => ?_,
    fun a apart => ?_, by rw [mem]; exact wf'⟩
  · rw [if_pos off, if_neg noRoster, List.append_nil, State.flagRaised_congr mem, lost]
    generalize s.flagRaised t n = r at frame
    rw [frame]
  · rw [permit, lose_station, if_pos rfl, held, own]
    simp only [eq_true off, true_and, true_or, Setup.rostered, now, if_true]
  · rw [lose_station, if_neg other, others m other]
  · exact follows.of_same (lose_permit t n _ _ _ n) mem
  · rw [if_pos (.inl off)]
    exact (slotCell_congr fun _ _ => byte _).trans (cells p)
  · rw [lose_engine, holder, engine]
    simp only [eq_true off, true_and]
  · rw [byte, bytes a apart]

/-- An enable that goes to enabled. -/
theorem enable_evented (wf : Memory.wf s.mem = true) {new : Setup} (on : (s.station n).setup.goesOn new) :
    Evented s (s.enableStation n) n new true := by
  rw [enableStation_eq]
  obtain ⟨frame, own, others, follows, -, cells, bytes, wf'⟩ := slots_settled wf n
    (fun t => { t with setup := { t.setup with enabled := true }, present := false, count := 0, due := false }) (ps := [])
    List.nodup_nil
  generalize (s.stationEvent n _) = t at frame own others follows cells bytes wf' ⊢
  obtain ⟨was, now⟩ := on
  have on : (s.station n).setup.goesOn new := ⟨was, now⟩
  have notOff : ¬(s.station n).setup.goesOff new := fun off => absurd (was.symm.trans off.1) (by decide)
  have noRoster : ¬(s.station n).setup.rosterMoves true new := fun moves => absurd moves.1 (by decide)
  refine ⟨?_, ?_, others, fun _ => follows, fun none => absurd (.inr (.inl on)) none, fun p => ?_, fun e => ?_, bytes, wf'⟩
  · rw [if_neg notOff, if_neg noRoster, List.append_nil, List.append_nil]
    generalize s.flagRaised t n = r at frame ⊢
    rw [frame]
  · rw [own, if_pos (.inr on), if_pos (.inr on), if_pos (.inr on), if_neg fun h => notOff h.1, if_neg fun h => notOff h.1]
    simp only [Setup.rostered, now, if_true]
  · rw [cells, if_neg List.not_mem_nil, if_neg fun h => h.elim notOff fun h => noRoster h.1]
  · rw [if_neg fun h => notOff h.1]
    exact State.engine_eq (by rw [frame]) e

/-- The station with its enable acted on. -/
def State.switched (s : State) (n : StationId) (new : Setup) : State :=
  if (s.station n).setup.enabled && !new.enabled then s.disableStation n
  else if !(s.station n).setup.enabled && new.enabled then s.enableStation n else s

theorem switched_evented (wf : Memory.wf s.mem = true) (n : StationId) (new : Setup) :
    Evented s (s.switched n new) n new true := by
  have off_iff : ((s.station n).setup.enabled && !new.enabled) = true ↔ (s.station n).setup.goesOff new := by
    simp [Setup.goesOff]
  have on_iff : (!(s.station n).setup.enabled && new.enabled) = true ↔ (s.station n).setup.goesOn new := by
    simp [Setup.goesOn]
  unfold State.switched
  by_cases off : (s.station n).setup.goesOff new
  · rw [if_pos (off_iff.mpr off)]
    exact disable_evented wf off
  · rw [if_neg (mt off_iff.mp off)]
    by_cases on : (s.station n).setup.goesOn new
    · rw [if_pos (on_iff.mpr on)]
      exact enable_evented wf on
    · rw [if_neg (mt on_iff.mp on)]
      have noRoster : ¬(s.station n).setup.rosterMoves true new := fun moves => absurd moves.1 (by decide)
      have none : ¬((s.station n).setup.goesOff new ∨ (s.station n).setup.goesOn new) := not_or.mpr ⟨off, on⟩
      have enabled : (s.station n).setup.enabled = new.enabled := by
        unfold Setup.goesOff Setup.goesOn at none
        revert none
        cases (s.station n).setup.enabled <;> cases new.enabled <;> simp
      have same : s.flagRaised s n = s.regs := if_pos (.inl rfl)
      refine ⟨?_, ?_, fun _ _ => rfl, fun some_ => absurd some_ (by rw [← or_assoc]; exact not_or.mpr ⟨none, noRoster⟩),
        fun _ => rfl, fun p => ?_, fun e => ?_, fun _ _ => rfl, wf⟩
      · rw [if_neg off, if_neg noRoster, List.append_nil, List.append_nil, same]
      · rw [if_neg none, if_neg none, if_neg none, if_neg fun h => off h.1, if_neg fun h => off h.1]
        unfold Setup.rostered
        rw [← enabled]
        rfl
      · rw [if_neg fun h => h.elim off fun h => noRoster h.1]
      · rw [if_neg fun h => off h.1]

/-! ### A changed roster after the enable -/

/-- OFF, FAULT and EMPTY do not turn on the roster or on the slots (03 R54). -/
theorem derived_of_lost {h : Bool} (configured : t.configured = s.configured)
    (enabled : (t.station n).setup.enabled = (s.station n).setup.enabled) (fault : (t.station n).fault = (s.station n).fault)
    (present : (t.station n).present = false) (before : (s.station n).present = false) :
    t.derived n h = s.derived n h := by
  simp only [State.derived]
  rw [configured, enabled, fault, present, before]
  cases (s.configured && (s.station n).setup.enabled)
  · rfl
  · cases (s.station n).fault <;> rfl

/-- What an event at a station with nothing present keeps of the key of its record. -/
theorem State.recordFollows.key_of_absent (first : s.recordFollows u n) (second : u.recordFollows t n)
    (derived : t.derived n (t.held n) = u.derived n (u.held n))
    (kept : ∀ o, 0x11 ≤ o → o < 0x14 → t.byte (stationBase n + o) = u.byte (stationBase n + o)) :
    t.recordKey n = u.recordKey n := by
  have code : t.byte (stationBase n + stState) = u.byte (stationBase n + stState) := by rw [second.1, derived, first.1]
  rw [State.recordKey, State.recordKey, code, kept stPresent (by decide) (by decide),
    kept stFaultCause (by decide) (by decide)]

theorem State.flagRaised_trans (first : u.regs = s.flagRaised u n) (key : t.recordKey n = u.recordKey n) :
    u.flagRaised t n = s.flagRaised t n := by
  rw [State.flagRaised, if_pos (.inl key), first]
  unfold State.flagRaised
  rw [key]

theorem Evented.regs {new : Setup} {held : Bool} (h : Evented s u n new held) : u.regs = s.flagRaised u n := by
  have frame := h.frame
  generalize s.flagRaised u n = r at frame ⊢
  rw [frame]

theorem Evented.tracker {new : Setup} {held : Bool} (h : Evented s u n new held) : u.tracker = s.tracker := by
  rw [h.frame]

theorem Evented.held {new : Setup} {held : Bool} (h : Evented s u n new held) : u.held n = s.held n := by
  have holds : u.holds = s.holds := by rw [h.frame]
  simp only [State.held, State.holder, holds]

theorem Evented.configured {new : Setup} {held : Bool} (h : Evented s u n new held) : u.configured = s.configured := by
  rw [State.configured, h.regs, flagRaised_snapshot]
  rfl

theorem changeRoster_evented {new : Setup} (h : Evented s u n new true)
    (differs : (s.station n).setup.rosterCount ≠ new.rosterCount ∨ (s.station n).setup.roster ≠ new.roster) :
    Evented s (u.changeRoster n new) n new false := by
  have roster : (s.station n).setup.rosterMoves false new := ⟨rfl, differs⟩
  have noRoster : ¬(s.station n).setup.rosterMoves true new := fun moves => absurd moves.1 (by decide)
  have setup : (u.station n).setup = (s.station n).setup.rostered new true := by rw [h.own]
  rw [changeRoster_eq]
  have events := slots_settled h.wf n
    (fun t => { t with setup := { t.setup with rosterCount := new.rosterCount, roster := new.roster } })
    (allSlots_nodup.filter (rosterPositionChanged (u.station n).setup new))
  generalize (u.stationEvent n _) = t at events ⊢
  obtain ⟨frame, own, others, follows, kept, cells, bytes, wf⟩ := events
  have regs : t.regs = u.flagRaised t n := by
    generalize u.flagRaised t n = r at frame ⊢
    rw [frame]
  have listed (p : SlotId) : p ∈ allSlots.filter (rosterPositionChanged (u.station n).setup new) ↔
      (s.station n).setup.slotMoves new p := by
    rw [List.mem_filter, and_iff_right (mem_allSlots p), rosterPositionChanged_iff, setup]
    rfl
  have still (a : ¬((s.station n).setup.goesOff new ∨ (s.station n).setup.goesOn new)) : u = s :=
    h.still fun moves => moves.elim (fun off => a (.inl off)) fun moves => moves.elim (fun on => a (.inr on)) noRoster
  have joined : s.recordFollows t n ∧ u.flagRaised t n = s.flagRaised t n := by
    by_cases switched : (s.station n).setup.goesOff new ∨ (s.station n).setup.goesOn new
    · have first := h.moved (switched.imp id .inl)
      have absent : (u.station n).present = false := by rw [h.own, if_pos switched]
      have held : t.held n = u.held n := by rw [frame]; rfl
      have configured : t.configured = u.configured := by
        rw [State.configured, regs, flagRaised_snapshot]
        rfl
      have key := first.key_of_absent follows
        ((congrArg _ held).trans (derived_of_lost configured (by rw [own]) (by rw [own]) (by rw [own]; exact absent) absent)) kept
      exact ⟨first.then_same follows key, State.flagRaised_trans h.regs key⟩
    · have same := still switched
      subst same
      exact ⟨follows, rfl⟩
  refine ⟨?_, ?_, fun m other => (others m other).trans (h.others m other), fun _ => joined.1,
    fun none => absurd (.inr (.inr roster)) none, fun p => ?_, fun e => ?_,
    fun a apart => (bytes a apart).trans (h.bytes a apart), wf⟩
  · rw [if_pos roster]
    have before := h.frame
    rw [if_neg noRoster, List.append_nil] at before
    rw [State.flagRaised_congr (show (t.tellList n .rosterChanged).mem = t.mem from rfl), ← joined.2]
    generalize u.flagRaised t n = r at frame ⊢
    generalize s.flagRaised u n = r' at before
    rw [frame, before]
    rfl
  · change t.station n = _
    rw [own]
    dsimp only
    rw [h.own]
    rfl
  · have cell := h.slots p
    rw [if_congr (or_iff_left fun h => noRoster h.1) rfl rfl] at cell
    refine (cells p).trans ?_
    by_cases moves : (s.station n).setup.slotMoves new p
    · rw [if_pos ((listed p).mpr moves), if_pos (c := _ ∨ _) (.inr ⟨roster, moves⟩), h.tracker]
      have read : u.readSlot n p = _ := congrArg Prod.fst cell
      have stamp : u.long (slotBase n p + 0x10) = _ := congrArg Prod.snd cell
      rw [read, stamp]
      by_cases off : (s.station n).setup.goesOff new
      · rw [if_pos off, if_pos rfl]
      · rw [if_neg off]
        rfl
    · rw [if_neg (mt (listed p).mp moves), cell]
      exact if_congr (or_iff_left fun h => moves h.2).symm rfl rfl
  · rw [← h.engine]
    exact State.engine_eq (by rw [frame]; rfl) e

/-- The station with its enable and its roster acted on. -/
def State.rostered (s : State) (n : StationId) (new : Setup) (held : Bool) : State :=
  if held then s.switched n new
  else if rosterDiffers (s.station n).setup new then (s.switched n new).changeRoster n new else s.switched n new

theorem rostered_evented (wf : Memory.wf s.mem = true) (n : StationId) (new : Setup) (held : Bool) :
    Evented s (s.rostered n new held) n new held := by
  have h := switched_evented wf n new
  unfold State.rostered
  cases held
  · rw [if_neg (by decide)]
    by_cases differs : rosterDiffers (s.station n).setup new = true
    · rw [if_pos differs]
      exact changeRoster_evented h ((rosterDiffers_iff _ _).mp differs)
    · rw [if_neg differs]
      rw [rosterDiffers_iff, not_or, not_not, not_not] at differs
      obtain ⟨count, roster⟩ := differs
      have still (b : Bool) : ¬(s.station n).setup.rosterMoves b new := fun moves =>
        moves.2.elim (fun h => h count) fun h => h roster
      have setup : (s.station n).setup.rostered new false = (s.station n).setup.rostered new true := by
        simp only [Setup.rostered, count, roster, ite_self]
      have rostered : (s.station n).setup.rosterMoves false new ↔ (s.station n).setup.rosterMoves true new :=
        iff_of_false (still _) (still _)
      obtain ⟨frame, own, others, moved, unmoved, slots, engine, bytes, wf⟩ := h
      refine ⟨?_, ?_, others, ?_, ?_, fun p => ?_, engine, bytes, wf⟩
      · rw [if_neg (still true)] at frame
        rwa [if_neg (still false)]
      · rw [setup]
        exact own
      · rwa [rostered]
      · rwa [rostered]
      · rw [slots]
        exact if_congr (or_congr_right (and_congr_left fun _ => rostered.symm)) rfl rfl
  · rw [if_pos rfl]
    exact h

/-! ## Policy, restart mode and arcs (03 R47, R63) -/

theorem modStation_congr {f g : Station → Station} (same : f (s.station n) = g (s.station n)) :
    s.modStation n f = s.modStation n g := by
  unfold State.modStation
  rw [same]

theorem modStation_modStation (s : State) (n : StationId) (f g : Station → Station) :
    (s.modStation n f).modStation n g = s.modStation n fun x => g (f x) := by
  have own : (s.modStation n f).station n = f (s.station n) := State.station_modStation_self _ _ _
  unfold State.modStation at own ⊢
  rw [own]
  simp only [Vector.set_set]

/-- The station with policy, restart mode and arcs of a new setup. -/
def Station.setUp (x : Station) (old new : Setup) (held permit : Bool) : Station := { x with
  setup := { x.setup with
    advise := if held then x.setup.advise else new.advise
    auto := new.auto, arcStart := new.arcStart, arcEnd := new.arcEnd }
  recheck := if old.auto = new.auto then x.recheck
    else if new.auto = true ∧ x.fault = true then some 100 else none
  permit := permit }

/-- The permit after a change of policy (03 Table 3-4). -/
def State.policyPermit (u : State) (n : StationId) (old new : Setup) (held : Bool) : Bool :=
  if held = false ∧ old.advise ≠ new.advise then permitOf (u.derived n (u.held n)) new.advise (u.station n).heldPermit
  else (u.station n).permit

/-- The part with policy, restart mode and arcs of station n acted on. -/
def State.setUp (u : State) (n : StationId) (old new : Setup) (held : Bool) : State :=
  u.modStation n fun x => x.setUp old new held (u.policyPermit n old new held)

theorem changePolicy_eq (u : State) (n : StationId) (advise : Bool) :
    u.changePolicy n advise = u.modStation n fun x => { x with
      setup := { x.setup with advise := advise }
      permit := permitOf (u.derived n (u.held n)) advise (u.station n).heldPermit } := by
  unfold State.changePolicy State.evaluatePermit
  rw [modStation_modStation]
  refine modStation_congr ?_
  have own : (u.modStation n fun t => { t with setup := { t.setup with advise := advise } }).station n = _ :=
    State.station_modStation_self _ _ _
  have derived : (u.modStation n fun t => { t with setup := { t.setup with advise := advise } }).derived n (u.held n) =
      u.derived n (u.held n) := by
    unfold State.derived
    rw [own]
    rfl
  exact congrArg (fun d => ({ u.station n with
    setup := { (u.station n).setup with advise := advise }, permit := permitOf d advise (u.station n).heldPermit } : Station))
    derived

/-- Policy, restart mode and arcs acted on, as far as they differ. -/
theorem setUp_eq {old new : Setup} {held : Bool} (advise : (u.station n).setup.advise = old.advise)
    (auto : (u.station n).setup.auto = old.auto) (arcStart : (u.station n).setup.arcStart = old.arcStart)
    (arcEnd : (u.station n).setup.arcEnd = old.arcEnd) :
    (let s3 := if held then u else if old.advise ≠ new.advise then u.changePolicy n new.advise else u
     let s4 := if old.auto ≠ new.auto then s3.changeRestart n new.auto else s3
     if old.arcStart ≠ new.arcStart ∨ old.arcEnd ≠ new.arcEnd then s4.changeArcs n new.arcStart new.arcEnd else s4) =
    if old.arcStart ≠ new.arcStart ∨ old.arcEnd ≠ new.arcEnd then
      match u.holder n with
      | some e => (u.setUp n old new held).judgeQuestion e
      | none => u.setUp n old new held
    else u.setUp n old new held := by
  have permit_same (same : ¬(held = false ∧ old.advise ≠ new.advise)) : u.policyPermit n old new held = (u.station n).permit :=
    if_neg same
  have third : (if held then u else if old.advise ≠ new.advise then u.changePolicy n new.advise else u) =
      u.modStation n fun x => { x with
        setup := { x.setup with advise := if held then x.setup.advise else new.advise }
        permit := u.policyPermit n old new held } := by
    cases held
    · rw [if_neg (by decide)]
      by_cases same : old.advise = new.advise
      · rw [if_neg (not_not.mpr same), permit_same fun h => h.2 same]
        refine (modStation_id u n ?_).symm
        rw [if_neg (by decide), ← same, ← advise]
      · rw [if_pos same, changePolicy_eq]
        refine modStation_congr ?_
        rw [if_neg (by decide), State.policyPermit, if_pos ⟨rfl, same⟩]
    · rw [if_pos rfl, permit_same fun h => absurd h.1 (by decide)]
      exact (modStation_id u n rfl).symm
  have fourth (f : Station → Station) (kept : (f (u.station n)).setup.auto = old.auto) :
      (if old.auto ≠ new.auto then (u.modStation n f).changeRestart n new.auto else u.modStation n f) =
      u.modStation n fun x => { f x with
        setup := { (f x).setup with auto := new.auto }
        recheck := if old.auto = new.auto then (f x).recheck
          else if new.auto = true ∧ (f x).fault = true then some 100 else none } := by
    by_cases same : old.auto = new.auto
    · rw [if_neg (not_not.mpr same)]
      refine modStation_congr ?_
      rw [if_pos same, ← same, ← kept]
    · rw [if_pos same, State.changeRestart, modStation_modStation]
      refine modStation_congr ?_
      rw [if_neg same]
      simp only [Bool.and_eq_true]
      rfl
  dsimp only
  rw [third, fourth _ auto]
  by_cases arcs : old.arcStart ≠ new.arcStart ∨ old.arcEnd ≠ new.arcEnd
  · rw [if_pos arcs, if_pos arcs, State.changeArcs, modStation_modStation]
    rfl
  · rw [if_neg arcs, if_neg arcs]
    rw [not_or, not_not, not_not] at arcs
    obtain ⟨start, stop⟩ := arcs
    refine modStation_congr ?_
    unfold Station.setUp
    rw [← start, ← stop, ← arcStart, ← arcEnd]

/-! ## The notice served whole (03 R47, R50) -/

/-- The holder's question judged after changed arcs. -/
def State.arcsJudged (v : State) (n : StationId) (old new : Setup) : State :=
  if old.arcStart ≠ new.arcStart ∨ old.arcEnd ≠ new.arcEnd then
    match v.holder n with
    | some e => v.judgeQuestion e
    | none => v
  else v

/-- A setup notice as its parts: enable and roster, then the station's own values, then the holder's question. -/
theorem setupNotice_eq (wf : Memory.wf s.mem = true) (on : s.configured = true) (n : StationId) :
    s.setupNotice n =
      ((((s.rostered n (s.readSetup n) (s.held n)).setUp n (s.station n).setup (s.readSetup n) (s.held n)).arcsJudged n
        (s.station n).setup (s.readSetup n)).modStation n fun x => { x with deferred := s.held n || x.deferred }) := by
  have evented := rostered_evented wf n (s.readSetup n) (s.held n)
  have acted : s.actOnSetup n (s.readSetup n) (s.held n) =
      ((s.rostered n (s.readSetup n) (s.held n)).setUp n (s.station n).setup (s.readSetup n) (s.held n)).arcsJudged n
        (s.station n).setup (s.readSetup n) :=
    setUp_eq (u := s.rostered n (s.readSetup n) (s.held n)) (by rw [evented.own]; rfl) (by rw [evented.own]; rfl)
      (by rw [evented.own]; rfl) (by rw [evented.own]; rfl)
  unfold State.setupNotice
  rw [on, if_neg (by decide)]
  dsimp only
  rw [acted]
  cases s.held n
  · exact (modStation_id _ n rfl).symm
  · rfl

theorem arcsJudged_within (v : State) (n : StationId) (old new : Setup) : Within v (v.arcsJudged n old new) := by
  unfold State.arcsJudged
  split
  · split
    · exact (judgeQuestion_onEngine (OnEngine.refl _ v)).rest
    · exact .refl v
  · exact .refl v

theorem arcsJudged_other (v : State) (n : StationId) (old new : Setup) {e : EngineId} (other : v.holder n ≠ some e) :
    (v.arcsJudged n old new).engine e = v.engine e ∧ (v.arcsJudged n old new).question e = v.question e ∧
    (v.arcsJudged n old new).watch e = v.watch e := by
  unfold State.arcsJudged
  split
  · split
    · rename_i e' holder
      exact (judgeQuestion_onEngine (OnEngine.refl e' v)).other e fun same => other (same ▸ holder)
    · exact ⟨rfl, rfl, rfl⟩
  · exact ⟨rfl, rfl, rfl⟩

end

end Sys2Proof.Machine
end

section
/-! A setup notice served whole, at a transaction end and at hold end (03 R47 to R50, 10 R186 to R188). -/

namespace Sys2Proof.Machine

section
variable {s t u v w : State} {n m : StationId}

/-! ## The holder's question -/

/-- A question asked for a setup copy is one for every copy with the same arcs. -/
theorem State.asked.of_arcs {e : EngineId} {g : Engine} {x : Work} {c c' : Setup} {q : Question} {snap : Snapshot}
    {p : Profile} {echo : Levels} {before : Option Watch} (h : t.asked e g x n c q snap p echo before)
    (start : c'.arcStart = c.arcStart) (stop : c'.arcEnd = c.arcEnd) : t.asked e g x n c' q snap p echo before := by
  have ground : c'.groundOn t.tracker snap = c.groundOn t.tracker snap := by
    simp only [Setup.groundOn, start, stop]
  have watch (gr : Ground) : c'.watchOn snap n gr = c.watchOn snap n gr := by
    simp only [Setup.watchOn, start, stop]
  unfold State.asked at h ⊢
  rw [ground]
  simp only [watch]
  exact h

theorem arcsJudged_asked {e : EngineId} {old new : Setup} {x : Work} {q : Question} {snap : Snapshot} {p : Profile}
    {echo : Levels} (arcs : old.arcStart ≠ new.arcStart ∨ old.arcEnd ≠ new.arcEnd) (holder : v.holder n = some e)
    (job : (v.engine e).job.map (·.station) = some n) (snapshot : v.regs.snapshot = some snap)
    (phase : (v.engine e).phase = .gating x) (question : v.question e = some q) (running : q.suspended = false)
    (noStop : (v.engine e).stopAtHoldBegin = false) (profile : x = .round → (v.engine e).profile = some p)
    (line : v.pins.echo = echo) (start : (v.station n).setup.arcStart = new.arcStart)
    (stop : (v.station n).setup.arcEnd = new.arcEnd) :
    (v.arcsJudged n old new).asked e (v.engine e) x n new q snap p echo (v.watch e) := by
  obtain ⟨j, mine, at_⟩ := Option.map_eq_some_iff.mp job
  subst at_ line
  unfold State.arcsJudged
  rw [if_pos arcs, holder]
  exact (judgeQuestion_asked ⟨question, running, snapshot, phase, mine, noStop⟩ p profile).of_arcs start.symm stop.symm

theorem arcsJudged_stays {e : EngineId} {old new : Setup} (holder : v.holder n = some e)
    (closed : ¬(old.arcStart ≠ new.arcStart ∨ old.arcEnd ≠ new.arcEnd) ∨ (∀ x, (v.engine e).phase ≠ .gating x) ∨
      v.question e = none ∨ (∃ q, v.question e = some q ∧ q.suspended = true) ∨ (v.engine e).stopAtHoldBegin = true) :
    v.arcsJudged n old new = v := by
  unfold State.arcsJudged
  split
  · rename_i arcs
    rw [holder]
    refine judgeQuestion_stays ?_
    obtain none | other | none | suspended | stop := closed
    · exact absurd arcs none
    · exact .inr (.inr (.inl other))
    · exact .inl none
    · exact .inr (.inl suspended)
    · exact .inr (.inr (.inr stop))
  · rfl

/-! ## The notice -/

/-- The derived state does not turn on policy, restart mode, arcs and the deferral. -/
theorem derived_setUp {old new : Setup} {held permit deferred : Bool} (mem : t.mem = u.mem) (regs : t.regs = u.regs)
    (holds : t.holds = u.holds) (own : t.station n = { (u.station n).setUp old new held permit with deferred := deferred }) :
    t.derived n (t.held n) = u.derived n (u.held n) := by
  have verdict : t.slotVerdict n = u.slotVerdict n := by
    funext p
    exact State.byte_congr mem _
  simp only [State.derived, State.held, State.holder, State.configured]
  rw [own, verdict, regs, holds]
  rfl

/-- What a setup notice leaves of the part, beside the holder's engine, question and watch. -/
theorem acted_of_evented {new : Setup} {held : Bool} {snap : Snapshot} {echo : Levels} (h : Evented s u n new held)
    (mem : t.mem = u.mem) (regs : t.regs = u.regs) (holds : t.holds = u.holds) (notices : t.notices = u.notices)
    (own : t.station n = { (u.station n).setUp (s.station n).setup new held
      (u.policyPermit n (s.station n).setup new held) with deferred := held || (u.station n).deferred })
    (others : ∀ m, m ≠ n → t.station m = u.station m)
    (away : ∀ e, s.holder n ≠ some e → t.engine e = u.engine e ∧ t.question e = u.question e ∧ t.watch e = u.watch e)
    (asked : ∀ e, s.holder n = some e → ∀ x q p,
      (s.station n).setup.arcStart ≠ new.arcStart ∨ (s.station n).setup.arcEnd ≠ new.arcEnd →
      (u.engine e).phase = .gating x → u.question e = some q → q.suspended = false → (u.engine e).stopAtHoldBegin = false →
      (x = .round → (u.engine e).profile = some p) → t.asked e (u.engine e) x n new q snap p echo (u.watch e))
    (stays : ∀ e, s.holder n = some e →
      (¬((s.station n).setup.arcStart ≠ new.arcStart ∨ (s.station n).setup.arcEnd ≠ new.arcEnd) ∨
        (∀ x, (u.engine e).phase ≠ .gating x) ∨ u.question e = none ∨ (∃ q, u.question e = some q ∧ q.suspended = true) ∨
        (u.engine e).stopAtHoldBegin = true) →
      t.engine e = u.engine e ∧ t.question e = u.question e ∧ t.watch e = u.watch e) :
    s.setupActedOn t n new held snap echo := by
  have derived := derived_setUp mem regs holds own
  have byte := State.byte_congr mem
  have key : t.recordKey n = u.recordKey n := by simp only [State.recordKey, byte]
  have question (e : EngineId) : u.question e = s.question e := by
    simp only [State.question, h.tracker]
  have watch (e : EngineId) : u.watch e = s.watch e := by simp only [State.watch, h.tracker]
  have slot (p : SlotId) : t.slotCell n p = u.slotCell n p := slotCell_congr fun _ _ => byte _
  have setup : (t.station n).setup = if held then { new with
      advise := (s.station n).setup.advise, rosterCount := (s.station n).setup.rosterCount
      roster := (s.station n).setup.roster } else new := by
    rw [own]
    dsimp only [Station.setUp]
    rw [h.own]
    cases held <;> rfl
  have permit : (t.station n).permit = u.policyPermit n (s.station n).setup new held := by rw [own]; rfl
  have heldPermit : (t.station n).heldPermit = (u.station n).heldPermit := by rw [own]; rfl
  have advise : held = true ∨ (s.station n).setup.advise = new.advise →
      (t.station n).setup.advise = (u.station n).setup.advise := by
    intro same
    have before : (u.station n).setup.advise = (s.station n).setup.advise := by rw [h.own]; rfl
    rw [setup, before]
    cases held
    · exact (same.resolve_left (by decide)).symm
    · rfl
  refine ⟨setup, ?_, ?_, ?_, ?_, ?_, ?_, ?_, ?_, ?_, fun moved => ?_, fun still => ?_, ?_, fun p => ?_, fun p => ?_,
    fun a apart => (byte a).trans (h.bytes a apart), fun m other => (others m other).trans (h.others m other),
    fun e free => ?_, fun e holder => ?_⟩
  · rw [own, h.own]
  · rw [own]
    dsimp only [Station.setUp]
    rw [h.own]
  · rw [own]
    dsimp only [Station.setUp]
    rw [h.own]
  · rw [own]
    dsimp only [Station.setUp]
    rw [h.own]
  · rw [own]
    dsimp only [Station.setUp]
    rw [h.own]
  · rw [own]
    dsimp only [Station.setUp]
    rw [h.own]
  · rw [own]
    dsimp only [Station.setUp]
    rw [h.own]
  · rw [own]
    dsimp only [Station.setUp]
    rw [h.own]
  · rw [notices, h.frame]
  · obtain ⟨code, given, changed⟩ := h.moved moved
    refine ⟨?_, ?_, ?_⟩
    · rw [byte, derived, code]
    · rw [permit, derived, heldPermit]
      unfold State.policyPermit
      by_cases policy : held = false ∧ (s.station n).setup.advise ≠ new.advise
      · rw [if_pos policy, setup, policy.1, if_neg (by decide)]
      · rw [if_neg policy, given, advise]
        rw [not_and_or, not_not] at policy
        exact policy.imp (fun a => by simpa using a) id
    · rw [key, byte, State.long_congr fun i _ => byte _]
      exact changed
  · have same := h.still still
    subst same
    refine ⟨key, State.long_congr fun i _ => byte _, byte _, ?_⟩
    rw [permit, derived, heldPermit]
    rfl
  · rw [regs, h.regs, State.flagRaised_congr mem]
  · have cell : t.readSlot n p = (u.slotCell n p).1 := congrArg Prod.fst (slot p)
    rw [cell, h.slots p]
    split_ifs <;> rfl
  · have cell : t.readSlot n p = (u.slotCell n p).1 := congrArg Prod.fst (slot p)
    have stamp : t.long (slotBase n p + 0x10) = (u.slotCell n p).2 := congrArg Prod.snd (slot p)
    rw [cell, stamp, h.slots p]
    split
    · exact if_congr eq_comm rfl rfl
    · rw [State.slotCell, if_pos rfl]
  · rw [(away e free).1, (away e free).2.1, (away e free).2.2, h.engine, if_neg fun both => free both.2, question, watch]
    exact ⟨rfl, rfl, rfl⟩
  · have engine : u.engine e = if (s.station n).setup.goesOff new then
        { s.engine e with stops := (s.engine e).stops ++ [.disable n] } else s.engine e :=
      (h.engine e).trans (if_congr (and_iff_left holder) rfl rfl)
    have asks := asked e holder
    have same := stays e holder
    rw [engine, question, watch] at asks same
    exact ⟨fun x q p arcs phase open_ running noStop profile => asks x q p arcs phase open_ running noStop profile, same⟩

/-- A setup notice with the part configured: what it leaves. -/
theorem setupNotice_actedOn {snap : Snapshot} (wf : Memory.wf s.mem = true) (snapshot : s.regs.snapshot = some snap)
    (jobs : ∀ e, s.holder n = some e → (s.engine e).job.map (·.station) = some n) :
    s.setupActedOn (s.setupNotice n) n (s.readSetup n) (s.held n) snap s.pins.echo ∧
    s.setupNotice n = { s with
      stations := (s.setupNotice n).stations, notices := (s.setupNotice n).notices
      engines := (s.setupNotice n).engines, mem := (s.setupNotice n).mem
      regs := s.flagRaised (s.setupNotice n) n
      tracker := { s.tracker with
        questions := (s.setupNotice n).tracker.questions, watches := (s.setupNotice n).tracker.watches } } := by
  have on : s.configured = true := by rw [State.configured, snapshot]; rfl
  have h := rostered_evented wf n (s.readSetup n) (s.held n)
  rw [setupNotice_eq wf on]
  generalize s.readSetup n = new at h ⊢
  generalize s.held n = held at h ⊢
  generalize s.rostered n new held = u at h ⊢
  have regs := h.regs
  have own : (u.setUp n (s.station n).setup new held).station n = _ := State.station_modStation_self _ _ _
  have ownSetup : ((u.setUp n (s.station n).setup new held).station n).setup.arcStart = new.arcStart ∧
      ((u.setUp n (s.station n).setup new held).station n).setup.arcEnd = new.arcEnd := by rw [own]; exact ⟨rfl, rfl⟩
  have rest (m : StationId) (other : m ≠ n) : (u.setUp n (s.station n).setup new held).station m = u.station m :=
    State.station_modStation_other _ _ _ _ other
  have frame : u.setUp n (s.station n).setup new held =
    { u with stations := (u.setUp n (s.station n).setup new held).stations } := rfl
  generalize u.setUp n (s.station n).setup new held = v at own ownSetup rest frame ⊢
  have sameEngine (e : EngineId) : v.engine e = u.engine e := State.engine_eq (by rw [frame]) e
  have sameQuestion (e : EngineId) : v.question e = u.question e := by rw [frame]; rfl
  have sameWatch (e : EngineId) : v.watch e = u.watch e := by rw [frame]; rfl
  have holder : v.holder n = s.holder n := by rw [frame, State.holder, h.frame]; rfl
  have seen : v.regs.snapshot = some snap := by
    rw [show v.regs = u.regs by rw [frame], regs, flagRaised_snapshot, snapshot]
  have line : v.pins.echo = s.pins.echo := by rw [frame, h.frame]
  have job (e : EngineId) (holds : s.holder n = some e) : (v.engine e).job.map (·.station) = some n := by
    rw [sameEngine, h.engine]
    split_ifs <;> exact jobs e holds
  have within := arcsJudged_within v n (s.station n).setup new
  have away (e : EngineId) (free : s.holder n ≠ some e) :=
    arcsJudged_other v n (s.station n).setup new (e := e) (by rw [holder]; exact free)
  have asked (e : EngineId) (holds : s.holder n = some e) (x : Work) (q : Question) (p : Profile)
      (arcs : (s.station n).setup.arcStart ≠ new.arcStart ∨ (s.station n).setup.arcEnd ≠ new.arcEnd)
      (phase : (u.engine e).phase = .gating x) (question : u.question e = some q) (running : q.suspended = false)
      (noStop : (u.engine e).stopAtHoldBegin = false) (profile : x = .round → (u.engine e).profile = some p) :
      (v.arcsJudged n (s.station n).setup new).asked e (u.engine e) x n new q snap p s.pins.echo (u.watch e) := by
    have fact := arcsJudged_asked (p := p) arcs (holder.trans holds) (job e holds) seen (x := x) (q := q)
      (by rw [sameEngine, phase]) (by rw [sameQuestion, question]) running (by rw [sameEngine, noStop])
      (by rw [sameEngine]; exact profile) line ownSetup.1 ownSetup.2
    rwa [sameEngine, sameWatch] at fact
  have stays (e : EngineId) (holds : s.holder n = some e)
      (closed : ¬((s.station n).setup.arcStart ≠ new.arcStart ∨ (s.station n).setup.arcEnd ≠ new.arcEnd) ∨
        (∀ x, (u.engine e).phase ≠ .gating x) ∨ u.question e = none ∨
        (∃ q, u.question e = some q ∧ q.suspended = true) ∨ (u.engine e).stopAtHoldBegin = true) :
      v.arcsJudged n (s.station n).setup new = v :=
    arcsJudged_stays (holder.trans holds) (by rwa [sameEngine, sameQuestion])
  generalize v.arcsJudged n (s.station n).setup new = w at within away asked stays ⊢
  have station : (w.modStation n fun x => { x with deferred := held || x.deferred }).station n = _ :=
    State.station_modStation_self _ _ _
  have others (m : StationId) (other : m ≠ n) :
      (w.modStation n fun x => { x with deferred := held || x.deferred }).station m = w.station m :=
    State.station_modStation_other _ _ _ _ other
  have framed : w.modStation n (fun x => { x with deferred := held || x.deferred }) =
    { w with stations := (w.modStation n fun x => { x with deferred := held || x.deferred }).stations } := rfl
  have mem : w.mem = u.mem := by rw [within.mem, frame]
  have wregs : w.regs = u.regs := by rw [within.regs, frame]
  refine ⟨acted_of_evented (u := u) h mem wregs (by rw [framed, within, frame]) (by rw [framed, within, frame])
    ?_ ?_ (fun e free => ?_) (fun e holds x q p arcs phase question running noStop profile => ?_)
    fun e holds closed => ?_, ?_⟩
  · rw [station, within.station, own]
    rfl
  · intro m other
    rw [others m other, within.station, rest m other]
  · rw [← sameEngine, ← sameQuestion, ← sameWatch]
    exact away e free
  · exact asked e holds x q p arcs phase question running noStop profile
  · rw [← sameEngine, ← sameQuestion, ← sameWatch, ← stays e holds closed]
    exact ⟨rfl, rfl, rfl⟩
  · have flag : s.flagRaised (w.modStation n fun x => { x with deferred := held || x.deferred }) n = w.regs := by
      rw [wregs, regs]
      exact State.flagRaised_congr (u := w.modStation n fun x => { x with deferred := held || x.deferred }) mem n
    rw [flag, framed, within, frame]
    have before := h.frame
    generalize s.flagRaised u n = r at before
    rw [before]

/-! ## Setup at a transaction end -/

/-- Settles O28: enable and roster by the rule of their record, then the station's own values and the holder's question. -/
theorem setupAtTransactionEnd : Obligations.SetupAtTransactionEnd := by
  unfold Obligations.SetupAtTransactionEnd
  intro s echo n snap wf running low taking noCancel one noShelf noPeriod snapshot jobs
  have ran := exec_transactionEnd echo running low taking
  have ended := endTransaction_setup (s := s.deselected echo) noCancel noShelf noPeriod one
  obtain ⟨acted, frame⟩ := setupNotice_actedOn (s := s.deselected echo) (n := n) wf snapshot jobs
  rw [ended] at ran
  generalize (s.deselected echo).setupNotice n = u at acted frame ran
  refine ⟨u, u.over s.port.shifted, ran, ?_, ?_, rfl, over_engine u s.port.shifted⟩
  · exact acted
  · have flag : (s.deselected echo).flagRaised u n =
        { s.regs with causes := ((s.deselected echo).flagRaised u n).causes } := by
      unfold State.flagRaised
      split_ifs <;> rfl
    have regs : u.regs = (s.deselected echo).flagRaised u n := by
      generalize (s.deselected echo).flagRaised u n = r at frame ⊢
      rw [frame]
    rw [← regs] at frame flag
    refine frame.trans ?_
    rw [← flag]
    rfl

end

end Sys2Proof.Machine
end

section
/-! The terminal burst of a card, and setup deferred during its hold (10 R187, R188, 03 R50). -/

namespace Sys2Proof.Machine

section
variable {s t u v : State} {n m : StationId} {e : EngineId} {k : CardId}

/-! ## The card's end -/

/-- The state in which a written card has ended and its station is still held. -/
@[irreducible] def State.endedCard (s : State) (k : CardId) (g : Engine) : State :=
  s.endCard k (statusFor g.terminalError) g.terminalError g.header.notify

theorem exec_terminalBurst {j : Job} (running : s.inReset = false) (phase : (s.engine e).phase = .writing .terminal)
    (job : (s.engine e).job = some j) (echo : Levels) :
    exec (.terminalBurst e echo) s = .next (((s.sampleEcho echo).endedCard j.card (s.engine e)).release e j.station) := by
  change execTerminalBurst e echo s = _
  unfold execTerminalBurst State.endedCard
  rw [job]
  simp only [State.whenever, running, phase]
  rfl

theorem endedCard_byte (wf : Memory.wf s.mem = true) (k : CardId) (g : Engine) (a : Nat) :
    (s.endedCard k g).byte a =
      if a = cardBase k then statusFor g.terminalError
      else if cardBase k + 0x1E ≤ a ∧ a < cardBase k + 0x22 then
        (longBytes s.tracker.cycles).getD (a - (cardBase k + 0x1E)) 0
      else if a = cardBase k + 0x10 then g.terminalError.code
      else s.byte a := by
  unfold State.endedCard
  exact endCard_byte wf k _ _ _ a

theorem endedCard_ended (wf : Memory.wf s.mem = true) (k : CardId) (e : EngineId) (echo : Levels) :
    let u := (s.sampleEcho echo).endedCard k (s.engine e)
    u = { s with pins := { s.pins with echo := echo }, mem := u.mem, regs := u.regs } ∧
    CardEnded s u k (s.engine e).header.notify := by
  have byte := endedCard_byte (s := s.sampleEcho echo) wf k (s.engine e)
  unfold State.endedCard at byte ⊢
  have frame := endCard_frame (s.sampleEcho echo) k (statusFor (s.engine e).terminalError) (s.engine e).terminalError
    (s.engine e).header.notify
  have wf' := endCard_wf (s := s.sampleEcho echo) wf k (statusFor (s.engine e).terminalError) (s.engine e).terminalError
    (s.engine e).header.notify
  generalize (s.sampleEcho echo).endCard k _ _ _ = u at byte frame wf' ⊢
  refine ⟨?_, ?_, ?_, wf', fun a outside => ?_⟩
  · rw [frame]
    rfl
  · rw [frame]
    rfl
  · rw [frame]
    rfl
  · obtain ⟨status, apart⟩ := outside
    rw [byte, if_neg status, if_neg (by omega), if_neg (by omega)]
    rfl

/-- The fields of a card that the terminal burst has ended. -/
def State.cardEndedBy (s t : State) (k : CardId) (err : ErrorCode) : Prop :=
  t.byte (cardBase k + 0x10) = err.code ∧ t.cardStatus k = (if err = .none then 0x04 else 0x05) ∧
  t.long (cardBase k + 0x1E) = s.tracker.cycles ∧
  ∀ o, 0x11 ≤ o → o < 0x40 → (o < 0x1E ∨ 0x22 ≤ o) → t.byte (cardBase k + o) = s.byte (cardBase k + o)

theorem endedCard_fields (wf : Memory.wf s.mem = true) (k : CardId) (g : Engine) :
    s.cardEndedBy (s.endedCard k g) k g.terminalError := by
  have byte := endedCard_byte wf k g
  refine ⟨?_, (byte _).trans (if_pos rfl), State.long_of_bytes fun i small => ?_, fun o low high apart => ?_⟩
  · rw [byte, if_neg (by omega), if_neg (by omega), if_pos rfl]
  · rw [byte, if_neg (by omega), if_pos (by omega), Nat.add_sub_cancel_left, List.getD_eq_getElem _ _ (by rwa [longBytes_length])]
    rfl
  · rw [byte, if_neg (by omega), if_neg (by omega), if_neg (by omega)]

theorem State.cardEndedBy.congr {err : ErrorCode} (h : s.cardEndedBy u k err)
    (card : ∀ o, o < 64 → t.byte (cardBase k + o) = u.byte (cardBase k + o)) : s.cardEndedBy t k err := by
  obtain ⟨code, status, stamp, rest⟩ := h
  refine ⟨(card _ (by decide)).trans code, (card 0 (by decide)).trans status, ?_, fun o low high apart =>
    (card o high).trans (rest o low high apart)⟩
  rw [← stamp]
  exact State.long_congr fun i hi => by rw [Nat.add_assoc]; exact card _ (by omega)

/-! ## Setup acted on at hold end -/

theorem State.watches_eq_ofFn (s : State) : s.tracker.watches = Vector.ofFn s.watch := by
  apply Vector.ext; intro i hi; simp [State.watch]


/-- A setup notice at a station that is not held reaches no engine. -/
theorem setupNotice_free {snap : Snapshot} (wf : Memory.wf s.mem = true) (snapshot : s.regs.snapshot = some snap)
    (free : s.holder n = none) :
    s.setupActedOn (s.setupNotice n) n (s.readSetup n) false snap s.pins.echo ∧
    s.setupNotice n = { s with
      stations := (s.setupNotice n).stations, notices := (s.setupNotice n).notices, mem := (s.setupNotice n).mem
      regs := { s.regs with causes := (s.setupNotice n).regs.causes } } := by
  have held : s.held n = false := by rw [State.held, free]; rfl
  obtain ⟨acted, frame⟩ := setupNotice_actedOn wf snapshot (n := n) (by rw [free]; exact nofun)
  rw [held] at acted
  generalize s.setupNotice n = t at acted frame ⊢
  refine ⟨acted, ?_⟩
  obtain ⟨-, -, -, -, -, -, -, -, -, -, -, -, regs, -, -, -, -, away, -⟩ := acted
  have flag : s.flagRaised t n = { s.regs with causes := (s.flagRaised t n).causes } := by
    unfold State.flagRaised
    split_ifs <;> rfl
  have away (e : EngineId) := away e (by rw [free]; exact nofun)
  have engines : t.engines = s.engines := by
    rw [t.engines_eq_ofFn, s.engines_eq_ofFn, funext fun e => (away e).1]
  have questions : t.tracker.questions = s.tracker.questions := by
    rw [t.questions_eq_ofFn, s.questions_eq_ofFn, funext fun e => (away e).2.1]
  have watches : t.tracker.watches = s.tracker.watches := by
    rw [t.watches_eq_ofFn, s.watches_eq_ofFn, funext fun e => (away e).2.2]
  rw [← regs] at frame flag
  rw [engines, questions, watches] at frame
  rw [← flag]
  exact frame

theorem cardEnded_snapshot (r : Registers) (notify : Bool) : (r.cardEnded notify).snapshot = r.snapshot := by
  rw [Registers.cardEnded_rest]

theorem readSetup_congr (same : ∀ o, o < 0x10 → t.byte (stationBase n + o) = s.byte (stationBase n + o)) :
    t.readSetup n = s.readSetup n := by
  have half (o : Nat) (small : o + 1 < 0x10) : t.half (stationBase n + o) = s.half (stationBase n + o) :=
    State.half_congr (same o (by omega)) (same (o + 1) small)
  have first : t.byte (stationBase n) = s.byte (stationBase n) := same 0 (by omega)
  have roster (p : SlotId) : t.byte (stationBase n + 4 + p.val) = s.byte (stationBase n + 4 + p.val) := by
    rw [Nat.add_assoc]
    exact same _ (by omega)
  simp only [State.readSetup, first, same 1 (by omega), same 2 (by omega), same 3 (by omega), roster,
    half 8 (by omega), half 10 (by omega)]

theorem State.setupActedOn.bytes {new : Setup} {held : Bool} {snap : Snapshot} {echo : Levels}
    (h : s.setupActedOn t n new held snap echo) (a : Nat)
    (apart : ∀ o, (eventOffset o = true ∨ slotOffset o = true) → a ≠ stationBase n + o) : t.byte a = s.byte a := by
  obtain ⟨-, -, -, -, -, -, -, -, -, -, -, -, -, -, -, bytes, -⟩ := h
  exact bytes a apart

/-- The part when a station's hold has ended, with its deferred setup still to act on. -/
theorem release_deferred (deferred : ((u.vacated e n).station n).deferred = true) :
    u.release e n = (((u.vacated e n).holdEnded n).setupNotice n).allocate := by
  rw [release_eq, holdEnd_eq, deferred, if_pos rfl]

/-- Settles O59: the card's end, the release by the rule of the record, and the deferred notice at a free station. -/
theorem terminalBurstEndsTheCard : Obligations.TerminalBurstEndsTheCard := by
  unfold Obligations.TerminalBurstEndsTheCard
  intro s e j echo wf running phase job empty g n base err
  have ran := exec_terminalBurst running phase job echo
  obtain ⟨frame, ended⟩ := endedCard_ended wf j.card e echo
  have fields := endedCard_fields (s := s.sampleEcho echo) wf j.card g
  have error : g.terminalError = err := by
    dsimp only [err, Engine.terminalError]
    cases g.answer with
    | none => rfl
    | some l => cases l <;> rfl
  rw [error] at fields
  generalize (s.sampleEcho echo).endedCard j.card (s.engine e) = u at frame ended ran fields
  have waiting := released_waiting frame ended.wf e n
  refine ⟨fun deferred => ?_, fun snap deferred snapshot => ?_⟩
  · obtain ⟨released, by_, card, -⟩ := release_quiet frame ended deferred
    rw [released, allocate_empty (waiting.trans empty)] at ran
    exact ⟨_, ran, by_, fields.congr card⟩
  · obtain ⟨by_, card, wf'⟩ := released frame ended
    have station : (u.vacated e n).station n = s.station n := by
      rw [State.station_eq (s := u) (by rw [vacated_frame])]
      exact State.station_eq (by rw [frame]) _
    rw [release_deferred (by rw [station]; exact deferred)] at ran
    generalize (u.vacated e j.station).holdEnded j.station = v at by_ card wf' waiting ran
    obtain ⟨vframe, _, free, _, _, others, own, holder, follows, bytes⟩ := by_
    have vsnapshot : v.regs.snapshot = some snap := by
      have regs : v.regs = ((s.modStation n fun x => { x with deferred := false }).flagRaised v n).cardEnded
          g.header.notify := by
        exact congrArg State.regs vframe
      rw [regs, cardEnded_snapshot, flagRaised_snapshot]
      exact snapshot
    have line : v.pins.echo = echo := by rw [vframe]
    have setup : v.readSetup n = s.readSetup n := by
      refine readSetup_congr fun o small => ?_
      rw [bytes _ (record_outsideResult j.card n (by omega)) fun o' event => ?_]
      · rfl
      · intro same
        have : o = o' := Nat.add_left_cancel same
        subst this
        simp only [eventOffset, Bool.or_eq_true, Bool.and_eq_true, decide_eq_true_iff] at event
        omega
    obtain ⟨acted, tframe⟩ := setupNotice_free wf' vsnapshot free
    rw [show j.station = n from rfl] at ran
    rw [line, show j.station = n from rfl, setup] at acted
    rw [show j.station = n from rfl] at tframe
    generalize v.setupNotice n = t at acted tframe ran
    have quiet : t.waiting = [] := by
      rw [tframe]
      exact waiting.trans empty
    rw [allocate_empty quiet] at ran
    refine ⟨v, t, ran, ⟨vframe, ‹_›, free, ‹_›, ‹_›, others, own, holder, follows, bytes⟩, acted, tframe, ?_⟩
    refine (fields.congr card).congr fun o small => acted.bytes _ fun o' event => ?_
    exact card_off_record j.card n (offset_small event)

end

end Sys2Proof.Machine
end

section
/-! A grant: its card, its places, the hold it begins and the question it asks (05 R86, R87, 03 R56). -/

namespace Sys2Proof.Machine

section
variable {s t u v : State} {n m : StationId} {e : EngineId} {x : Entry}

/-! ## Records and cards under other writes -/

theorem State.recordFollows.from_same (h : u.recordFollows t n) (cycles : u.tracker.cycles = s.tracker.cycles)
    (bytes : ∀ o, o < 0x20 → u.byte (stationBase n + o) = s.byte (stationBase n + o)) : s.recordFollows t n := by
  obtain ⟨code, permit, moved⟩ := h
  have key : u.recordKey n = s.recordKey n := by
    simp only [State.recordKey, bytes stState (by decide), bytes stPresent (by decide), bytes stFaultCause (by decide)]
  have stamp : u.long (stationBase n + stStamp) = s.long (stationBase n + stStamp) :=
    State.long_congr fun i hi => by rw [Nat.add_assoc]; exact bytes _ (by rw [stStamp]; omega)
  rw [key, stamp, bytes stChangeFlag (by decide), cycles] at moved
  exact ⟨code, permit, moved⟩

theorem State.flagRaised_from_same (regs : u.regs = s.regs)
    (bytes : ∀ o, o < 0x20 → u.byte (stationBase n + o) = s.byte (stationBase n + o)) (t : State) :
    u.flagRaised t n = s.flagRaised t n := by
  have key : u.recordKey n = s.recordKey n := by
    simp only [State.recordKey, bytes stState (by decide), bytes stPresent (by decide), bytes stFaultCause (by decide)]
  unfold State.flagRaised
  rw [key, bytes stChangeFlag (by decide), regs]

/-! ## The card and the places of a grant -/

/-- The state of a grant before hold begin: places and point bound, the engine started, the card RUNNING. -/
@[irreducible] def State.engaged (s : State) (x : Entry) (e : EngineId) : State :=
  ((s.bind x e).put (cardBase x.card + cdEngine) [BitVec.ofNat 8 e.val]).put (cardBase x.card) [statusRunning]

theorem grant_engaged (s : State) (x : Entry) (e : EngineId) :
    s.grant x e = ((s.engaged x e).holdBegin x.station e).askQuestion e .frame := by
  rw [grant_eq]
  unfold State.engaged
  rfl

theorem engaged_frame (s : State) (x : Entry) (e : EngineId) :
    s.engaged x e = { s with
      mem := (s.engaged x e).mem, waiting := s.waiting.erase x, engines := (s.engaged x e).engines
      holds := (s.engaged x e).holds, crosspoint := (s.engaged x e).crosspoint } := by
  unfold State.engaged
  rfl

theorem engaged_wf (wf : Memory.wf s.mem = true) (x : Entry) (e : EngineId) : Memory.wf (s.engaged x e).mem = true := by
  unfold State.engaged
  exact State.wf_put _ _ (State.wf_put _ _ wf)

theorem engaged_byte (wf : Memory.wf s.mem = true) (x : Entry) (e : EngineId) (a : Nat) :
    (s.engaged x e).byte a = if a = cardBase x.card then 0x03
      else if a = cardBase x.card + 0x16 then BitVec.ofNat 8 e.val else s.byte a := by
  unfold State.engaged
  rw [put_one (t := (s.bind x e).put _ _) (State.wf_put (s := s.bind x e) _ _ wf), put_one (t := s.bind x e) wf]
  rfl

theorem engaged_engine (s : State) (x : Entry) (e e' : EngineId) :
    (s.engaged x e).engine e' = if e' = e then
      (s.engine e).start { card := x.card, station := x.station } (s.readHeader x.card) else s.engine e' := by
  unfold State.engaged
  exact bind_engine s x e e'

theorem engaged_holder (s : State) (x : Entry) (e : EngineId) (n : StationId) :
    (s.engaged x e).holder n = if n = x.station then some e else s.holder n := by
  unfold State.engaged
  exact bind_holder s x e n

theorem engaged_point (s : State) (x : Entry) (e e' : EngineId) :
    (s.engaged x e).point e' = if e' = e then some x.station else s.point e' := by
  unfold State.engaged
  exact bind_point s x e e'

/-! ## Hold begin (03 R56) -/

theorem lossAtHoldBegin_some {l : Loss} : s.lossAtHoldBegin n = some l ↔ (s.station n).lostAt l := by
  unfold State.lossAtHoldBegin Station.lostAt
  dsimp only
  cases (s.station n).present
  · simp [eq_comm (a := l)]
  · cases (s.station n).setup.enabled
    · simp [eq_comm (a := l)]
    · cases (s.station n).fault <;> simp [eq_comm (a := l)]

theorem lossAtHoldBegin_congr (present : (t.station n).present = (s.station n).present)
    (setup : (t.station n).setup = (s.station n).setup) (fault : (t.station n).fault = (s.station n).fault) :
    t.lossAtHoldBegin n = s.lossAtHoldBegin n := by
  simp only [State.lossAtHoldBegin, present, setup, fault]

theorem stopFor_eq (n : StationId) (l : Loss) : stopFor n l = l.stopOf n := by cases l <;> rfl

/-- The station as hold begin leaves it. -/
def Station.heldFrom (c : Station) (loss : Option Loss) : Station := { c with heldPermit := c.permit, lossMark := loss }

/-- The engine as hold begin leaves it. -/
def Engine.heldFrom (g : Engine) (n : StationId) : Option Loss → Engine
  | some l => { g with stops := g.stops ++ [l.stopOf n], stopAtHoldBegin := true }
  | none => g

/-- The event of hold begin. -/
@[irreducible] def State.holdBegun (s : State) (n : StationId) (e : EngineId) : State :=
  s.stationEvent n fun u => u.recorded n (fun c => c.heldFrom (s.lossAtHoldBegin n)) 0x12 (BitVec.ofNat 8 e.val)

theorem holdBegin_eq (s : State) (n : StationId) (e : EngineId) :
    s.holdBegin n e = match (s.holdBegun n e).lossAtHoldBegin n with
      | some l => (s.holdBegun n e).modEngine e fun g =>
          { g with stops := g.stops ++ [stopFor n l], stopAtHoldBegin := true }
      | none => s.holdBegun n e := by
  unfold State.holdBegun State.recorded
  rfl

theorem holdBegun_settled (wf : Memory.wf s.mem = true) (n : StationId) (e : EngineId) :
    let t := s.holdBegun n e
    t = { s with mem := t.mem, stations := t.stations, regs := s.flagRaised t n } ∧
    t.station n = { (s.station n).heldFrom (s.lossAtHoldBegin n) with permit := (t.station n).permit } ∧
    (∀ m, m ≠ n → t.station m = s.station m) ∧
    t.byte (stationBase n + 0x12) = BitVec.ofNat 8 e.val ∧ s.recordFollows t n ∧
    (∀ a, (∀ o, (eventOffset o = true ∨ o = 0x12) → a ≠ stationBase n + o) → t.byte a = s.byte a) ∧
    Memory.wf t.mem = true := by
  have settled := holder_settled wf n (fun c => c.heldFrom (s.lossAtHoldBegin n)) (BitVec.ofNat 8 e.val)
  unfold State.holdBegun
  exact settled

theorem modEngine_id (s : State) (e : EngineId) {f : Engine → Engine} (same : f (s.engine e) = s.engine e) :
    s.modEngine e f = s := by
  unfold State.modEngine
  rw [same]
  have engines : s.engines.set e.val (s.engine e) = s.engines := Vector.set_getElem_self _
  rw [engines]

theorem holdBegin_held (wf : Memory.wf s.mem = true) (n : StationId) (e : EngineId) :
    s.holdBegin n e = (s.holdBegun n e).modEngine e fun g => g.heldFrom n (s.lossAtHoldBegin n) := by
  obtain ⟨-, own, -⟩ := holdBegun_settled wf n e
  have loss : (s.holdBegun n e).lossAtHoldBegin n = s.lossAtHoldBegin n :=
    lossAtHoldBegin_congr (by rw [own]; rfl) (by rw [own]; rfl) (by rw [own]; rfl)
  rw [holdBegin_eq, loss]
  cases s.lossAtHoldBegin n with
  | none => exact (modEngine_id _ e rfl).symm
  | some l =>
    dsimp only
    rw [stopFor_eq]
    rfl

/-! ## The first question -/

/-- A question asked of an engine with a stop of hold begin on its way stays open (log entry 11). -/
theorem askQuestion_stopped (stopped : (s.engine e).stopAtHoldBegin = true) (x : Work) :
    Own (s.askQuestion e x) e { s.engine e with phase := .gating x } (some { timer := 0, suspended := false }) (s.watch e) := by
  have own := ((Own.of s e).mod fun g => { g with phase := .gating x }).ask (some { timer := 0, suspended := false })
  unfold State.askQuestion
  rw [judgeQuestion_stays]
  · exact own
  · refine .inr (.inr (.inr ?_))
    exact (congrArg Engine.stopAtHoldBegin own.engine).trans stopped

theorem askQuestion_job (s : State) (e : EngineId) (x : Work) : ((s.askQuestion e x).engine e).job = (s.engine e).job := by
  have own := ((Own.of s e).mod fun g => { g with phase := .gating x }).ask (some { timer := 0, suspended := false })
  have job := congrArg Engine.job own.engine
  exact ((judgeQuestion_places (.refl _) e).job e).trans job

/-! ## The grant whole -/

/-- A grant of an entry to a free engine, on a list that names a card once. -/
theorem grant_leaves {snap : Snapshot} (wf : Memory.wf s.mem = true) (snapshot : s.regs.snapshot = some snap)
    (nodup : (s.waiting.map (·.card)).Nodup) :
    let t := s.grant x e
    t.hasGranted x e (s.engine e).stops (s.watch e) (s.station x.station) (s.readHeader x.card) snap s.pins.echo ∧
    s.recordFollows t x.station ∧
    t = { s with
      mem := t.mem, regs := s.flagRaised t x.station, waiting := s.waiting.erase x, stations := t.stations
      holds := t.holds, crosspoint := t.crosspoint, engines := t.engines
      tracker := { s.tracker with questions := t.tracker.questions, watches := t.tracker.watches } } ∧
    (∀ e', e' ≠ e → t.engine e' = s.engine e' ∧ t.point e' = s.point e' ∧ t.question e' = s.question e' ∧
      t.watch e' = s.watch e') ∧
    (∀ m, m ≠ x.station → t.station m = s.station m ∧ t.holder m = s.holder m) ∧
    (∀ a, a ≠ cardBase x.card → a ≠ cardBase x.card + 0x16 →
      (∀ o, (eventOffset o = true ∨ o = 0x12) → a ≠ stationBase x.station + o) → t.byte a = s.byte a) ∧
    Memory.wf t.mem = true ∧ (t.engine e).job = some { card := x.card, station := x.station } := by
  have uframe := engaged_frame s x e
  have uwf := engaged_wf wf x e
  have ubyte := engaged_byte wf x e
  have uengine := engaged_engine s x e
  have uholder := engaged_holder s x e
  have upoint := engaged_point s x e
  rw [grant_engaged]
  generalize s.engaged x e = u at uframe uwf ubyte uengine uholder upoint ⊢
  have record (o : Nat) (small : o < 128) : u.byte (stationBase x.station + o) = s.byte (stationBase x.station + o) := by
    have off : cardBase x.card ≠ stationBase x.station + o := card_off_record x.card x.station (c := 0) small
    have off' := card_off_record x.card x.station (c := 0x16) small
    rw [ubyte, if_neg (Ne.symm off), if_neg (Ne.symm off')]
  have ustation (m : StationId) : u.station m = s.station m := State.station_eq (by rw [uframe]) m
  have loss : u.lossAtHoldBegin x.station = s.lossAtHoldBegin x.station :=
    lossAtHoldBegin_congr (by rw [ustation]) (by rw [ustation]) (by rw [ustation])
  have utracker : u.tracker = s.tracker := by rw [uframe]
  have uregs : u.regs = s.regs := by rw [uframe]
  obtain ⟨vframe, vown, vothers, vheld, vfollows, vbytes, vwf⟩ := holdBegun_settled uwf x.station e
  rw [holdBegin_held uwf, loss]
  rw [loss, ustation] at vown
  generalize u.holdBegun x.station e = v at vframe vown vothers vheld vfollows vbytes vwf ⊢
  rw [State.flagRaised_from_same uregs fun o small => record o (by omega)] at vframe
  replace vfollows := vfollows.from_same (congrArg Tracker.cycles utracker) fun o small => record o (by omega)
  have wown : (v.modEngine e fun g => g.heldFrom x.station (s.lossAtHoldBegin x.station)).engine e = _ :=
    State.engine_modEngine_self _ _ _
  have wothers (e' : EngineId) (other : e' ≠ e) :
      (v.modEngine e fun g => g.heldFrom x.station (s.lossAtHoldBegin x.station)).engine e' = v.engine e' :=
    State.engine_modEngine_other _ _ _ _ other
  have vengine (e' : EngineId) : v.engine e' = u.engine e' := State.engine_eq (by rw [vframe]) e'
  rw [vengine, uengine, if_pos rfl] at wown
  have wframe : v.modEngine e (fun g => g.heldFrom x.station (s.lossAtHoldBegin x.station)) =
    { v with engines := (v.modEngine e fun g => g.heldFrom x.station (s.lossAtHoldBegin x.station)).engines } := rfl
  generalize (v.modEngine e fun g => g.heldFrom x.station (s.lossAtHoldBegin x.station)) = w at wown wothers wframe ⊢
  have alone : OnEngine e w (w.askQuestion e .frame) := askQuestion_onEngine (.refl e w) .frame
  have vregs : v.regs = s.flagRaised v x.station := by
    generalize s.flagRaised v x.station = r at vframe ⊢
    rw [vframe]
  have wsnapshot : w.regs.snapshot = some snap := by
    rw [show w.regs = v.regs by rw [wframe], vregs, flagRaised_snapshot, snapshot]
  have wline : w.pins.echo = s.pins.echo := by rw [wframe, vframe, uframe]
  have wwatch : w.watch e = s.watch e := by rw [wframe, vframe, uframe]; rfl
  have stopped (l : Loss) (lost : s.lossAtHoldBegin x.station = some l) :
      Own (w.askQuestion e .frame) e { w.engine e with phase := .gating .frame } (some { timer := 0, suspended := false })
        (w.watch e) :=
    askQuestion_stopped (by rw [wown, lost]; rfl) .frame
  have asked (none : s.lossAtHoldBegin x.station = none) (p : Profile) :=
    askQuestion_asked (e := e) (j := { card := x.card, station := x.station }) wsnapshot (by rw [wown, none]; rfl)
      (by rw [wown, none]; rfl) .frame p nofun
  have job := askQuestion_job w e .frame
  generalize w.askQuestion e .frame = t at alone stopped asked job ⊢
  have within := alone.rest
  have tmem : t.mem = v.mem := by rw [within.mem, wframe]
  have tbyte := State.byte_congr tmem
  have tstation (m : StationId) : t.station m = v.station m := (within.station m).trans (State.station_eq (by rw [wframe]) m)
  have tholder (m : StationId) : t.holder m = if m = x.station then some e else s.holder m := by
    rw [← uholder, State.holder, State.holder, within.holds, wframe, vframe]
  have tpoint (e' : EngineId) : t.point e' = if e' = e then some x.station else s.point e' := by
    rw [← upoint, State.point, State.point, within, wframe, vframe]
  have tregs : t.regs = s.flagRaised t x.station := by
    rw [State.flagRaised_congr tmem, ← vregs, within.regs, wframe]
  have card (o : Nat) : t.byte (cardBase x.card + o) = u.byte (cardBase x.card + o) := by
    rw [tbyte]
    refine vbytes _ fun o' event => card_off_record x.card x.station ?_
    obtain event | rfl := event
    · exact offset_small (.inl event)
    · decide
  have permit : (v.station x.station).permit = (t.station x.station).permit := by rw [tstation]
  have same : SamePermits v w := .of_eq (by rw [wframe]; rfl) (by rw [wframe]) (by rw [wframe]) (by rw [wframe])
  have tfollows : s.recordFollows t x.station := vfollows.of_same (same.trans alone.permits x.station) tmem
  rw [permit] at vown
  refine ⟨⟨?_, ?_, ?_, ?_, ?_, ?_, ?_, ?_⟩, tfollows, ?_, fun e' other => ⟨?_, ?_, ?_, ?_⟩, fun m other => ⟨?_, ?_⟩,
    fun a status number apart => ?_, by rw [tmem]; exact vwf, ?_⟩
  · exact (card 0).trans ((ubyte _).trans (if_pos rfl))
  · rw [card, ubyte, if_neg (by omega), if_pos rfl]
  · rw [within, wframe, vframe, uframe]
    exact nodup.of_map.not_mem_erase
  · rw [tholder, if_pos rfl]
  · rw [tpoint, if_pos rfl]
  · rw [tbyte, vheld]
  · intro l lost
    have loss := lossAtHoldBegin_some.mpr lost
    rw [loss] at vown wown
    obtain ⟨engine, question, watch⟩ := stopped l loss
    rw [tstation, vown, engine, wown]
    exact ⟨rfl, rfl, question, watch.trans wwatch⟩
  · intro kept
    have loss : s.lossAtHoldBegin x.station = none := by
      cases eq : s.lossAtHoldBegin x.station with
      | none => rfl
      | some l => exact absurd (lossAtHoldBegin_some.mp eq) (kept l)
    rw [loss] at vown wown
    refine ⟨by rw [tstation, vown]; rfl, fun p => ?_⟩
    have fact := asked loss p
    rw [wown, wline, wwatch] at fact
    rw [show (w.station x.station).setup = (s.station x.station).setup by
      rw [State.station_eq (s := v) (by rw [wframe]), vown]; rfl] at fact
    exact fact
  · rw [← tregs, within, wframe, vframe, uframe]
  · rw [(alone.other e' other).1, wothers e' other, vengine, uengine, if_neg other]
  · rw [tpoint, if_neg other]
  · rw [(alone.other e' other).2.1, wframe, vframe, uframe]
    rfl
  · rw [(alone.other e' other).2.2, wframe, vframe, uframe]
    rfl
  · rw [tstation, vothers m other, ustation]
  · rw [tholder, if_neg other]
  · rw [tbyte, vbytes a apart, ubyte, if_neg status, if_neg number]
  · rw [job, wown]
    cases s.lossAtHoldBegin x.station <;> rfl

end

end Sys2Proof.Machine
end

section
/-! The allocator's choice and its action: grant after grant at a release, an ENABLE and an intake (05 R85 to R88). -/

namespace Sys2Proof.Machine

section
variable {s t u v : State} {n m : StationId} {e : EngineId} {x : Entry}

/-! ## The choice (05 R86) -/

/-- Of the entries that may be granted the highest priority, nearest the front. -/
def firstOf (ok : Entry → Bool) (xs : List Entry) : Option Entry := (xs.filter ok).foldl betterEntry none

theorem firstOf_append (ok : Entry → Bool) (xs : List Entry) (z : Entry) :
    firstOf ok (xs ++ [z]) = if ok z then betterEntry (firstOf ok xs) z else firstOf ok xs := by
  unfold firstOf
  rw [List.filter_append, List.foldl_append]
  cases h : ok z <;> simp [h]

/-- An entry is first of a list. -/
def isFirstOf (ok : Entry → Bool) (xs : List Entry) (x : Entry) : Prop :=
  ∃ before after, xs = before ++ x :: after ∧ ok x = true ∧ (∀ y ∈ before, ok y = true → y.priority < x.priority) ∧
    ∀ y ∈ after, ok y = true → y.priority ≤ x.priority

theorem isFirstOf.top {ok : Entry → Bool} {xs : List Entry} (h : isFirstOf ok xs x) {y : Entry} (mem : y ∈ xs)
    (may : ok y = true) : y.priority ≤ x.priority := by
  obtain ⟨before, after, rfl, -, lower, rest⟩ := h
  obtain early | late := List.mem_append.mp mem
  · exact (lower y early may).le
  · obtain rfl | late := List.mem_cons.mp late
    · exact le_rfl
    · exact rest y late may

/-- The fold takes the first entry of the highest priority, where there is one. -/
theorem firstOf_isFirst (ok : Entry → Bool) (xs : List Entry) :
    (firstOf ok xs = none → ∀ y ∈ xs, ok y = false) ∧ ∀ x, firstOf ok xs = some x → isFirstOf ok xs x := by
  induction xs using List.reverseRecOn with
  | nil => exact ⟨fun _ _ none => absurd none List.not_mem_nil, nofun⟩
  | append_singleton xs z ih =>
    obtain ⟨noneBefore, someBefore⟩ := ih
    have behind {x : Entry} (first : isFirstOf ok xs x) (lower : ok z = true → z.priority ≤ x.priority) :
        isFirstOf ok (xs ++ [z]) x := by
      obtain ⟨before, after, rfl, may, early, late⟩ := first
      refine ⟨before, after ++ [z], by simp, may, early, fun y mem may' => ?_⟩
      obtain mem | mem := List.mem_append.mp mem
      · exact late y mem may'
      · rw [List.mem_singleton.mp mem] at may' ⊢
        exact lower may'
    have last (may : ok z = true) (higher : ∀ y ∈ xs, ok y = true → y.priority < z.priority) :
        isFirstOf ok (xs ++ [z]) z := ⟨xs, [], rfl, may, higher, fun _ h => absurd h List.not_mem_nil⟩
    rw [firstOf_append]
    cases may : ok z with
    | false =>
      rw [if_neg nofun]
      refine ⟨fun none y mem => ?_, fun x some_ => behind (someBefore x some_) fun h => absurd (may.symm.trans h) nofun⟩
      obtain mem | mem := List.mem_append.mp mem
      · exact noneBefore none y mem
      · rw [List.mem_singleton.mp mem, may]
    | true =>
      rw [if_pos rfl]
      cases best : firstOf ok xs with
      | none =>
        refine ⟨nofun, fun x same => ?_⟩
        rw [← Option.some.inj same]
        exact last may fun y mem may' => absurd ((noneBefore best y mem).symm.trans may') nofun
      | some b =>
        have first := someBefore b best
        unfold betterEntry
        dsimp only
        by_cases higher : b.priority < z.priority
        · rw [if_pos higher]
          refine ⟨nofun, fun x same => ?_⟩
          rw [← Option.some.inj same]
          exact last may fun y mem may' => lt_of_le_of_lt (first.top mem may') higher
        · rw [if_neg higher]
          refine ⟨nofun, fun x same => ?_⟩
          rw [← Option.some.inj same]
          exact behind first fun _ => not_lt.mp higher

/-- A list has at most one first entry. -/
theorem isFirstOf.unique {ok : Entry → Bool} {xs : List Entry} {y : Entry} (h : isFirstOf ok xs x)
    (h' : isFirstOf ok xs y) : x = y := by
  obtain ⟨before, after, split, may, early, late⟩ := id h
  obtain ⟨before', after', split', may', early', late'⟩ := id h'
  have meets := List.append_eq_append_iff.mp (split.symm.trans split')
  obtain ⟨mid, longer, rest⟩ | ⟨mid, longer, rest⟩ := meets
  · cases mid with
    | nil => exact (List.cons.inj rest).1
    | cons z mid =>
      obtain ⟨rfl, -⟩ := List.cons.inj rest
      have below := early' x (by rw [longer]; simp) may
      exact absurd below (not_lt.mpr (h.top (by rw [split']; simp) may'))
  · cases mid with
    | nil => exact (List.cons.inj rest).1.symm
    | cons z mid =>
      obtain ⟨rfl, -⟩ := List.cons.inj rest
      have below := early y (by rw [longer]; simp) may'
      exact absurd below (not_lt.mpr (h'.top (by rw [split]; simp) may))

theorem firstOf_iff {ok : Entry → Bool} {xs : List Entry} : firstOf ok xs = some x ↔ isFirstOf ok xs x := by
  obtain ⟨none, some_⟩ := firstOf_isFirst ok xs
  refine ⟨some_ x, fun first => ?_⟩
  cases best : firstOf ok xs with
  | none =>
    obtain ⟨before, after, rfl, may, -⟩ := first
    exact absurd ((none best x (by simp)).symm.trans may) nofun
  | some y => rw [(some_ y best).unique first]

theorem eligible_iff (y : Entry) : s.eligible y = true ↔ ¬s.holder y.station ≠ none := by
  simp [State.eligible, State.held]

theorem chooseEntry_iff : s.chooseEntry = some x ↔ x.isFirst s.waiting fun n => s.holder n ≠ none := by
  have eq : s.chooseEntry = firstOf s.eligible s.waiting := rfl
  rw [eq, firstOf_iff]
  simp only [isFirstOf, Entry.isFirst, eligible_iff]

theorem chooseEntry_none (none : s.chooseEntry = none) : ∀ y ∈ s.waiting, s.holder y.station ≠ Option.none := by
  intro y mem
  have idle := (firstOf_isFirst s.eligible s.waiting).1 none y mem
  by_contra free
  exact absurd (idle.symm.trans ((eligible_iff y).mpr (not_not.mpr free))) nofun

theorem freeEngine_iff : s.freeEngine = some e ↔ (s.engine e).job = none ∧ ∀ e', e' < e → (s.engine e').job ≠ none := by
  refine ⟨fun free => ⟨freeEngine_free free, ?_⟩, fun ⟨free, busy⟩ => ?_⟩
  · have at_ : ∀ e : EngineId, allEngines[e.val]'(by simp [allEngines]) = e := by decide
    obtain ⟨-, i, small, here, before⟩ := List.find?_eq_some_iff_getElem.mp free
    intro e' lower idle
    have place : e.val = i := by
      have four : i < 4 := small
      have same := at_ ⟨i, four⟩
      rw [← here]
      exact (congrArg Fin.val same)
    have taken := before e'.val (place ▸ lower)
    rw [at_ e', idle] at taken
    exact absurd taken (by decide)
  · refine find_allEngines (by rw [free]; rfl) fun e' lower => ?_
    exact Option.isNone_eq_false_iff.mpr (Option.isSome_iff_ne_none.mpr (busy e' lower))

/-! ## Grant after grant (05 R85) -/

theorem grant_grantedTo {snap : Snapshot} (wf : Memory.wf s.mem = true) (snapshot : s.regs.snapshot = some snap)
    (nodup : (s.waiting.map (·.card)).Nodup) (chosen : s.chooseEntry = some x) (free : s.freeEngine = some e) :
    s.grantedTo (s.grant x e) x e snap s.pins.echo := by
  obtain ⟨granted, follows, frame, engines, stations, bytes, -, -⟩ := grant_leaves (x := x) (e := e) wf snapshot nodup
  obtain ⟨idle, lowest⟩ := freeEngine_iff.mp free
  exact ⟨chooseEntry_iff.mp chosen, idle, lowest, granted, follows, frame, engines, stations, bytes⟩

theorem grantAll_allocated {snap : Snapshot} {echo : Levels} (k : Nat) (wf : Memory.wf s.mem = true)
    (snapshot : s.regs.snapshot = some snap) (line : s.pins.echo = echo) (nodup : (s.waiting.map (·.card)).Nodup)
    (busy : ∀ e : EngineId, e.val + k < 4 → (s.engine e).job ≠ none) :
    State.Allocated snap echo s (State.grantAll k s) := by
  induction k generalizing s with
  | zero => exact .done s (.inl fun e => busy e e.isLt)
  | succ k ih =>
    rw [State.grantAll]
    cases free : s.freeEngine with
    | none => exact .done s (.inl (freeEngine_eq_none.mp free))
    | some e =>
      cases chosen : s.chooseEntry with
      | none => exact .done s (.inr (chooseEntry_none chosen))
      | some x =>
        have granted := grant_grantedTo wf snapshot nodup chosen free
        rw [line] at granted
        refine .grant x e granted ?_
        obtain ⟨-, -, frame, engines, -, -, wf', job⟩ := grant_leaves (x := x) (e := e) wf snapshot nodup
        obtain ⟨idle, lowest⟩ := freeEngine_iff.mp free
        dsimp only
        generalize s.grant x e = t at frame engines wf' job
        have regs : t.regs = s.flagRaised t x.station := by
          generalize s.flagRaised t x.station = r at frame ⊢
          rw [frame]
        refine ih wf' (by rw [regs, flagRaised_snapshot, snapshot]) (by rw [frame]; exact line) ?_ fun e' below => ?_
        · rw [frame]
          exact nodup.sublist (List.erase_sublist.map _)
        · by_cases same : e' = e
          · rw [same, job]
            exact nofun
          · rw [(engines e' same).1]
            by_cases lower : e' < e
            · exact lowest e' lower
            · refine busy e' ?_
              have reached : ¬e.val + (k + 1) < 4 := fun under => busy e under idle
              have above : e.val < e'.val := lt_of_le_of_ne (not_lt.mp lower) fun h => same (Fin.ext h).symm
              omega

theorem allocate_allocated {snap : Snapshot} {echo : Levels} (wf : Memory.wf s.mem = true) (on : s.regs.enable = true)
    (snapshot : s.regs.snapshot = some snap) (line : s.pins.echo = echo) (nodup : (s.waiting.map (·.card)).Nodup) :
    State.Allocated snap echo s s.allocate := by
  unfold State.allocate
  rw [if_pos on]
  exact grantAll_allocated 4 wf snapshot line nodup fun e below => absurd below (by omega)

/-- What the allocator's action leaves alone. -/
theorem State.Allocated.rest {snap : Snapshot} {echo : Levels} (h : State.Allocated snap echo u t) :
    t.sweeper = u.sweeper ∧ t.regs.enable = u.regs.enable := by
  induction h with
  | done u ends => exact ⟨rfl, rfl⟩
  | @grant u v t x e first rest ih =>
    obtain ⟨-, -, -, -, -, frame, -⟩ := first
    obtain ⟨sweeper, enable⟩ := ih
    have regs : v.regs = u.flagRaised v x.station := by
      generalize u.flagRaised v x.station = r at frame ⊢
      rw [frame]
    exact ⟨sweeper.trans (by rw [frame]), enable.trans (by rw [regs, flagRaised_enable])⟩

/-- The allocator's action does not turn on the sweeper. -/
theorem State.Allocated.with_sweeper {snap : Snapshot} {echo : Levels} (h : State.Allocated snap echo u t) (w : Sweeper) :
    State.Allocated snap echo { u with sweeper := w } { t with sweeper := w } := by
  induction h with
  | done u ends => exact .done _ ends
  | @grant u v t x e first rest ih =>
    refine .grant x e ?_ ih
    obtain ⟨chosen, idle, lowest, granted, follows, frame, engines, stations, bytes⟩ := first
    exact ⟨chosen, idle, lowest, granted, follows, congrArg (fun s => ({ s with sweeper := w } : State)) frame, engines,
      stations, bytes⟩

/-- A release is followed by the allocator's action on the state it leaves. -/
theorem release_allocated {j : Job} {snap : Snapshot} {echo : Levels}
    (frame : u = { s with pins := { s.pins with echo := echo }, mem := u.mem, regs := u.regs })
    (ended : CardEnded s u j.card (s.engine e).header.notify) (deferred : (s.station j.station).deferred = false)
    (on : s.regs.enable = true) (snapshot : s.regs.snapshot = some snap) (nodup : (s.waiting.map (·.card)).Nodup) :
    ∃ v, s.releasedBy v e j echo ∧ State.Allocated snap echo v (u.release e j.station) := by
  have waiting := released_waiting frame ended.wf e j.station
  obtain ⟨released, by_, -, wf⟩ := release_quiet frame ended deferred
  rw [released]
  generalize (u.vacated e j.station).holdEnded j.station = v at waiting by_ wf
  refine ⟨v, by_, ?_⟩
  obtain ⟨vframe, -⟩ := by_
  have regs : v.regs = (s.flagRaised v j.station).cardEnded (s.engine e).header.notify := congrArg State.regs vframe
  have line : v.pins.echo = echo := congrArg (fun s => s.pins.echo) vframe
  refine allocate_allocated wf ?_ ?_ line (by rw [waiting]; exact nodup)
  · rw [regs, Registers.cardEnded_enable, flagRaised_enable, on]
  · rw [regs, cardEnded_snapshot, flagRaised_snapshot, snapshot]

/-! ## A configuration that is accepted (01 R16) -/

/-- The snapshot that the configuration block gives (01 Table 1-6). -/
structure State.Configures (s : State) (snap : Snapshot) : Prop where
  ppc : snap.ppc = s.half 0x00
  mclkFalling : snap.mclkFalling = true ↔ s.byte 0x02 ≠ 0
  midxFalling : snap.midxFalling = true ↔ s.byte 0x03 ≠ 0
  stopTimeout : snap.stopTimeout = if s.byte 0x04 = 0 then 1 else s.byte 0x04
  quietWhenStopped : snap.quietWhenStopped = true ↔ s.byte 0x05 ≠ 0
  presenceFilter : snap.presenceFilter = if s.byte 0x09 = 0 then 1 else s.byte 0x09
  bitCell : snap.bitCell.ticks = 2000 * 2 ^ (s.byte 0x0A).toNat
  gateLimit : snap.gateLimit = if s.half 0x0C = 0 then 1 else s.half 0x0C
  nref : ∀ e : EngineId, snap.nref[e.val] = s.half (0x0E + 2 * e.val)

theorem bitCellOf_small {b : Byte} (small : b.toNat ≤ 2) : ∃ cell, bitCellOf b = some cell ∧ cell.ticks = 2000 * 2 ^ b.toNat := by
  obtain ⟨cell, read⟩ := Option.ne_none_iff_exists'.mp (mt bitCellOf_eq_none_iff.mp (not_lt.mpr small))
  exact ⟨cell, read, bitCellOf_ticks read⟩

theorem readConfiguration_ok (large : 16 ≤ (s.half 0x00).toNat) (small : (s.byte 0x0A).toNat ≤ 2) :
    ∃ snap, s.readConfiguration = .ok snap ∧ s.Configures snap := by
  obtain ⟨cell, read, ticks⟩ := bitCellOf_small small
  unfold State.readConfiguration
  rw [if_neg (show ¬(s.half cfgPpc).toNat < 16 from not_lt.mpr large), show bitCellOf (s.byte cfgBitCell) = some cell from read]
  refine ⟨_, rfl, rfl, ?_, ?_, rfl, ?_, rfl, ticks, rfl, fun e => ?_⟩
  · exact decide_eq_true_iff
  · exact decide_eq_true_iff
  · exact decide_eq_true_iff
  · simp [cfgNref]

theorem enablePart_ok {snap : Snapshot} (read : s.readConfiguration = .ok snap) :
    s.enablePart = s.acceptConfiguration snap := by rw [State.enablePart, read]

/-- An accepted configuration with no sweep asked for. -/
theorem exec_enable_accepted {snap : Snapshot} (writing : s.writing 1) (enable : s.port.lowByte.getLsbD 0 = true)
    (noSweep : s.port.lowByte.getLsbD 1 = false) (noReset : s.port.lowByte.getLsbD 2 = false) (off : s.regs.enable = false)
    (read : s.readConfiguration = .ok snap) (high : Byte) (echo : Levels) :
    exec (.enable high echo) s = .next (((s.sampleEcho echo).setPort s.port.pairWritten).acceptConfiguration snap) := by
  have part := enablePart_ok (s := (s.sampleEcho echo).setPort s.port.pairWritten) read
  rw [execEnable_writing writing enable noReset, writeRunControl_enable
    (s := (s.sampleEcho echo).setPort s.port.pairWritten) ((halfOf_getLsbD (by omega)).trans enable)
    ((halfOf_getLsbD (by omega)).trans noReset) off, part, halfOf_getLsbD (by omega), noSweep]
  rfl

theorem resumeEngine_free (free : ∀ next, (s.engine e).phase ≠ .held next) : s.resumeEngine e = s := by
  unfold State.resumeEngine
  split
  case h_6 => rfl
  all_goals exact absurd ‹_› (free _)

/-! ## What the allocator's action follows -/

/-- Settles O60: the choice is the first entry of the highest priority and the lowest free engine, and every action of the
allocator is that choice granted until there is none. -/
theorem allocatorChoosesByPriority : Obligations.AllocatorChoosesByPriority := by
  refine ⟨fun s x e => ⟨chooseEntry_iff, freeEngine_iff⟩, ?_, ?_, ?_⟩
  · intro s e j echo snap c wf running job on snapshot deferred nodup command
    obtain ⟨rfl, phase⟩ | ⟨rfl, phase, noReport⟩ := command
    · obtain ⟨frame, ended⟩ := endedCard_ended wf j.card e echo
      obtain ⟨v, by_, allocated⟩ := release_allocated frame ended deferred on snapshot nodup
      exact ⟨v, _, exec_terminalBurst running phase job echo, by_, allocated⟩
    · obtain ⟨frame, ended⟩ := stoppedCard_ended wf j.card e (stoppedEnd (s.engine e).stopOutcome) echo
      obtain ⟨v, by_, allocated⟩ := release_allocated frame ended deferred on snapshot nodup
      refine ⟨v, _, exec_stopTerminalBurst running phase job noReport echo, by_, ?_⟩
      rw [endStopped_eq]
      exact allocated
  · intro s high echo old wf writing enable noSweep noReset off large small before same free nodup
    obtain ⟨snap, read, configures⟩ := readConfiguration_ok large small
    have ran := exec_enable_accepted writing enable noSweep noReset off read high echo
    rw [acceptConfiguration_same (s := (s.sampleEcho echo).setPort s.port.pairWritten) before
      (same.trans configures.ppc.symm)] at ran
    let w := ((s.sampleEcho echo).setPort s.port.pairWritten).takeConfiguration snap
    have resumed : forAll allEngines (fun e t => t.resumeEngine e) w = w :=
      forAll_invariant (P := fun t => t = w) (fun e t same => by rw [same]; exact resumeEngine_free (free e)) _ rfl
    have told : w.tellBlocks false = (w.setSweeper { w.sweeper with timer := w.readSweepPeriod }).allocate := by
      unfold State.tellBlocks
      rw [resumed]
      rfl
    rw [told] at ran
    have allocated : State.Allocated snap echo (w.setSweeper { w.sweeper with timer := w.readSweepPeriod }) _ :=
      allocate_allocated (State.wf_put _ _ wf) rfl rfl rfl nodup
    refine ⟨w.setSweeper { w.sweeper with timer := w.readSweepPeriod }, _, snap, ran, ?_, fun a => ?_, allocated⟩
    case refine_2 => exact put_one (t := ((s.sampleEcho echo).setPort s.port.pairWritten).setRegs _) wf _ _ a
    rw [allocated.rest.1]
    rfl
  · intro s k n bytes echo snap wf running visit clear same noCancel engine at_ enabled noFault present listed on snapshot
      nodup fresh
    let u := s.sampleEcho echo
    have intake : u.intakeVisit k bytes = (u.intakeCard k).nextVisit k := intakeVisit_unchanged (s := u) clear same
    have card : u.intakeCard k = (u.listed k (u.readHeader k) n).allocate :=
      intakeCard_valid (s := u) noCancel engine at_ enabled noFault present listed
    obtain ⟨status, number, -, -, -, outside⟩ := listed_card (s := u) wf k (u.readHeader k) n
    have once : ((u.listed k (u.readHeader k) n).waiting.map (·.card)).Nodup := by
      change ((s.waiting ++ [_]).map _).Nodup
      rw [List.map_append]
      refine nodup.append (List.nodup_singleton k) fun c old new => ?_
      obtain ⟨y, mem, named⟩ := List.mem_map.mp old
      exact fresh y mem (named.trans (List.mem_singleton.mp new))
    have allocated : State.Allocated snap echo (u.listed k (u.readHeader k) n) _ :=
      allocate_allocated (takenCard_wf (s := u) wf k) on snapshot rfl once
    have visited := allocated.with_sweeper ((u.listed k (u.readHeader k) n).sweeper.visited k s.regs.enable)
    have ran := exec_cardIntake running visit echo
    rw [intake, card, nextVisit_eq, allocated.rest.1, allocated.rest.2] at ran
    refine ⟨{ u.listed k (u.readHeader k) n with
      sweeper := (u.listed k (u.readHeader k) n).sweeper.visited k s.regs.enable }, _, ran, ?_, status, number, outside,
      visited⟩
    unfold State.listed
    rw [priorityOf_eq]
    rfl

end

end Sys2Proof.Machine
end

section
/-! An intake whose card is granted at once: the place, the hold and the first question (02 R35, 05 R86, R87). -/

namespace Sys2Proof.Machine

section
variable {s t u v : State} {n m : StationId} {e : EngineId} {x : Entry} {k : CardId}

theorem grantAll_empty (fuel : Nat) (empty : s.waiting = []) : State.grantAll fuel s = s := by
  cases fuel with
  | zero => rfl
  | succ fuel =>
    have none : s.chooseEntry = Option.none := by
      rw [State.chooseEntry, empty]
      rfl
    rw [State.grantAll, none]
    cases s.freeEngine <;> rfl

/-- The one card of a list, granted to the lowest free engine. -/
theorem allocate_one (on : s.regs.enable = true) (one : s.waiting = [x]) (unheld : s.holder x.station = none)
    (free : (s.engine e).job = none) (lowest : ∀ e', e' < e → (s.engine e').job ≠ none)
    (empty : (s.grant x e).waiting = []) : s.allocate = s.grant x e := by
  have chosen : s.chooseEntry = some x :=
    chooseEntry_iff.mpr ⟨[], [], one, not_not.mpr unheld, fun _ h => absurd h List.not_mem_nil,
      fun _ h => absurd h List.not_mem_nil⟩
  rw [State.allocate, if_pos on, State.grantAll, freeEngine_iff.mpr ⟨free, lowest⟩, chosen]
  exact grantAll_empty 3 empty

theorem readHeader_congr (same : ∀ o, 0 < o → o < 0x10 → t.byte (cardBase k + o) = s.byte (cardBase k + o)) :
    t.readHeader k = s.readHeader k := by
  have half (o : Nat) (low : 0 < o) (small : o + 1 < 0x10) : t.half (cardBase k + o) = s.half (cardBase k + o) :=
    State.half_congr (same o low (by omega)) (same (o + 1) (by omega) small)
  have long (o : Nat) (low : 0 < o) (small : o + 3 < 0x10) : t.long (cardBase k + o) = s.long (cardBase k + o) :=
    State.long_congr fun i hi => by rw [Nat.add_assoc]; exact same (o + i) (by omega) (by omega)
  simp only [State.readHeader, same cdKind (by decide) (by decide), same cdPriority (by decide) (by decide),
    same cdStation (by decide) (by decide), same cdTagAddress (by decide) (by decide), same cdRounds (by decide) (by decide),
    same cdFlags (by decide) (by decide), half cdTemperature (by decide) (by decide), long cdSerial (by decide) (by decide)]

/-- Equal arcs are the whole cycle (04 R76). -/
theorem groundOn_equal {c : Setup} (same : c.arcStart = c.arcEnd) (k : Tracker) (snap : Snapshot) :
    c.groundOn k snap = some .wholeCycle := by
  rw [Setup.groundOn, same, Tracker.ground, if_pos rfl]

/-- An engine with a question open, at work or stopped drives no output yet. -/
theorem State.asked.outputLow {g : Engine} {x : Work} {c : Setup} {q : Question} {snap : Snapshot} {p : Profile}
    {echo : Levels} {before : Option Watch} (h : t.asked e g x n c q snap p echo before) : (t.engine e).outputHigh = false := by
  unfold State.asked at h
  split at h
  · rw [h.1]
    simp [Engine.outputHigh]
  · obtain ⟨-, h⟩ := h
    split at h
    · rw [h.1]
      rfl
    · rw [h.1]
      cases x <;> rfl

/-- A held station with a part present is CHECKING, and keeps its permit. -/
theorem derived_checking (configured : s.configured = true) (enabled : (s.station n).setup.enabled = true)
    (noFault : (s.station n).fault = false) (present : (s.station n).present = true) :
    s.derived n true = .checking := by
  simp [State.derived, stationStateOf, configured, enabled, noFault, present]

/-- Settles O32: the list holds the one card, the lowest free engine takes it, and a present station is CHECKING. -/
theorem intakeGrantsAtOnce : Obligations.IntakeGrantsAtOnce := by
  intro s k n e bytes echo snap p wf running visit clear same noCancel engine at_ enabled noFault present listed on snapshot
    empty unheld noPoint free lowest noWatch g
  let u := s.sampleEcho echo
  let x : Entry := { card := k, priority := priorityOf (u.readHeader k).priority, station := n }
  have intake : u.intakeVisit k bytes = (u.intakeCard k).nextVisit k := intakeVisit_unchanged (s := u) clear same
  have card : u.intakeCard k = (u.listed k (u.readHeader k) n).allocate :=
    intakeCard_valid (s := u) noCancel engine at_ enabled noFault present listed
  obtain ⟨-, number, -, -, -, outside⟩ := listed_card (s := u) wf k (u.readHeader k) n
  have wwf : Memory.wf (u.listed k (u.readHeader k) n).mem = true := takenCard_wf (s := u) wf k
  have ran := exec_cardIntake running visit echo
  rw [intake, card] at ran
  have header : (u.listed k (u.readHeader k) n).readHeader k = s.readHeader k :=
    readHeader_congr (s := u) fun o low small => outside _ ⟨by omega, .inl (by omega)⟩
  have record (o : Nat) (small : o < 128) :
      (u.listed k (u.readHeader k) n).byte (stationBase n + o) = s.byte (stationBase n + o) :=
    outside _ (record_outsideResult k n small)
  have wframe : u.listed k (u.readHeader k) n = { s with
      pins := { s.pins with echo := echo }, mem := (u.listed k (u.readHeader k) n).mem
      sweeper := { s.sweeper with counter := s.sweeper.counter + 1 }, waiting := [x] } := by
    unfold State.listed
    rw [show u.waiting = [] from empty]
    rfl
  generalize u.listed k (u.readHeader k) n = w at ran number outside wwf header record wframe
  have wwaiting : w.waiting = [x] := by rw [wframe]
  have wstation (m : StationId) : w.station m = s.station m := State.station_eq (by rw [wframe]) m
  have wengine (e' : EngineId) : w.engine e' = s.engine e' := State.engine_eq (by rw [wframe]) e'
  have wholder (m : StationId) : w.holder m = s.holder m := by rw [wframe]; rfl
  have wpoint (e' : EngineId) : w.point e' = s.point e' := by rw [wframe]; rfl
  have wregs : w.regs = s.regs := by rw [wframe]
  obtain ⟨granted, follows, frame, engines, stations, bytes', -, -⟩ := grant_leaves (x := x) (e := e) wwf
    (by rw [wregs]; exact snapshot) (by rw [wwaiting]; exact List.nodup_singleton _)
  have vwaiting : (w.grant x e).waiting = [] := by
    rw [frame, wwaiting, List.erase_cons_head]
  rw [allocate_one (x := x) (e := e) (by rw [wregs]; exact on) wwaiting (by rw [wholder]; exact unheld)
    (by rw [wengine]; exact free) (fun e' lower => by rw [wengine]; exact lowest e' lower) vwaiting, nextVisit_eq] at ran
  generalize w.grant x e = v at ran granted follows frame engines stations bytes' vwaiting
  have vregs : v.regs = s.flagRaised v n := by
    rw [← State.flagRaised_from_same (s := s) (u := w) wregs fun o small => record o (by omega)]
    generalize w.flagRaised v x.station = r at frame ⊢
    rw [frame]
  replace follows : s.recordFollows v n :=
    follows.from_same (by rw [wframe]) fun o small => record o (by omega)
  obtain ⟨status, engineByte, -, holder, point, heldBy, -, kept⟩ := granted
  rw [wstation, header, show (w.engine e).stops = (s.engine e).stops by rw [wengine],
    show w.watch e = none by rw [wframe]; exact noWatch, show w.pins.echo = echo by rw [wframe]] at kept
  obtain ⟨own, asked⟩ := kept fun l lost => by
    obtain ⟨absent, -⟩ | ⟨-, off, -⟩ | ⟨-, -, fault, -⟩ := lost
    · exact absurd (present.symm.trans absent) nofun
    · exact absurd (enabled.symm.trans off) nofun
    · exact absurd (noFault.symm.trans fault) nofun
  have checking : v.derived n (v.held n) = .checking := by
    rw [show v.held n = true by rw [State.held, holder]; rfl]
    refine derived_checking ?_ ?_ ?_ ?_
    · rw [State.configured, vregs, flagRaised_snapshot, snapshot]
      rfl
    · rw [own]; exact enabled
    · rw [own]; exact noFault
    · rw [own]; exact present
  have permit : (v.station n).permit = (s.station n).permit := by
    rw [follows.2.1, checking, own]
    rfl
  rw [permit] at own
  refine ⟨_, ran, ?_, status, engineByte, ?_, holder, point, fun m other => ?_, fun e' other => ?_, heldBy, follows, ?_, own,
    fun m other => ?_, ?_, asked p, fun arcs low => ?_, fun a away apart => ?_⟩
  · have sweeper : v.sweeper = { s.sweeper with counter := s.sweeper.counter + 1 } := by rw [frame, wframe]
    have enable : v.regs.enable = s.regs.enable := by rw [vregs, flagRaised_enable]
    have flag : s.flagRaised { v with sweeper := v.sweeper.visited k v.regs.enable } n = v.regs := vregs.symm
    have flagged : w.flagRaised v x.station = v.regs := by
      rw [vregs]
      exact State.flagRaised_from_same wregs (fun o small => record o (by omega)) v
    rw [flag]
    rw [flagged] at frame
    refine (congrArg (fun a : State => ({ a with sweeper := v.sweeper.visited k v.regs.enable } : State)) frame).trans ?_
    rw [sweeper, enable, wwaiting, List.erase_cons_head, wframe, empty]
  · have card (o : Nat) (low : 0x14 ≤ o) (small : o < 0x16) : v.byte (cardBase k + o) = w.byte (cardBase k + o) := by
      refine bytes' _ (by change _ ≠ cardBase k; omega) (by change _ ≠ cardBase k + 0x16; omega) fun o' event => ?_
      obtain event | rfl := event
      · exact card_off_record k n (offset_small (.inl event))
      · exact card_off_record k n (by decide)
    exact (State.half_congr (card 0x14 (by omega) (by omega)) (card 0x15 (by omega) (by omega))).trans number
  · rw [← wholder]
    exact (stations m other).2
  · obtain ⟨sameEngine, samePoint, question, watch⟩ := engines e' other
    exact ⟨samePoint.trans (wpoint e'), sameEngine.trans (wengine e'), question.trans (by rw [wframe]; rfl),
      watch.trans (by rw [wframe]; rfl)⟩
  · exact follows.1.trans (by rw [checking]; rfl)
  · rw [← wstation]
    exact (stations m other).1
  · have idle : v.driver n = none := driver_none fun e' closed => by
      by_cases own : e' = e
      · rw [own]
        exact (asked p).outputLow
      · rw [(engines e' own).2.1, wpoint] at closed
        exact absurd closed (noPoint e')
    change (!v.inReset && (v.driver n).isSome && !v.overloadHold.getLsbD n.val) = false
    rw [idle, Option.isSome_none, Bool.and_false, Bool.false_and]
  · have fact := asked p
    unfold State.asked at fact
    rw [groundOn_equal arcs] at fact
    dsimp only at fact
    rw [low, if_neg nofun] at fact
    change (v.engine e).phase = _ ∧ (v.engine e).rising = _ ∧ (v.engine e).frame = _
    rw [fact.2.1]
    exact ⟨rfl, rfl, rfl⟩
  · obtain ⟨notStatus, off⟩ := id away
    exact (bytes' a notStatus (by change a ≠ cardBase k + 0x16; omega) apart).trans (outside a away)

end

end Sys2Proof.Machine
end

section
/-! An accepted configuration: snapshot, sweep timer and sweep (01 R16, 02 R29). -/

namespace Sys2Proof.Machine

section
variable {s t u v : State} {n m : StationId} {e : EngineId} {x : Entry} {snap : Snapshot}

/-! ## What the blocks told leave of the sweeper and of the configuration block -/

theorem raiseIf_sweeper (s : State) (b : Bool) (c : BitVec 5) : (s.raiseIf b c).sweeper = s.sweeper := by
  unfold State.raiseIf
  split <;> rfl

theorem settleRecord_sweeper (s : State) (n : StationId) (key : Byte × Byte × Byte) :
    (s.settleRecord n key).sweeper = s.sweeper := by
  unfold State.settleRecord State.stampAndFlag
  dsimp only
  split_ifs
  · rfl
  · exact raiseIf_sweeper _ _ _

theorem holdBegin_sweeper (s : State) (n : StationId) (e : EngineId) : (s.holdBegin n e).sweeper = s.sweeper := by
  have begun : (s.holdBegun n e).sweeper = s.sweeper := by
    unfold State.holdBegun State.recorded
    exact settleRecord_sweeper _ n _
  rw [holdBegin_eq]
  split <;> exact begun

theorem Within.sweeper (h : Within s t) : t.sweeper = s.sweeper := by rw [h]

theorem grant_sweeper (s : State) (x : Entry) (e : EngineId) : (s.grant x e).sweeper = s.sweeper := by
  rw [grant_engaged]
  refine (askQuestion_onEngine (.refl e _) .frame).rest.sweeper.trans ((holdBegin_sweeper _ _ _).trans ?_)
  rw [engaged_frame]

theorem grantAll_sweeper (k : Nat) (s : State) : (State.grantAll k s).sweeper = s.sweeper := by
  induction k generalizing s with
  | zero => rfl
  | succ k ih =>
    rw [State.grantAll]
    split
    · exact (ih _).trans (grant_sweeper s _ _)
    · rfl

theorem allocate_sweeper (s : State) : s.allocate.sweeper = s.sweeper := by
  unfold State.allocate
  split
  · exact grantAll_sweeper 4 s
  · rfl

theorem resumeEngine_sweeper (e : EngineId) (s : State) : (s.resumeEngine e).sweeper = s.sweeper :=
  (resumeEngine_onEngine e s).rest.sweeper

theorem activateStation_sweeper (n : StationId) (s : State) : (s.activateStation n).sweeper = s.sweeper := by
  unfold State.activateStation
  exact settleRecord_sweeper _ n _

theorem restartTracker_sweeper (s : State) : s.restartTracker.sweeper = s.sweeper := by
  unfold State.restartTracker
  have judged := judgeQuestions_within (judgeWatches_within (.refl (s.updateTracker { s.tracker with angle := 0, valid := false } false)))
  exact judged.sweeper

theorem Keeps.byte (h : Keeps s t) {a : Nat} (owned : partOwns a = false) : t.byte a = s.byte a := PartWrites.read h owned

theorem readSweepPeriod_keeps (h : Keeps s t) : t.readSweepPeriod = s.readSweepPeriod := by
  have field : t.half 0x06 = s.half 0x06 := State.half_congr (h.byte (by decide)) (h.byte (by decide))
  rw [readSweepPeriod_eq, readSweepPeriod_eq, field]

theorem tellBlocks_sweeper (s : State) (first : Bool) :
    (s.tellBlocks first).sweeper = { s.sweeper with timer := s.readSweepPeriod } := by
  have resumed := forAll_keeps_read State.sweeper resumeEngine_sweeper allEngines s
  have kept : Keeps s (forAll allEngines (fun e t => t.resumeEngine e) s) :=
    forAll_keeps _ (fun e u h => resumeEngine_keeps h e) _ (.same _)
  unfold State.tellBlocks
  dsimp only
  rw [allocate_sweeper]
  generalize forAll allEngines (fun e t => t.resumeEngine e) s = u at resumed kept ⊢
  cases first
  · rw [if_neg nofun, State.setSweeper_sweeper, resumed, readSweepPeriod_keeps kept]
  · have sweeper : u.activateSupervisor.sweeper = u.sweeper :=
      forAll_keeps_read State.sweeper activateStation_sweeper allStations u
    rw [if_pos rfl, State.setSweeper_sweeper, sweeper, resumed, readSweepPeriod_keeps (activateSupervisor_keeps kept)]

theorem takeConfiguration_period (s : State) (snap : Snapshot) : (s.takeConfiguration snap).readSweepPeriod = s.readSweepPeriod := by
  have field : (s.takeConfiguration snap).half 0x06 = s.half 0x06 :=
    State.half_congr (State.byte_put_other _ _ _ _ (by decide)) (State.byte_put_other _ _ _ _ (by decide))
  rw [readSweepPeriod_eq, readSweepPeriod_eq, field]

theorem acceptConfiguration_sweeper (s : State) (snap : Snapshot) :
    (s.acceptConfiguration snap).sweeper = { s.sweeper with timer := s.readSweepPeriod } := by
  have restarted (u : State) (first : Bool) (sweeper : u.sweeper = s.sweeper) (period : u.readSweepPeriod = s.readSweepPeriod) :
      (u.restartTracker.tellBlocks first).sweeper = { s.sweeper with timer := s.readSweepPeriod } := by
    rw [tellBlocks_sweeper, restartTracker_sweeper, sweeper, readSweepPeriod_keeps (restartTracker_keeps (.same _)), period]
  have taken := takeConfiguration_period s snap
  cases before : s.regs.snapshot with
  | none =>
    rw [acceptConfiguration_first before]
    exact restarted _ _ rfl taken
  | some old =>
    by_cases same : old.ppc = snap.ppc
    · rw [acceptConfiguration_same before same, tellBlocks_sweeper, taken]
      rfl
    · rw [acceptConfiguration_changed before same]
      exact restarted _ _ rfl taken

/-- An accepted configuration and a sweep asked for in the same write. -/
theorem exec_enable_asked (writing : s.writing 1) (enable : s.port.lowByte.getLsbD 0 = true)
    (noReset : s.port.lowByte.getLsbD 2 = false) (off : s.regs.enable = false)
    (read : s.readConfiguration = .ok snap) (high : Byte) (echo : Levels) :
    let v := ((s.sampleEcho echo).setPort s.port.pairWritten).acceptConfiguration snap
    exec (.enable high echo) s = .next (if s.port.lowByte.getLsbD 1 = true then { v with
      sweeper := if v.sweeper.visit = none then { v.sweeper with visit := some (.header 0), ending := false }
        else { v.sweeper with latch := true } } else v) := by
  have part := enablePart_ok (s := (s.sampleEcho echo).setPort s.port.pairWritten) read
  have regs := (acceptConfiguration_beside ((s.sampleEcho echo).setPort s.port.pairWritten) snap).regs
  intro v
  rw [execEnable_writing writing enable noReset, writeRunControl_enable (s := (s.sampleEcho echo).setPort s.port.pairWritten)
    ((halfOf_getLsbD (by omega)).trans enable) ((halfOf_getLsbD (by omega)).trans noReset) off, part, halfOf_getLsbD (by omega)]
  have on : v.regs.enable = true := by rw [show v.regs = _ from regs]; rfl
  change Host.Outcome.next (if (s.port.lowByte.getLsbD 1 && v.regs.enable) = true then v.requestSweep else v) = _
  rw [on, Bool.and_true, requestSweep_enabled on]

/-- What an accepted configuration leaves of registers, port, pins and sweeper. -/
theorem enable_snapshotOf (s : State) (high : Byte) (echo : Levels) (writing : s.writing 1)
    (enable : s.port.lowByte.getLsbD 0 = true) (noReset : s.port.lowByte.getLsbD 2 = false) (off : s.regs.enable = false)
    (large : 16 ≤ (s.half 0x00).toNat) (small : (s.byte 0x0A).toNat ≤ 2) :
    ∃ t snap, exec (.enable high echo) s = .next t ∧ s.Configures snap ∧
      t.regs = { s.regs with enable := true, snapshot := some snap, causes := t.regs.causes } ∧
      t.port = s.port.pairWritten ∧ t.pins = { s.pins with echo := echo } ∧
      t.sweeper.timer = s.readSweepPeriod ∧
      (s.port.lowByte.getLsbD 1 = false → t.sweeper.visit = s.sweeper.visit ∧ t.sweeper.latch = s.sweeper.latch) ∧
      (s.port.lowByte.getLsbD 1 = true → s.sweeper.visit = none → t.sweeper.visit = some (.header 0)) ∧
      (s.port.lowByte.getLsbD 1 = true → s.sweeper.visit ≠ none →
        t.sweeper.visit = s.sweeper.visit ∧ t.sweeper.latch = true) := by
  obtain ⟨snap, read, configures⟩ := readConfiguration_ok large small
  have ran := exec_enable_asked writing enable noReset off read high echo
  have beside := acceptConfiguration_beside ((s.sampleEcho echo).setPort s.port.pairWritten) snap
  have sweeper : (((s.sampleEcho echo).setPort s.port.pairWritten).acceptConfiguration snap).sweeper =
      { s.sweeper with timer := s.readSweepPeriod } :=
    acceptConfiguration_sweeper ((s.sampleEcho echo).setPort s.port.pairWritten) snap
  dsimp only at ran
  generalize ((s.sampleEcho echo).setPort s.port.pairWritten).acceptConfiguration snap = v at ran beside sweeper
  refine ⟨_, snap, ran, configures, ?_, ?_, ?_, ?_, fun noSweep => ?_, fun sweep idle => ?_, fun sweep busy => ?_⟩
  · split <;> exact beside.regs
  · split <;> exact beside.port
  · split <;> exact beside.pins
  · split
    · dsimp only
      split <;> rw [sweeper]
    · rw [sweeper]
  · rw [if_neg (by rw [noSweep]; nofun), sweeper]
    exact ⟨rfl, rfl⟩
  · rw [if_pos sweep, sweeper]
    dsimp only
    rw [if_pos idle]
  · rw [if_pos sweep, sweeper]
    dsimp only
    rw [if_neg busy]
    exact ⟨rfl, rfl⟩

end

end Sys2Proof.Machine
end

section
/-! A configuration accepted after an earlier one: the tracker's restart and the engines in HELD (04 R69, R83, 05 R97). -/

namespace Sys2Proof.Machine

section
variable {s t u v : State} {n m : StationId} {e : EngineId} {snap : Snapshot}

/-! ## The tracker's restart with no open question (04 R69) -/

theorem judgeQuestions_closed (closed : ∀ e q, s.question e = some q → q.suspended = true) : s.judgeQuestions = s := by
  refine forAll_invariant (P := fun t => t = s) (fun e t same => ?_) _ rfl
  rw [same]
  refine judgeQuestion_stays ?_
  cases question : s.question e with
  | none => exact .inl rfl
  | some q => exact .inr (.inl ⟨q, rfl, closed e q question⟩)

/-- The restart disturbs the watch of engine e. -/
def State.restartDisturbs (s : State) (e : EngineId) : Prop :=
  ∃ w, s.watch e = some w ∧ w.ground ≠ .wholeCycle ∧ w.disturbed = false

/-- The tracker after a restart. -/
def Tracker.restarted (k : Tracker) : Tracker := { k with angle := 0, valid := false }

theorem isDisturbed_restarted (w : Watch) {k : Tracker} (invalid : k.valid = false) :
    w.isDisturbed k = true ↔ w.ground ≠ .wholeCycle := by
  unfold Watch.isDisturbed
  cases w.ground <;> simp [invalid]

theorem updateTracker_quiet (s : State) (k : Tracker) : s.updateTracker k false = s.tracked k := by
  rw [updateTracker_eq, tracked_frame]
  rfl

/-- The own of an engine as a restart leaves it. -/
structure Unsettled (s t : State) (e : EngineId) : Prop where
  question : t.question e = s.question e
  quiet : ¬s.restartDisturbs e → t.watch e = s.watch e ∧ t.engine e = s.engine e
  disturbed : s.restartDisturbs e →
    t.watch e = (s.watch e).map (fun w => { w with disturbed := true }) ∧ t.engine e = (s.engine e).marked

theorem judgeWatches_restarted (invalid : s.tracker.valid = false) (e : EngineId) : Unsettled s s.judgeWatches e := by
  obtain ⟨u, before, watched⟩ := forAll_own (act := fun e t => t.judgeWatch e)
    (fun e u => judgeWatch_onEngine (.refl e u)) e s
  have same : u.tracker.valid = false := by rw [before.rest]; exact invalid
  change Apart e (u.judgeWatch e) s.judgeWatches at watched
  cases watch : s.watch e with
  | none =>
    rw [judgeWatch_none (before.watch.trans watch)] at watched
    have all := before.trans watched
    refine ⟨all.question, fun _ => ⟨all.watch, all.engine⟩, fun disturbs => ?_⟩
    obtain ⟨w, some_, -⟩ := disturbs
    exact absurd (watch.symm.trans some_) nofun
  | some w =>
    rw [judgeWatch_some (before.watch.trans watch)] at watched
    have disturbs_iff : s.restartDisturbs e ↔ w.disturbed = false ∧ w.isDisturbed u.tracker = true := by
      rw [isDisturbed_restarted w same]
      refine ⟨fun ⟨w', some_, ground, fresh⟩ => ?_, fun ⟨fresh, ground⟩ => ⟨w, watch, ground, fresh⟩⟩
      obtain rfl := Option.some.inj (watch.symm.trans some_)
      exact ⟨fresh, ground⟩
    by_cases disturbs : w.disturbed = false ∧ w.isDisturbed u.tracker = true
    · rw [if_pos disturbs] at watched
      have own := disturb_own (s := u) (e := e) w
      refine ⟨(watched.question.trans own.question).trans before.question, fun no => absurd (disturbs_iff.mpr disturbs) no,
        fun _ => ⟨?_, ?_⟩⟩
      · rw [watched.watch, own.watch, watch]
        rfl
      · rw [watched.engine, own.engine, before.engine]
    · rw [if_neg disturbs] at watched
      have all := before.trans watched
      exact ⟨all.question, fun _ => ⟨all.watch, all.engine⟩, fun yes => absurd (disturbs_iff.mp yes) disturbs⟩

theorem restartTracker_leaves (wf : Memory.wf s.mem = true) (closed : ∀ e q, s.question e = some q → q.suspended = true) :
    let t := s.restartTracker
    Within { s with tracker := s.tracker.restarted, mem := t.mem } t ∧ Recorded s t s.tracker.restarted ∧
    Memory.wf t.mem = true ∧ ∀ e, Unsettled s t e := by
  have frame := tracked_frame s s.tracker.restarted
  have recorded := tracked_recorded (t := s.tracked s.tracker.restarted) wf s.tracker.restarted rfl
  have wf' : Memory.wf (s.tracked s.tracker.restarted).mem = true := by
    unfold State.tracked State.writeTracker
    exact State.wf_put _ _ (State.wf_put _ _ wf)
  have restart : s.restartTracker = (s.tracked s.tracker.restarted).judgeWatches.judgeQuestions := by
    rw [← updateTracker_quiet]
    rfl
  intro t
  rw [show t = s.restartTracker from rfl, restart]
  generalize s.tracked s.tracker.restarted = u at frame recorded wf' ⊢
  have question (e : EngineId) : u.question e = s.question e := by rw [frame]; rfl
  have watch (e : EngineId) : u.watch e = s.watch e := by rw [frame]; rfl
  have engine (e : EngineId) : u.engine e = s.engine e := State.engine_eq (by rw [frame]) e
  have own (e : EngineId) := judgeWatches_restarted (s := u) (by rw [frame]; rfl) e
  have within : Within u u.judgeWatches := judgeWatches_within (.refl u)
  rw [judgeQuestions_closed fun e q asked => closed e q ((question e).symm.trans ((own e).question.symm.trans asked))]
  generalize u.judgeWatches = v at own within ⊢
  refine ⟨?_, ?_, by rw [within.mem]; exact wf', fun e => ?_⟩
  · refine Eq.trans within ?_
    rw [within.mem, frame]
  · obtain ⟨angle, valid, stopped, missed, cycles, rest⟩ := recorded
    have byte := State.byte_congr within.mem
    refine ⟨?_, (byte _).trans valid, (byte _).trans stopped, (byte _).trans missed, ?_, fun a apart => (byte a).trans (rest a apart)⟩
    · rw [State.half_congr (byte _) (byte _), angle]
    · rw [State.long_congr fun i _ => byte _, cycles]
  · obtain ⟨asked, quiet, disturbed⟩ := own e
    rw [question] at asked
    rw [watch, engine] at quiet disturbed
    have same : u.restartDisturbs e ↔ s.restartDisturbs e := by
      unfold State.restartDisturbs
      rw [watch]
    exact ⟨asked, fun no => quiet (mt same.mp no), fun yes => disturbed (same.mpr yes)⟩

/-! ## Every engine in HELD goes on (05 R97) -/

/-- State u has the own of engine e as in state s, and differs in nothing but engines, questions, watches and the order of
the cache's places. -/
structure Beyond (e : EngineId) (s u : State) : Prop where
  rest : Within (s.setCache u.cache) u
  places : u.cache.places = s.cache.places
  engine : u.engine e = s.engine e
  question : u.question e = s.question e
  watch : u.watch e = s.watch e

theorem Beyond.refl (e : EngineId) (s : State) : Beyond e s s := ⟨.refl s, rfl, rfl, rfl, rfl⟩

theorem lookupFound_cache (s : State) (e : EngineId) (i : ShelfId) (p : Profile) : (s.lookupFound e i p).cache = s.cache :=
  (lookupFound_onEngine (.refl e s) i p).rest.cache

theorem beginLookup_places_kept (s : State) (e : EngineId) : (s.beginLookup e).cache.places = s.cache.places := by
  unfold State.beginLookup
  dsimp only
  split
  · split
    · rw [lookupFound_cache]
      rfl
    · rfl
  · rfl

theorem resumeEngine_places_kept (s : State) (e : EngineId) : (s.resumeEngine e).cache.places = s.cache.places := by
  have same := OnEngine.refl e s
  unfold State.resumeEngine
  split
  · split
    · rw [(judgeQuestion_onEngine (setQuestion_onEngine (setPhase_onEngine same _) _)).rest.cache]
    · rw [(askQuestion_onEngine same _).rest.cache]
  · rfl
  · exact beginLookup_places_kept s e
  · rfl
  · rfl
  · rfl

theorem Beyond.resume (h : Beyond e s u) {e' : EngineId} (ne : e ≠ e') : Beyond e s (u.resumeEngine e') := by
  have step := resumeEngine_onEngine e' u
  obtain ⟨engine, question, watch⟩ := step.other e ne
  refine ⟨?_, (resumeEngine_places_kept u e').trans h.places, engine.trans h.engine, question.trans h.question,
    watch.trans h.watch⟩
  have rest := h.rest.setCache (u.resumeEngine e').cache
  exact Within.trans rest step.rest

theorem resumeAll_beyond {xs : List EngineId} (other : e ∉ xs) (h : Beyond e s u) :
    Beyond e s (forAll xs (fun e t => t.resumeEngine e) u) := by
  induction xs generalizing u with
  | nil => exact h
  | cons x xs ih =>
    rw [List.mem_cons, not_or] at other
    obtain ⟨ne, rest⟩ := other
    exact ih rest (h.resume ne)

/-- After every engine in turn, the own of engine e is what its turn has made of it. -/
theorem resumeAll_own (e : EngineId) (s : State) :
    ∃ u, Beyond e s u ∧ Beyond e (u.resumeEngine e) (forAll allEngines (fun e t => t.resumeEngine e) s) := by
  obtain ⟨before, after, eq⟩ := List.append_of_mem (mem_allEngines e)
  have nodup := allEngines_nodup
  rw [eq, List.nodup_middle, List.nodup_cons, List.mem_append, not_or] at nodup
  obtain ⟨⟨early, late⟩, -⟩ := nodup
  have split : forAll allEngines (fun e t => t.resumeEngine e) s = forAll after (fun e t => t.resumeEngine e)
      ((forAll before (fun e t => t.resumeEngine e) s).resumeEngine e) := by
    rw [eq]
    simp [forAll]
  rw [split]
  exact ⟨_, resumeAll_beyond early (.refl e s), resumeAll_beyond late (.refl e _)⟩

theorem resumeAll_rest (s : State) :
    let t := forAll allEngines (fun e t => t.resumeEngine e) s
    Within (s.setCache t.cache) t ∧ t.cache.places = s.cache.places := by
  refine forAll_invariant (P := fun t => Within (s.setCache t.cache) t ∧ t.cache.places = s.cache.places)
    (fun e u h => ?_) _ ⟨.refl s, rfl⟩
  obtain ⟨rest, places⟩ := h
  exact ⟨Within.trans (rest.setCache _) (resumeEngine_onEngine e u).rest, (resumeEngine_places_kept u e).trans places⟩

end

end Sys2Proof.Machine
end

section
/-! A configuration accepted after an earlier one: what each engine does next (01 R16, 05 R97). -/

namespace Sys2Proof.Machine

section
variable {s t u v : State} {n m : StationId} {e : EngineId} {snap : Snapshot}

/-- What was asked of a state holds of one that has the same own of the engine, and the order of the cache at will. -/
theorem Beyond.asked (h : Beyond e t u) {g : Engine} {x : Work} {c : Setup} {q : Question} {p : Profile} {echo : Levels}
    {w : Option Watch} (asked : t.asked e g x n c q snap p echo w) : u.asked e g x n c q snap p echo w := by
  have ground : c.groundOn u.tracker snap = c.groundOn t.tracker snap := h.rest.ground c snap
  unfold State.asked at asked ⊢
  rw [ground, h.engine, h.question, h.watch]
  exact asked

/-- A held question resumed, or asked anew. -/
theorem resumeEngine_gating {x : Work} {j : Job} {p : Profile} (snapshot : s.regs.snapshot = some snap)
    (held : (s.engine e).phase = .held (.gating x)) (job : (s.engine e).job = some j)
    (noStop : (s.engine e).stopAtHoldBegin = false) (profile : x = .round → (s.engine e).profile = some p) :
    (s.resumeEngine e).asked e (s.engine e) x j.station (s.station j.station).setup
      (match s.question e with
        | some q => { q with suspended := false }
        | none => { timer := 0, suspended := false }) snap p s.pins.echo (s.watch e) := by
  unfold State.resumeEngine
  rw [held]
  dsimp only
  cases question : s.question e with
  | none => exact askQuestion_asked snapshot job noStop x p profile
  | some q =>
    have own := ((Own.of s e).mod fun g => { g with phase := .gating x }).ask (some { q with suspended := false })
    have judged : Judged ((s.setPhase e (.gating x)).setQuestion e (some { q with suspended := false })) e
        { q with suspended := false } x snap j :=
      ⟨own.question, rfl, snapshot, congrArg Engine.phase own.engine, (congrArg Engine.job own.engine).trans job,
        (congrArg Engine.stopAtHoldBegin own.engine).trans noStop⟩
    have asked := judgeQuestion_asked judged p fun round => (congrArg Engine.profile own.engine).trans (profile round)
    dsimp only
    generalize State.judgeQuestion _ e = t at asked ⊢
    rw [show ((s.setPhase e (.gating x)).setQuestion e (some { q with suspended := false })).engine e = _ from own.engine,
      show ((s.setPhase e (.gating x)).setQuestion e (some { q with suspended := false })).watch e = _ from own.watch] at asked
    have back := asked.from (.held (.gating x))
    rw [show ({ ({ s.engine e with phase := Phase.gating x } : Engine) with phase := Phase.held (.gating x) } : Engine) =
      s.engine e by rw [← held]] at back
    exact back

theorem resumeEngine_settling (held : (s.engine e).phase = .held .settling) :
    s.resumeEngine e = s.modEngine e fun g => { g with phase := .settling, settle := 0 } := by
  unfold State.resumeEngine
  rw [held]
  rfl

theorem resumeEngine_lookup (held : (s.engine e).phase = .held (.computing .lookup)) :
    s.resumeEngine e = s.beginLookup e := by
  unfold State.resumeEngine
  rw [held]

theorem resumeEngine_scoring (snapshot : s.regs.snapshot = some snap) (held : (s.engine e).phase = .held (.computing .scoring)) :
    s.resumeEngine e = s.modEngine e fun g => { g with phase := .computing .scoring, nref := snap.nref[e.val] } := by
  unfold State.resumeEngine
  rw [held]
  dsimp only
  unfold State.beginScoring
  rw [snapshot]

theorem resumeEngine_writing (held : (s.engine e).phase = .held .writing) :
    s.resumeEngine e = s.modEngine e fun g => { g with phase := .writing .result } := by
  unfold State.resumeEngine
  rw [held]
  rfl

/-- A lookup begun on a state with the cache's places in another order, as seen from a state with the same own. -/
theorem lookupBegun_congr {a b : State} {g : Engine} {tag : List Byte} {echo : Levels} (h : a.lookupBegun b e g n tag snap echo)
    (fixed : a.regs.shelfFixed = s.regs.shelfFixed) (places : a.cache.places = s.cache.places)
    (station : a.station n = s.station n) (question : a.question e = s.question e) (watch : a.watch e = s.watch e)
    (beyond : Beyond e b t) : s.lookupBegun t e g n tag snap echo := by
  unfold State.lookupBegun at h ⊢
  rw [fixed, places, station, question, watch, ← beyond.engine, ← beyond.question, ← beyond.watch] at h
  obtain ⟨misses, hits⟩ := h
  refine ⟨misses, fun q x on hit first => ?_⟩
  obtain ⟨outside, inside⟩ := hits q x on hit first
  exact ⟨outside, fun date => beyond.asked (inside date)⟩

/-! ## The part before its engines go on -/

/-- State r comes from state s by an accepted configuration whose tracker restarts or not, before the engines are told. -/
structure Prepared (s r : State) (snap : Snapshot) (echo : Levels) (restarts : Prop) [Decidable restarts] : Prop where
  frame : Within { s with
    port := s.port.pairWritten, pins := { s.pins with echo := echo }, mem := r.mem
    regs := { s.regs with enable := true, snapshot := some snap }
    tracker := { s.tracker with
      angle := if restarts then 0 else s.tracker.angle, valid := if restarts then false else s.tracker.valid } } r
  question : ∀ e, r.question e = s.question e
  quiet : ∀ e, ¬(restarts ∧ s.restartDisturbs e) → r.watch e = s.watch e ∧ r.engine e = s.engine e
  disturbed : ∀ e, restarts ∧ s.restartDisturbs e →
    r.watch e = (s.watch e).map (fun w => { w with disturbed := true }) ∧ r.engine e = (s.engine e).marked
  fault : r.byte 0x85 = 0xFF
  record : restarts → r.half 0x80 = 0 ∧ r.byte 0x82 = 0 ∧ r.byte 0x83 = flagByte s.tracker.stopped ∧
    r.byte 0x84 = flagByte s.tracker.indexMissed ∧ r.long 0x88 = s.tracker.cycles
  bytes : ∀ a, (a < 0x80 ∨ a = 0x86 ∨ a = 0x87 ∨ 0x8C ≤ a ∨ ¬restarts ∧ a ≠ 0x85) → r.byte a = s.byte a

/-- The part with the configuration taken and its tracker told. -/
def State.prepared (s : State) (snap old : Snapshot) (echo : Levels) : State :=
  let w := ((s.sampleEcho echo).setPort s.port.pairWritten).takeConfiguration snap
  if old.ppc ≠ snap.ppc then w.restartTracker else w

theorem prepared_leaves (wf : Memory.wf s.mem = true) (closed : ∀ e q, s.question e = some q → q.suspended = true)
    (snap old : Snapshot) (echo : Levels) : Prepared s (s.prepared snap old echo) snap echo (old.ppc ≠ snap.ppc) := by
  unfold State.prepared
  dsimp only
  have byte (a : Nat) : (((s.sampleEcho echo).setPort s.port.pairWritten).takeConfiguration snap).byte a =
      if a = 0x85 then 0xFF else s.byte a :=
    put_one (t := ((s.sampleEcho echo).setPort s.port.pairWritten).setRegs _) wf _ _ a
  have frame : ((s.sampleEcho echo).setPort s.port.pairWritten).takeConfiguration snap = { s with
      port := s.port.pairWritten, pins := { s.pins with echo := echo }
      mem := (((s.sampleEcho echo).setPort s.port.pairWritten).takeConfiguration snap).mem
      regs := { s.regs with enable := true, snapshot := some snap } } := rfl
  have wf' : Memory.wf (((s.sampleEcho echo).setPort s.port.pairWritten).takeConfiguration snap).mem = true :=
    State.wf_put _ _ wf
  generalize ((s.sampleEcho echo).setPort s.port.pairWritten).takeConfiguration snap = w at byte frame wf' ⊢
  have question (e : EngineId) : w.question e = s.question e := by rw [frame]; rfl
  have watch (e : EngineId) : w.watch e = s.watch e := by rw [frame]; rfl
  have engine (e : EngineId) : w.engine e = s.engine e := State.engine_eq (by rw [frame]) e
  by_cases restarts : old.ppc ≠ snap.ppc
  · rw [if_pos restarts]
    obtain ⟨within, recorded, -, own⟩ := restartTracker_leaves wf' fun e q asked => closed e q ((question e).symm.trans asked)
    generalize w.restartTracker = r at within recorded own ⊢
    obtain ⟨angle, valid, stopped, missed, cycles, rest⟩ := recorded
    have same (e : EngineId) : w.restartDisturbs e ↔ s.restartDisturbs e := by
      unfold State.restartDisturbs
      rw [watch]
    refine ⟨?_, fun e => (own e).question.trans (question e), fun e no => ?_, fun e yes => ?_, ?_, fun _ => ?_, fun a apart => ?_⟩
    · rw [if_pos restarts, if_pos restarts]
      refine (congrArg (Within · r) ?_).mp within
      rw [frame]
      rfl
    · rw [← watch, ← engine]
      exact (own e).quiet fun disturbs => no ⟨restarts, (same e).mp disturbs⟩
    · rw [← watch, ← engine]
      exact (own e).disturbed ((same e).mpr yes.2)
    · rw [rest _ (by omega), byte, if_pos rfl]
    · rw [frame] at stopped missed cycles
      exact ⟨angle, valid, stopped, missed, cycles⟩
    · have outside : a < 0x80 ∨ a = 0x86 ∨ a = 0x87 ∨ 0x8C ≤ a := by
        obtain h | h | h | h | h := apart
        · exact .inl h
        · exact .inr (.inl h)
        · exact .inr (.inr (.inl h))
        · exact .inr (.inr (.inr h))
        · exact absurd restarts h.1
      rw [rest a (by omega), byte, if_neg (by omega)]
  · rw [if_neg restarts]
    refine ⟨?_, question, fun e _ => ⟨watch e, engine e⟩, fun e yes => absurd yes.1 restarts, ?_, fun yes => absurd yes restarts,
      fun a apart => ?_⟩
    · have engines : w.engines = s.engines := by rw [frame]
      have tracker : w.tracker = s.tracker := by rw [frame]
      rw [if_neg restarts, if_neg restarts]
      refine frame.trans ?_
      rw [engines, tracker]
    · rw [byte, if_pos rfl]
    · rw [byte, if_neg (by omega)]

section
variable {r : State} {echo : Levels} {restarts : Prop} [Decidable restarts]

theorem Prepared.enable (h : Prepared s r snap echo restarts) : r.regs.enable = true := by rw [h.frame]
theorem Prepared.snapshot (h : Prepared s r snap echo restarts) : r.regs.snapshot = some snap := by rw [h.frame]
theorem Prepared.shelfFixed (h : Prepared s r snap echo restarts) : r.regs.shelfFixed = s.regs.shelfFixed := by rw [h.frame]
theorem Prepared.line (h : Prepared s r snap echo restarts) : r.pins.echo = echo := by rw [h.frame]
theorem Prepared.cache (h : Prepared s r snap echo restarts) : r.cache = s.cache := by rw [h.frame]
theorem Prepared.station (h : Prepared s r snap echo restarts) (n : StationId) : r.station n = s.station n :=
  State.station_eq (by rw [h.frame]) n

theorem Prepared.phase (h : Prepared s r snap echo restarts) (e : EngineId) : (r.engine e).phase = (s.engine e).phase := by
  by_cases disturbs : restarts ∧ s.restartDisturbs e
  · rw [(h.disturbed e disturbs).2, marked_phase]
  · rw [(h.quiet e disturbs).2]

/-- An engine outside HELD, after every engine in HELD has gone on. -/
theorem resumed_free (h : Prepared s r snap echo restarts) (free : ∀ next, (s.engine e).phase ≠ .held next) :
    Beyond e r (forAll allEngines (fun e t => t.resumeEngine e) r) := by
  obtain ⟨a, before, after⟩ := resumeAll_own e r
  rw [resumeEngine_free fun next => by rw [before.engine, h.phase]; exact free next] at after
  obtain ⟨rest, places⟩ := resumeAll_rest r
  exact ⟨rest, places, after.engine.trans before.engine, after.question.trans before.question,
    after.watch.trans before.watch⟩

/-- An engine without a watch, in HELD for a step: what each step makes of it. -/
structure Resumed (s t : State) (snap : Snapshot) (echo : Levels) (e : EngineId) : Prop where
  gating : ∀ w j p, (s.engine e).phase = .held (.gating w) → (s.engine e).job = some j →
    (s.engine e).stopAtHoldBegin = false → (w = .round → (s.engine e).profile = some p) →
    t.asked e (s.engine e) w j.station (s.station j.station).setup
      (match s.question e with
        | some q => { q with suspended := false }
        | none => { timer := 0, suspended := false }) snap p echo none
  settling : (s.engine e).phase = .held .settling →
    t.engine e = { s.engine e with phase := .settling, settle := 0 } ∧ t.question e = s.question e ∧ t.watch e = none
  lookup : ∀ j, (s.engine e).phase = .held (.computing .lookup) → (s.engine e).job = some j →
    (s.engine e).stopAtHoldBegin = false →
    s.lookupBegun t e (s.engine e) j.station (s.engine e).tag snap echo
  scoring : (s.engine e).phase = .held (.computing .scoring) →
    t.engine e = { s.engine e with phase := .computing .scoring, nref := snap.nref[e.val] } ∧
    t.question e = s.question e ∧ t.watch e = none
  writing : (s.engine e).phase = .held .writing →
    t.engine e = { s.engine e with phase := .writing .result } ∧ t.question e = s.question e ∧ t.watch e = none

theorem resumed_held (h : Prepared s r snap echo restarts) (noWatch : s.watch e = none) :
    Resumed s (forAll allEngines (fun e t => t.resumeEngine e) r) snap echo e := by
  obtain ⟨a, before, after⟩ := resumeAll_own e r
  generalize forAll allEngines (fun e t => t.resumeEngine e) r = z at after ⊢
  obtain ⟨watch, engine⟩ := h.quiet e fun disturbs => by
    obtain ⟨-, w, some_, -⟩ := disturbs
    exact absurd (noWatch.symm.trans some_) nofun
  have aengine : a.engine e = s.engine e := before.engine.trans engine
  have aquestion : a.question e = s.question e := before.question.trans (h.question e)
  have awatch : a.watch e = s.watch e := before.watch.trans watch
  have regs : a.regs = r.regs := by rw [before.rest]; rfl
  have asnapshot : a.regs.snapshot = some snap := by rw [regs, h.snapshot]
  have line : a.pins.echo = echo := by rw [show a.pins = r.pins by rw [before.rest]; rfl, h.line]
  have station (n : StationId) : a.station n = s.station n :=
    (State.station_eq (by rw [before.rest]; rfl) n).trans (h.station n)
  have kept {f : Engine → Engine} (turn : a.resumeEngine e = a.modEngine e f) :
      z.engine e = f (s.engine e) ∧ z.question e = s.question e ∧ z.watch e = none := by
    rw [turn] at after
    refine ⟨?_, after.question.trans aquestion, after.watch.trans (awatch.trans noWatch)⟩
    rw [after.engine, State.engine_modEngine_self, aengine]
  refine ⟨fun w j p held job noStop profile => ?_, fun held => ?_, fun j held job noStop => ?_, fun held => ?_, fun held => ?_⟩
  · have asked := resumeEngine_gating asnapshot (by rw [aengine]; exact held) (by rw [aengine]; exact job)
      (by rw [aengine]; exact noStop) (p := p) (by rw [aengine]; exact profile)
    rw [aengine, aquestion, awatch, noWatch, station, line] at asked
    exact after.asked asked
  · exact kept (resumeEngine_settling (by rw [aengine]; exact held))
  · rw [resumeEngine_lookup (by rw [aengine]; exact held)] at after
    have begun := beginLookup_begun (s := a) (e := e) (j := j) (by rw [regs, h.enable]) asnapshot (by rw [aengine]; exact job)
      (by rw [aengine]; exact noStop)
    rw [aengine, line] at begun
    exact lookupBegun_congr begun (by rw [regs, h.shelfFixed]) (by rw [before.places, h.cache]) (station _) aquestion awatch
      after
  · exact kept (resumeEngine_scoring asnapshot (by rw [aengine]; exact held))
  · exact kept (resumeEngine_writing (by rw [aengine]; exact held))

end

/-- Settles O20: the snapshot is the block's fields, and every engine in HELD takes its turn on the prepared part. -/
theorem enableTakesTheSnapshotOf : Obligations.EnableTakesTheSnapshotOf := by
  refine ⟨fun s high echo writing enable noReset off large small => ?_, fun s high echo old wf writing enable noSweep noReset off large
    small before empty closed => ?_⟩
  · obtain ⟨t, snap, ran, configures, regs, port, pins, timer, quiet, starts, latches⟩ :=
      enable_snapshotOf s high echo writing enable noReset off large small
    obtain ⟨ppc, mclk, midx, stop, stopped, filter, cell, gate, nref⟩ := configures
    exact ⟨t, snap, ran, regs, ppc, mclk, midx, stop, stopped, filter, cell, gate, nref, port, pins, timer, quiet, starts,
      latches⟩
  · obtain ⟨snap, read, configures⟩ := readConfiguration_ok large small
    have ran := exec_enable_accepted writing enable noSweep noReset off read high echo
    have prepared := prepared_leaves wf closed snap old echo
    have accepted : ((s.sampleEcho echo).setPort s.port.pairWritten).acceptConfiguration snap =
        (s.prepared snap old echo).tellBlocks false := by
      unfold State.prepared
      dsimp only
      by_cases restarts : old.ppc ≠ snap.ppc
      · rw [if_pos restarts]
        exact acceptConfiguration_changed before restarts
      · rw [if_neg restarts]
        exact acceptConfiguration_same before (not_not.mp restarts)
    rw [accepted] at ran
    generalize s.prepared snap old echo = r at prepared ran
    rw [configures.ppc] at prepared
    have free (e : EngineId) := resumed_free (e := e) prepared
    have held (e : EngineId) := resumed_held (e := e) prepared
    obtain ⟨rest, places⟩ := resumeAll_rest r
    unfold State.tellBlocks at ran
    generalize forAll allEngines (fun e t => t.resumeEngine e) r = z at ran free held rest places
    have waiting : z.waiting = [] := by
      rw [rest]
      change r.waiting = []
      rw [prepared.frame]
      exact empty
    change exec (.enable high echo) s = .next (z.setSweeper { z.sweeper with timer := z.readSweepPeriod }).allocate at ran
    rw [allocate_empty (s := z.setSweeper { z.sweeper with timer := z.readSweepPeriod }) waiting] at ran
    have mem : z.mem = r.mem := by rw [rest]; rfl
    have byte := State.byte_congr mem
    have frame : z = { s with
        port := s.port.pairWritten, pins := { s.pins with echo := echo }, mem := z.mem, engines := z.engines
        regs := { s.regs with enable := true, snapshot := some snap }, cache := z.cache
        tracker := { s.tracker with
          angle := if old.ppc ≠ s.half 0x00 then 0 else s.tracker.angle
          valid := if old.ppc ≠ s.half 0x00 then false else s.tracker.valid
          questions := z.tracker.questions, watches := z.tracker.watches } } := by
      have all := Within.trans (prepared.frame.setCache z.cache) rest
      rw [← mem] at all
      exact all
    refine ⟨_, snap, ran, by rw [frame]; rfl, ?_, places.trans (by rw [prepared.cache]), (byte _).trans prepared.fault,
      fun restarts => ?_, fun a apart => (byte a).trans (prepared.bytes a apart), fun e => ⟨fun out => ⟨?_, fun calm => ?_,
      fun disturbs => ?_⟩, fun noWatch => ?_⟩⟩
    · have sweeper : z.sweeper = s.sweeper := by rw [frame]
      rw [sweeper]
      exact congrArg (fun a : State => ({ a with
        sweeper := { s.sweeper with timer := z.readSweepPeriod } } : State)) frame
    · obtain ⟨angle, valid, stopped, missed, cycles⟩ := prepared.record restarts
      exact ⟨(State.half_congr (byte _) (byte _)).trans angle, (byte _).trans valid, (byte _).trans stopped,
        (byte _).trans missed, (State.long_congr fun i _ => byte _).trans cycles⟩
    · exact ((free e out).question).trans (prepared.question e)
    · obtain ⟨watch, engine⟩ := prepared.quiet e calm
      exact ⟨(free e out).watch.trans watch, (free e out).engine.trans engine⟩
    · obtain ⟨watch, engine⟩ := prepared.disturbed e disturbs
      refine ⟨(free e out).watch.trans watch, (free e out).engine.trans (engine.trans ?_)⟩
      by_cases reading : (s.engine e).phase = .reading
      · rw [if_pos reading, marked_reading reading]
      · rw [if_neg reading, marked_other reading]
    · obtain ⟨gating, settling, lookup, scoring, writing⟩ := held e noWatch
      rw [configures.nref] at scoring
      exact ⟨gating, settling, lookup, scoring, writing⟩

end

end Sys2Proof.Machine
end

section
/-! The first configuration since a reset: the Supervisor becomes active (03 R46). -/

namespace Sys2Proof.Machine

section
variable {s t u r : State} {n m : StationId} {snap : Snapshot} {xs : List StationId}

/-- Offsets of two records do not meet. -/
theorem records_apart (other : m ≠ n) {o o' : Nat} (small : o < 128) (small' : o' < 128) :
    stationBase m + o ≠ stationBase n + o' := by
  have := Fin.val_ne_of_ne other
  unfold stationBase
  omega

theorem eventOffset_small {o : Nat} (event : eventOffset o = true) : o < 128 := offset_small (.inl event)

/-- The Supervisor has become active for these stations, each reset before. -/
structure Activated (r t : State) (xs : List StationId) : Prop where
  frame : t = { r with mem := t.mem, stations := t.stations, regs := { r.regs with causes := t.regs.causes } }
  causes : t.regs.causes = if ∃ n ∈ xs, t.recordKey n ≠ r.recordKey n ∧ r.byte (stationBase n + 0x18) ≠ 1
    then r.regs.causes ||| 0b00010 else r.regs.causes
  station : ∀ n ∈ xs, t.station n = { Station.reset with setup := r.readSetup n }
  rest : ∀ n, n ∉ xs → t.station n = r.station n
  code : ∀ n ∈ xs, t.byte (stationBase n + 0x10) = if r.byte (stationBase n) ≠ 0 then 0x01 else 0x00
  follows : ∀ n ∈ xs, r.recordFollows t n
  bytes : ∀ a, (∀ n ∈ xs, ∀ o, eventOffset o = true → a ≠ stationBase n + o) → t.byte a = r.byte a
  wf : Memory.wf t.mem = true

theorem Activated.nil (wf : Memory.wf r.mem = true) : Activated r r [] := by
  refine ⟨rfl, ?_, fun _ h => absurd h List.not_mem_nil, fun _ _ => rfl, fun _ h => absurd h List.not_mem_nil,
    fun _ h => absurd h List.not_mem_nil, fun _ _ => rfl, wf⟩
  rw [if_neg]
  rintro ⟨n, mem, -⟩
  exact absurd mem List.not_mem_nil

theorem Activated.record (h : Activated r t xs) (fresh : n ∉ xs) (o : Nat) (small : o < 128) :
    t.byte (stationBase n + o) = r.byte (stationBase n + o) :=
  h.bytes _ fun m mem _ event => records_apart (fun same : n = m => fresh (same ▸ mem)) small (eventOffset_small event)

/-- With nothing present and no fault a station is EMPTY or OFF, by its enable. -/
theorem derived_absent {held : Bool} (configured : t.configured = true) (absent : (t.station n).present = false)
    (noFault : (t.station n).fault = false) :
    t.derived n held = if (t.station n).setup.enabled = true then .empty else .off := by
  simp only [State.derived]
  rw [configured, absent, noFault]
  cases (t.station n).setup.enabled <;> rfl

theorem flagRaised_causes {v : State} (regs : v.regs = t.flagRaised v n) : v.regs = { t.regs with causes := v.regs.causes } := by
  rw [regs]
  unfold State.flagRaised
  split_ifs <;> rfl

theorem Activated.step (h : Activated r t xs) (fresh : n ∉ xs) (configured : r.configured = true)
    (reset : r.station n = Station.reset) : Activated r (t.activateStation n) (xs ++ [n]) := by
  have record := h.record fresh
  have before : t.station n = Station.reset := (h.rest n fresh).trans reset
  have setup : t.readSetup n = r.readSetup n := readSetup_congr fun o small => record o (by omega)
  have settled : Settled t _ (t.activateStation n) n :=
    (modStation_acted h.wf n fun x => { Station.reset with setup := t.readSetup n, permit := x.permit }).settled
  generalize t.activateStation n = v at settled ⊢
  have apart (a : Nat) (off : ∀ o, eventOffset o = true → a ≠ stationBase n + o) : v.byte a = t.byte a :=
    settled.mem_apart off
  obtain ⟨frame, own, others, follows, bytes, wf⟩ := settled
  rw [State.station_modStation_self, setup] at own
  have vholds : v.holds = t.holds := by rw [frame]; rfl
  have vregs : v.regs = t.flagRaised v n := by
    generalize t.flagRaised v n = x at frame ⊢
    rw [frame]
  have vtracker : v.tracker = t.tracker := by rw [frame]; rfl
  have vconfigured : v.configured = true := by
    rw [State.configured, vregs, flagRaised_snapshot, h.frame]
    exact configured
  have absent : (v.station n).present = false := by rw [own]; rfl
  have permit : (v.station n).permit = false := follows.lost (.inr (.inr absent))
  have elsewhere (m : StationId) (other : m ≠ n) (o : Nat) (small : o < 128) :
      v.byte (stationBase m + o) = t.byte (stationBase m + o) :=
    apart _ fun o' event => records_apart other small (eventOffset_small event)
  have key (m : StationId) (other : m ≠ n) : v.recordKey m = t.recordKey m := by
    simp only [State.recordKey, elsewhere m other stState (by decide), elsewhere m other stPresent (by decide),
      elsewhere m other stFaultCause (by decide)]
  have stays (m : StationId) (other : m ≠ n) : v.station m = t.station m := by
    rw [others m other, State.station_modStation_other _ _ _ _ other]
  have among (m : StationId) (mem : m ∈ xs) : m ≠ n := fun same => fresh (same ▸ mem)
  have split {m : StationId} (mem : m ∈ xs ++ [n]) : m ∈ xs ∨ m = n := (List.mem_append.mp mem).imp id List.mem_singleton.mp
  refine ⟨?_, ?_, fun m mem => ?_, fun m out => ?_, fun m mem => ?_, fun m mem => ?_, fun a off => ?_, wf⟩
  · have regs : v.regs = { r.regs with causes := v.regs.causes } := by
      rw [flagRaised_causes vregs, h.frame]
    have notices := h.frame
    rw [← regs]
    rw [← vregs] at frame
    refine frame.trans ?_
    rw [notices]
    rfl
  · have own_key : t.recordKey n = r.recordKey n := by
      simp only [State.recordKey, record stState (by decide), record stPresent (by decide), record stFaultCause (by decide)]
    have some_iff : (∃ m ∈ xs ++ [n], v.recordKey m ≠ r.recordKey m ∧ r.byte (stationBase m + 0x18) ≠ 1) ↔
        (∃ m ∈ xs, t.recordKey m ≠ r.recordKey m ∧ r.byte (stationBase m + 0x18) ≠ 1) ∨
        (v.recordKey n ≠ r.recordKey n ∧ r.byte (stationBase n + 0x18) ≠ 1) := by
      constructor
      · rintro ⟨m, mem, moved, clear⟩
        obtain mem | rfl := split mem
        · exact .inl ⟨m, mem, by rwa [← key m (among m mem)], clear⟩
        · exact .inr ⟨moved, clear⟩
      · rintro (⟨m, mem, moved, clear⟩ | last)
        · exact ⟨m, by simp [mem], by rwa [key m (among m mem)], clear⟩
        · exact ⟨n, by simp, last⟩
    rw [vregs, if_congr some_iff rfl rfl, State.flagRaised, own_key, record stChangeFlag (by decide)]
    by_cases last : v.recordKey n ≠ r.recordKey n ∧ r.byte (stationBase n + 0x18) ≠ 1
    · have moves : ¬(v.recordKey n = r.recordKey n ∨ r.byte (stationBase n + stChangeFlag) = 1) := not_or.mpr last
      rw [if_pos (Or.inr last), if_neg moves]
      change t.regs.causes ||| 0b00010 = _
      rw [h.causes]
      split
      · rw [BitVec.or_assoc, BitVec.or_self]
      · rfl
    · have still : v.recordKey n = r.recordKey n ∨ r.byte (stationBase n + stChangeFlag) = 1 := by
        by_contra moves
        exact last (not_or.mp moves)
      rw [if_pos still, h.causes]
      exact if_congr (or_iff_left last).symm rfl rfl
  · obtain mem | rfl := split mem
    · rw [stays m (among m mem), h.station m mem]
    · rw [own, permit]
      rfl
  · rw [List.mem_append, List.mem_singleton, not_or] at out
    rw [stays m out.2, h.rest m out.1]
  · obtain mem | rfl := split mem
    · rw [elsewhere m (among m mem) 0x10 (by decide), h.code m mem]
    · have enabled : (v.station m).setup.enabled = decide (r.byte (stationBase m) ≠ 0) := by rw [own]; rfl
      rw [show v.byte (stationBase m + 0x10) = _ from follows.1, derived_absent vconfigured absent (by rw [own]; rfl), enabled]
      by_cases off : r.byte (stationBase m) = 0
      · rw [if_neg (not_not.mpr off), decide_eq_false (not_not.mpr off)]
        rfl
      · rw [if_pos off, decide_eq_true off]
        rfl
  · obtain mem | rfl := split mem
    · refine (h.follows m mem).of_bytes ⟨?_, ?_, by rw [stays m (among m mem)], fun p => ?_⟩
        fun o small => elsewhere m (among m mem) o (by omega)
      · rw [vconfigured, State.configured, h.frame]
        exact configured.symm
      · rw [State.held, State.holder, vholds]
        rfl
      · have cell := elsewhere m (among m mem) (0x20 + 20 * p.val) (by omega)
        rwa [← Nat.add_assoc] at cell
    · exact follows.from_same (by rw [h.frame]) fun o small => record o (by omega)
  · rw [apart a fun o event => off n (by simp) o event, h.bytes a fun m mem => off m (by simp [mem])]

theorem activateAll (wf : Memory.wf r.mem = true) (configured : r.configured = true)
    (reset : ∀ n, r.station n = Station.reset) (xs : List StationId) (distinct : xs.Nodup) :
    Activated r (forAll xs (fun n t => t.activateStation n) r) xs := by
  induction xs using List.reverseRecOn with
  | nil => exact .nil wf
  | append_singleton xs n ih =>
    obtain ⟨before, -, apart⟩ := List.nodup_append.mp distinct
    have split : forAll (xs ++ [n]) (fun n t => t.activateStation n) r =
        (forAll xs (fun n t => t.activateStation n) r).activateStation n := by simp [forAll]
    rw [split]
    exact (ih before).step (fun mem => apart n mem n (List.mem_singleton_self n) rfl) configured (reset n)

/-! ## The first acceptance (01 R16) -/

theorem restartTracker_still (noWatch : ∀ e, s.watch e = none) (idle : ∀ e x, (s.engine e).phase ≠ .gating x) :
    s.restartTracker = s.tracked s.tracker.restarted := by
  have frame := tracked_frame s s.tracker.restarted
  have restart : s.restartTracker = (s.tracked s.tracker.restarted).judgeWatches.judgeQuestions := by
    rw [← updateTracker_quiet]
    rfl
  rw [restart]
  generalize s.tracked s.tracker.restarted = u at frame ⊢
  have watched : u.judgeWatches = u := forAll_invariant (P := fun t => t = u) (fun e t same => by
    rw [same]
    exact judgeWatch_none (by rw [frame]; exact noWatch e)) _ rfl
  have judged : u.judgeQuestions = u := forAll_invariant (P := fun t => t = u) (fun e t same => by
    rw [same]
    refine judgeQuestion_stays (.inr (.inr (.inl fun x => ?_)))
    rw [State.engine_eq (s := s) (by rw [frame])]
    exact idle e x) _ rfl
  rw [watched, judged]

/-- The part at its first configuration, before the Supervisor becomes active. -/
@[irreducible] def State.awakened (s : State) (snap : Snapshot) (echo : Levels) : State :=
  let w := ((s.sampleEcho echo).setPort s.port.pairWritten).takeConfiguration snap
  (w.setTracker { s.tracker with stopTimer := 0 }).tracked { s.tracker with angle := 0, valid := false, stopTimer := 0 }

theorem awakened_leaves (wf : Memory.wf s.mem = true) (snap : Snapshot) (echo : Levels) :
    let r := s.awakened snap echo
    r = { s with
      port := s.port.pairWritten, pins := { s.pins with echo := echo }, mem := r.mem
      regs := { s.regs with enable := true, snapshot := some snap }
      tracker := { s.tracker with angle := 0, valid := false, stopTimer := 0 } } ∧
    (∀ a, (a < 0x80 ∨ 0x8C ≤ a) → r.byte a = s.byte a) ∧ Memory.wf r.mem = true := by
  unfold State.awakened
  dsimp only
  have byte (a : Nat) : (((s.sampleEcho echo).setPort s.port.pairWritten).takeConfiguration snap).byte a =
      if a = 0x85 then 0xFF else s.byte a :=
    put_one (t := ((s.sampleEcho echo).setPort s.port.pairWritten).setRegs _) wf _ _ a
  have frame : ((s.sampleEcho echo).setPort s.port.pairWritten).takeConfiguration snap = { s with
      port := s.port.pairWritten, pins := { s.pins with echo := echo }
      mem := (((s.sampleEcho echo).setPort s.port.pairWritten).takeConfiguration snap).mem
      regs := { s.regs with enable := true, snapshot := some snap } } := rfl
  have wf' : Memory.wf (((s.sampleEcho echo).setPort s.port.pairWritten).takeConfiguration snap).mem = true :=
    State.wf_put _ _ wf
  generalize ((s.sampleEcho echo).setPort s.port.pairWritten).takeConfiguration snap = w at byte frame wf' ⊢
  have tracked := tracked_frame (w.setTracker { s.tracker with stopTimer := 0 })
    { s.tracker with angle := 0, valid := false, stopTimer := 0 }
  have tbyte := tracked_byte (s := w.setTracker { s.tracker with stopTimer := 0 }) wf'
    { s.tracker with angle := 0, valid := false, stopTimer := 0 }
  have twf : Memory.wf ((w.setTracker { s.tracker with stopTimer := 0 }).tracked
      { s.tracker with angle := 0, valid := false, stopTimer := 0 }).mem = true := by
    unfold State.tracked State.writeTracker
    exact State.wf_put _ _ (State.wf_put _ _ wf')
  generalize (w.setTracker { s.tracker with stopTimer := 0 }).tracked
    { s.tracker with angle := 0, valid := false, stopTimer := 0 } = r at tracked tbyte twf ⊢
  refine ⟨?_, fun a apart => ?_, twf⟩
  · refine tracked.trans ?_
    rw [frame]
    rfl
  · rw [tbyte, if_neg (by omega), if_neg (by omega)]
    exact (byte a).trans (if_neg (by omega))

theorem acceptConfiguration_awakened (before : s.regs.snapshot = none) (snap : Snapshot) (echo : Levels)
    (idle : ∀ e, (s.engine e).phase = .idle) (noWatch : ∀ e, s.watch e = none) :
    ((s.sampleEcho echo).setPort s.port.pairWritten).acceptConfiguration snap =
      (s.awakened snap echo).tellBlocks true := by
  have still : ((((s.sampleEcho echo).setPort s.port.pairWritten).takeConfiguration snap).setTracker
      { s.tracker with stopTimer := 0 }).restartTracker = s.awakened snap echo := by
    refine Eq.trans (restartTracker_still ?_ ?_) ?_
    · exact noWatch
    · exact fun e x gating => nomatch (idle e).symm.trans gating
    · unfold State.awakened
      rfl
  rw [acceptConfiguration_first (s := (s.sampleEcho echo).setPort s.port.pairWritten) before, ← still]
  rfl

theorem tellBlocks_first (resumed : forAll allEngines (fun e t => t.resumeEngine e) r = r) :
    r.tellBlocks true = (r.activateSupervisor.setSweeper { r.activateSupervisor.sweeper with
      timer := r.activateSupervisor.readSweepPeriod }).allocate := by
  unfold State.tellBlocks
  rw [resumed]
  rfl

/-- Settles O21: with nothing to tell the engines, each station in turn is served an event of its own. -/
theorem firstEnableActivatesTheStations : Obligations.FirstEnableActivatesTheStations := by
  intro s high echo wf writing enable noReset off large small before empty idle reset free noWatch
  obtain ⟨snap, read, -⟩ := readConfiguration_ok large small
  have ran := exec_enable_asked writing enable noReset off read high echo
  obtain ⟨rframe, rbytes, rwf⟩ := awakened_leaves wf snap echo
  rw [acceptConfiguration_awakened before snap echo idle noWatch] at ran
  generalize s.awakened snap echo = r at ran rframe rbytes rwf
  have rstation (n : StationId) : r.station n = s.station n := State.station_eq (by rw [rframe]) n
  have record (n : StationId) (o : Nat) (small : o < 128) : r.byte (stationBase n + o) = s.byte (stationBase n + o) :=
    rbytes _ (.inr (by have := stationBase_bound n; omega))
  have resumed : forAll allEngines (fun e t => t.resumeEngine e) r = r :=
    forAll_invariant (P := fun t => t = r) (fun e t same => by
      rw [same]
      refine resumeEngine_free fun next held => ?_
      rw [State.engine_eq (s := s) (by rw [rframe])] at held
      exact nomatch (idle e).symm.trans held) _ rfl
  have active := activateAll rwf (by rw [State.configured, rframe]; rfl) (fun n => (rstation n).trans (reset n))
    allStations allStations_nodup
  change Activated r r.activateSupervisor allStations at active
  rw [tellBlocks_first resumed] at ran
  generalize r.activateSupervisor = v at ran active
  obtain ⟨frame, causes, station, -, code, follows, bytes, -⟩ := active
  have rwaiting : r.waiting = [] := by rw [rframe]; exact empty
  have waiting : v.waiting = [] := (congrArg State.waiting frame).trans rwaiting
  rw [allocate_empty (s := v.setSweeper { v.sweeper with timer := v.readSweepPeriod }) waiting] at ran
  have key (n : StationId) : r.recordKey n = s.recordKey n := by
    simp only [State.recordKey, record n stState (by decide), record n stPresent (by decide), record n stFaultCause (by decide)]
  have regs : v.regs = { s.regs with
      enable := true, snapshot := v.regs.snapshot
      causes := if ∃ n, v.recordKey n ≠ s.recordKey n ∧ s.byte (stationBase n + 0x18) ≠ 1
        then s.regs.causes ||| 0b00010 else s.regs.causes } := by
    have rregs : r.regs = { s.regs with enable := true, snapshot := some snap } := by rw [rframe]
    have vregs : v.regs = { r.regs with causes := v.regs.causes } := congrArg State.regs frame
    have raised : v.regs.causes = if ∃ n, v.recordKey n ≠ s.recordKey n ∧ s.byte (stationBase n + 0x18) ≠ 1
        then s.regs.causes ||| 0b00010 else s.regs.causes := by
      rw [causes, rregs]
      refine if_congr (exists_congr fun n => ?_) rfl rfl
      rw [and_iff_right (mem_allStations n), key, record n 0x18 (by omega)]
    rw [← raised]
    have snapshot : v.regs.snapshot = some snap := by rw [vregs, rregs]
    rw [snapshot, vregs, rregs]
  have tracker : v.tracker = { s.tracker with angle := 0, valid := false, stopTimer := 0 } := by
    rw [frame]
    change r.tracker = _
    rw [rframe]
  have same (a : Nat) (apart : ∀ n, ∀ o, eventOffset o = true → a ≠ stationBase n + o) : v.byte a = r.byte a :=
    bytes a fun n _ => apart n
  have facts : (∀ n, v.station n = { Station.reset with setup := s.readSetup n }) ∧
      (∀ n, v.byte (stationBase n + 0x10) = if s.byte (stationBase n) ≠ 0 then 0x01 else 0x00) ∧
      (∀ n, s.recordFollows v n) ∧
      (∀ n a, (∀ o, eventOffset o = true → a ≠ stationBase n + o) → stationBase n ≤ a → a < stationBase n + 128 →
        v.byte a = s.byte a) ∧ ∀ a, a < 0x80 ∨ 0x700 ≤ a → v.byte a = s.byte a := by
    refine ⟨fun n => ?_, fun n => ?_, fun n => ?_, fun n a apart low high => ?_, fun a outside => ?_⟩
    · rw [station n (mem_allStations n), readSetup_congr fun o small => record n o (by omega)]
    · rw [code n (mem_allStations n), show r.byte (stationBase n) = s.byte (stationBase n) from record n 0 (by omega)]
    · exact (follows n (mem_allStations n)).from_same (by rw [rframe]) fun o small => record n o (by omega)
    · rw [same a fun m o event => ?_, rbytes a (.inr (by have := stationBase_bound n; omega))]
      by_cases own : m = n
      · exact own ▸ apart o event
      · have away := records_apart (m := n) (n := m) (Ne.symm own) (o := a - stationBase n) (by omega) (eventOffset_small event)
        omega
    · rw [same a fun m o event => ?_, rbytes a (by omega)]
      have := stationBase_bound m
      have := eventOffset_small event
      omega
  obtain ⟨fstation, fcode, ffollows, fbytes, foutside⟩ := facts
  have engines : v.engines = s.engines := by rw [frame]; change r.engines = _; rw [rframe]
  have holds : v.holds = s.holds := by rw [frame]; change r.holds = _; rw [rframe]
  have crosspoint : v.crosspoint = s.crosspoint := by rw [frame]; change r.crosspoint = _; rw [rframe]
  have cache : v.cache = s.cache := by rw [frame]; change r.cache = _; rw [rframe]
  refine ⟨_, ran, ?_⟩
  split <;> exact ⟨fstation, fcode, ffollows, fbytes, regs, tracker, engines, holds, crosspoint, cache, foutside⟩

end

end Sys2Proof.Machine
end

section
/-! The clock on an empty queue: what is due, and what a tick counts (log entries 2, 26). -/

namespace Sys2Proof.Machine

section
variable {s t : State} {n : StationId} {e : EngineId}

/-! ## What the clock has brought -/

theorem levelLength_eq (f : Frame) : f.levelLength = f.drivenTicks := by
  unfold Frame.levelLength Frame.drivenTicks
  cases f.phase with
  | none => rfl
  | some p =>
    cases p with
    | command b high => cases high <;> rfl
    | _ => rfl

/-- What a decoder's counters have brought, with the echo lines of the tail's end. -/
def Frame.dueWith (f : Frame) (e : EngineId) (echo : Levels) : List Instr :=
  (f.due e).map fun c => match c with | .tailEnd e _ => .tailEnd e echo | c => c

/-- While a level is driven only its end can be due. -/
theorem dueWith_driven {f : Frame} {p : FramePhase} (phase : f.phase = some p)
    (driven : p = .wakeHigh ∨ p = .wakeLow ∨ ∃ b high, p = .command b high) (e : EngineId) (echo : Levels) :
    f.dueWith e echo = if ∃ k, f.drivenTicks = some k ∧ k ≤ f.level then [.frameLevelEnd e] else [] := by
  have due : f.due e = match f.levelLength with
      | some len => if len ≤ f.level then [.frameLevelEnd e] else []
      | none => [] := by
    unfold Frame.due
    rw [phase]
    obtain rfl | rfl | ⟨b, high, rfl⟩ := driven <;> rfl
  unfold Frame.dueWith
  rw [due, levelLength_eq]
  cases f.drivenTicks with
  | none => simp
  | some k => by_cases ends : k ≤ f.level <;> simp [ends]

theorem drivenTicks_rest {f : Frame} {p : FramePhase} (phase : f.phase = some p)
    (rest : p = .answerWait ∨ p = .answerHigh ∨ p = .answerGap ∨ p = .tail) : f.drivenTicks = none := by
  unfold Frame.drivenTicks
  rw [phase]
  obtain rfl | rfl | rfl | rfl := rest <;> rfl

/-- What a decoder's counters have brought, as the engine's. -/
theorem dueWith_brought (g : Engine) (e : EngineId) (echo : Levels) (low : g.rising = false) (reading : g.phase = .reading) :
    g.frame.dueWith e echo = g.brought e echo := by
  unfold Engine.brought
  rw [low, reading]
  simp only [Bool.false_eq_true, if_false, if_true]
  cases phase : g.frame.phase with
  | none => simp [Frame.dueWith, Frame.due, levelLength_eq, Frame.drivenTicks, phase]
  | some p =>
    by_cases driven : p = .wakeHigh ∨ p = .wakeLow ∨ ∃ b high, p = .command b high
    · rw [dueWith_driven phase driven]
      obtain rfl | rfl | ⟨b, high, rfl⟩ := driven <;> simp
    · have rest : p = .answerWait ∨ p = .answerHigh ∨ p = .answerGap ∨ p = .tail := by
        cases p <;> simp at driven ⊢
      have none := drivenTicks_rest phase rest
      unfold Frame.dueWith Frame.due
      rw [phase, none]
      obtain rfl | rfl | rfl | rfl := rest
      · simp
        split <;> rfl
      · simp
        split <;> rfl
      · simp
        split <;> rfl
      · cases g.frame.low <;> simp
        split <;> rfl

theorem engine_due_eq (g : Engine) (e : EngineId) (echo : Levels) : g.due e echo = g.brought e echo := by
  unfold Engine.due
  cases low : g.rising with
  | true =>
    unfold Engine.brought
    rw [low]
    rfl
  | false =>
    rw [if_neg nofun]
    by_cases reading : g.phase = .reading
    · rw [reading]
      exact dueWith_brought g e echo low reading
    · unfold Engine.brought
      rw [low]
      simp only [Bool.false_eq_true, if_false, reading]
      cases phase : g.phase <;> simp [phase] at reading ⊢
      cases g.profile <;> simp

theorem dueNow_eq (s : State) : s.dueNow = s.brought := by
  unfold State.dueNow State.brought Station.dueEvent
  simp only [engine_due_eq, Bool.and_eq_true]

theorem dueAtMillisecond_eq (s : State) : s.dueAtMillisecond = s.broughtByMillisecond := by
  unfold State.dueAtMillisecond State.broughtByMillisecond
  cases s.regs.snapshot with
  | none => rfl
  | some snap =>
    dsimp only
    have gates (e : EngineId) : (match s.question e with
        | some q => if s.regs.enable && !q.suspended && decide (snap.gateLimit.toNat ≤ q.timer) then [Instr.gateLimitExpiry e]
          else []
        | none => []) = if s.regs.enable = true ∧ ∃ q, s.question e = some q ∧ q.suspended = false ∧
          snap.gateLimit.toNat ≤ q.timer then [Instr.gateLimitExpiry e] else [] := by
      cases s.question e <;> simp [and_assoc]
    have stops : (!s.tracker.stopped && decide (snap.stopTimeout.toNat ≤ s.tracker.stopTimer)) = true ↔
        s.tracker.stopped = false ∧ snap.stopTimeout.toNat ≤ s.tracker.stopTimer := by simp
    rw [if_congr stops rfl rfl]
    have gatesAll := congrArg (fun act => allEngines.flatMap act) (funext gates)
    exact congrArg (fun due => [Instr.presenceSample s.pins.pres] ++
      (if s.tracker.stopped = false ∧ snap.stopTimeout.toNat ≤ s.tracker.stopTimer then [Instr.stopTimeout s.pins.echo]
        else []) ++ due ++
      (allStations.flatMap fun n => if (s.station n).recheck = some 0 then [Instr.recheckExpiry n s.pins.echo] else []) ++
      (match s.sweeper.timer with
        | .counting _ left => if left = 0 then [Instr.sweepTimerExpiry] else []
        | .off => [])) gatesAll

/-! ## The end of a tick in an engine (06 R108, R109, 07 R126 to R135) -/

/-- The engine with the levels of the tick sampled. -/
def Engine.sampled (g : Engine) (high ref : Bool) : Engine := { g with rising := false, echoBefore := high, refBefore := ref }

theorem tick_rising {g : Engine} (rising : g.rising = true) (work : g.phase ∈ ([.reading, .pulsing, .listening] : List Phase))
    (high ref : Bool) : g.tick high ref = g.sampled high ref := by
  unfold Engine.tick Engine.sampled
  simp only [List.mem_cons, List.not_mem_nil, or_false] at work
  obtain phase | phase | phase := work <;> rw [phase, rising] <;> rfl

theorem tick_reading {g : Engine} (low : g.rising = false) (reading : g.phase = .reading) (high ref : Bool) :
    g.tick high ref = { g.sampled high ref with frame := g.frame.tick g.echoBefore high } := by
  unfold Engine.tick Engine.sampled
  rw [reading, low]
  rfl

theorem tick_listening {g : Engine} (low : g.rising = false) (work : g.phase = .pulsing ∨ g.phase = .listening)
    (high ref : Bool) :
    g.tick high ref = { g.sampled high ref with capture := { g.capture with counter := g.capture.counter + 1 } } := by
  unfold Engine.tick Engine.sampled
  obtain phase | phase := work <;> rw [phase, low] <;> rfl

theorem tick_settling {g : Engine} (settling : g.phase = .settling) (high ref : Bool) :
    g.tick high ref = { g with settle := g.settle + 1 } := by
  unfold Engine.tick
  rw [settling]

theorem tick_other {g : Engine} (other : g.phase ∉ ([.reading, .pulsing, .listening, .settling] : List Phase))
    (high ref : Bool) : g.tick high ref = g := by
  unfold Engine.tick
  simp only [List.mem_cons, List.not_mem_nil, or_false, not_or] at other
  obtain ⟨reading, pulsing, listening, settling⟩ := other
  cases phase : g.phase with
  | reading => exact absurd phase reading
  | pulsing => exact absurd phase pulsing
  | listening => exact absurd phase listening
  | settling => exact absurd phase settling
  | _ => rfl

theorem frame_tick_driven {f : Frame} {k : Nat} (driven : f.drivenTicks = some k) (before high : Bool) :
    f.tick before high = { f with level := f.level + 1 } := by
  unfold Frame.tick
  cases phase : f.phase with
  | none => simp [Frame.drivenTicks, phase] at driven
  | some p =>
    cases p with
    | wakeHigh | wakeLow | command => rfl
    | _ => simp [Frame.drivenTicks, phase] at driven

/-- What a tick makes of an engine, phase by phase. -/
def Engine.counts (g t : Engine) (high ref : Bool) : Prop :=
  let f := g.frame
  let counts := fun x : Frame => t = { g.sampled high ref with frame := x }
  (g.rising = true → g.phase ∈ ([.reading, .pulsing, .listening] : List Phase) → t = g.sampled high ref) ∧
  (g.rising = false → g.phase = .reading →
    (∀ n, f.drivenTicks = some n → counts { f with level := f.level + 1 }) ∧
    (f.phase = some .answerWait → counts { f with listen := f.listen + 1 }) ∧
    (f.phase = some .answerHigh → counts { f with
      listen := f.listen + 1
      width := if g.echoBefore = true ∧ high = true then f.width + 1 else f.width }) ∧
    (f.phase = some .answerGap → counts { f with
      listen := f.listen + 1
      gap := if g.echoBefore = false ∧ high = false then f.gap + 1 else f.gap }) ∧
    (f.phase = some .tail → counts { f with
      listen := f.listen + 1
      low := some (match f.low with | none => 0 | some k => if high then 0 else k + 1) }) ∧
    (f.phase = none → counts f)) ∧
  (g.rising = false → g.phase = .pulsing ∨ g.phase = .listening →
    t = { g.sampled high ref with capture := { g.capture with counter := g.capture.counter + 1 } }) ∧
  (g.phase = .settling → t = { g with settle := g.settle + 1 }) ∧
  (g.phase ∉ ([.reading, .pulsing, .listening, .settling] : List Phase) → t = g)

theorem tick_counts (g : Engine) (high ref : Bool) : g.counts (g.tick high ref) high ref := by
  refine ⟨fun rising work => tick_rising rising work high ref, fun low reading => ?_,
    fun low work => tick_listening low work high ref, fun settling => tick_settling settling high ref,
    fun other => tick_other other high ref⟩
  rw [tick_reading low reading]
  have same {x : Frame} (frame : g.frame.tick g.echoBefore high = x) :
      ({ g.sampled high ref with frame := g.frame.tick g.echoBefore high } : Engine) = { g.sampled high ref with frame := x } := by
    rw [frame]
  refine ⟨fun n driven => same (frame_tick_driven driven _ _), fun phase => same ?_, fun phase => same ?_,
    fun phase => same ?_, fun phase => same ?_, fun phase => same ?_⟩
  · unfold Frame.tick
    rw [phase]
  · unfold Frame.tick
    rw [phase]
    simp only [Bool.and_eq_true]
  · unfold Frame.tick
    rw [phase]
    cases g.echoBefore <;> cases high <;> rfl
  · unfold Frame.tick
    rw [phase]
    cases g.frame.low <;> rfl
  · unfold Frame.tick
    rw [phase]

/-! ## The tick whole -/

/-- The part at the end of a tick, before what has come due is queued; ms says whether the tick ends a millisecond. -/
def State.ticked (s : State) (ms : Bool) : State :=
  let t := s.releaseDrivers.tickEngines
  if ms then { t.millisecond with msTicks := 0 } else { t with msTicks := s.msTicks + 1 }

theorem tick_eq (running : s.inReset = false) (quiet : s.brought = []) :
    s.tick = { s.ticked (decide (200000 ≤ s.msTicks + 1)) with
      pending := (s.ticked (decide (200000 ≤ s.msTicks + 1))).brought ++
        if 200000 ≤ s.msTicks + 1 then (s.ticked (decide (200000 ≤ s.msTicks + 1))).broughtByMillisecond else [] } := by
  rw [← dueNow_eq] at quiet
  by_cases ms : 200000 ≤ s.msTicks + 1
  · rw [State.tick_millisecond running quiet ms, decide_eq_true ms, if_pos ms, dueNow_eq, dueAtMillisecond_eq]
    unfold State.ticked
    dsimp only
    rw [if_pos rfl]
  · rw [State.tick_within running quiet (not_le.mp ms), decide_eq_false ms, if_neg ms, dueNow_eq, List.append_nil]
    unfold State.ticked
    dsimp only
    rw [if_neg nofun]
    generalize s.releaseDrivers.tickEngines = t
    rfl

/-- What the end of a tick leaves and counts. -/
theorem ticked_counts (s : State) (ms : Bool) :
    let t := s.ticked ms
    t = { s with
      tracker := { s.tracker with
        stopTimer := if ms = true ∧ s.regs.snapshot ≠ none then s.tracker.stopTimer + 1 else s.tracker.stopTimer
        questions := t.tracker.questions }
      sweeper := { s.sweeper with timer := if ms then s.sweeper.timer.tick else s.sweeper.timer }
      stations := t.stations, engines := t.engines, overloadHold := t.overloadHold
      msTicks := if ms then 0 else s.msTicks + 1 } ∧
    (∀ n, t.station n = { s.station n with
      recheck := if ms then (s.station n).recheck.map (· - 1) else (s.station n).recheck }) ∧
    (∀ n, t.overloadHold.getLsbD n.val = (s.overloadHold.getLsbD n.val && (s.driver n).isSome)) ∧
    (∀ e, t.question e = (s.question e).map fun q =>
      if ms = true ∧ s.regs.enable = true ∧ q.suspended = false then { q with timer := q.timer + 1 } else q) ∧
    ∀ e, t.engine e = (s.engine e).tick (s.echoOf e) (s.refHigh e) := by
  have hold (n : StationId) := s.releaseDrivers_bit n
  unfold State.ticked
  dsimp only
  rw [State.tickLines_eq]
  generalize s.releaseDrivers = u at hold ⊢
  have engine (e : EngineId) : (Vector.ofFn fun e => (s.engine e).tick (s.echoOf e) (s.refHigh e))[e.val] =
      (s.engine e).tick (s.echoOf e) (s.refHigh e) := by simp
  cases ms with
  | false =>
    rw [if_neg nofun]
    refine ⟨?_, fun n => rfl, hold, fun e => ?_, engine⟩
    · simp
    · simp [State.question]
  | true =>
    rw [if_pos rfl, State.millisecond_eq]
    refine ⟨?_, fun n => ?_, hold, fun e => ?_, engine⟩
    · have stop : (if s.configured = true then s.tracker.stopTimer + 1 else s.tracker.stopTimer) =
          if true = true ∧ s.regs.snapshot ≠ none then s.tracker.stopTimer + 1 else s.tracker.stopTimer :=
        if_congr (by rw [State.configured_iff, and_iff_right rfl]) rfl rfl
      rw [← stop]
      rfl
    · simp [State.station, Station.tickRecheck]
    · have tick : Question.tick s.regs.enable = fun q =>
          if s.regs.enable = true ∧ q.suspended = false then { q with timer := q.timer + 1 } else q := by
        funext q
        simp [Question.tick]
      simp [State.question, tick]

/-- Settles O3: the clock by its cases, the engines by theirs. -/
theorem idleTickOnlyCounts : Obligations.IdleTickOnlyCounts := by
  intro s empty
  have stepped : step s = .next s.tick := by
    unfold step
    rw [empty]
  refine ⟨s.tick, stepped, State.tick_reset, fun running due => ?_, fun running quiet => ?_⟩
  · rw [State.tick_due running (by rwa [dueNow_eq]), dueNow_eq]
  · rw [tick_eq running quiet]
    have facts := ticked_counts s (decide (200000 ≤ s.msTicks + 1))
    dsimp only at facts
    generalize s.ticked (decide (200000 ≤ s.msTicks + 1)) = t at facts ⊢
    simp only [decide_eq_true_iff] at facts
    obtain ⟨frame, station, hold, question, engine⟩ := facts
    have timer : t.sweeper.timer = if 200000 ≤ s.msTicks + 1 then s.sweeper.timer.tick else s.sweeper.timer := by rw [frame]
    refine ⟨?_, fun period left counting => ?_, fun off => ?_, station, hold, question, fun e => ?_⟩
    · refine (congrArg (fun a : State => ({ a with pending := t.brought ++
        if 200000 ≤ s.msTicks + 1 then t.broughtByMillisecond else [] } : State)) frame).trans ?_
      rw [← timer]
      rfl
    · change t.sweeper.timer = _
      rw [timer, counting]
      split <;> rfl
    · change t.sweeper.timer = _
      rw [timer, off, SweepTimer.tick, ite_self]
    · have counts := tick_counts (s.engine e) (s.echoOf e) (s.refHigh e)
      rw [← engine e] at counts
      exact counts

end

end Sys2Proof.Machine
end
